-- ==== Sys2Proof/Word.lean ====
section
/-! DEFINITION. The words of the serial link.

The DR2 has no register file of machine words: the only bit patterns it exchanges with the outside are the bytes of the
serial link (R195, R206) and the 12-bit converter counts (R138). Everything else the spec counts is a number; a length of time is
a number of microseconds, the period of the 1 MHz reference, where its own comment does not say otherwise. -/

namespace Sys2Proof

/-- One byte of the serial link (R195). -/
abbrev Byte := BitVec 8

/-- A two-byte link field, already put together from its bytes, least significant first (R206). -/
abbrev Half := BitVec 16

/-- A count of the 12-bit converter of the temperature channels (R138). -/
abbrev ConverterCount := BitVec 12

end Sys2Proof
end

