-- ==== Sys2Proof/Config.lean ====
section
/-! DEFINITION. What the spec leaves open: opaque constants, applied to the model's own counter `State.free` so that each use
may have another value. No proof can see what they are; a statement that holds of the model holds whatever they are.

What the host configures (CONFIGURE, R151) is state, not configuration in this sense, and stands in `Machine.Appliance`. -/

namespace Sys2Proof.Config

/-- The measured speed after a TACH edge that finds the capture count at 0. R74 gives floor(500,000 / p), which states
nothing for p = 0. Assumption log entry 5. -/
opaque zeroPeriodSpeed : Nat → Nat

/-- The imbalance measure U of a revolution whose mean period is 0. R99 divides by the mean and rules this out only because
every period is at least 1 tick; see entry 5 of the assumption log. -/
opaque zeroMeanImbalance : Nat → Nat

/-- Which of several events that are due at the same moment is taken first. The spec takes either first (R32, R126, R181 and
others). Assumption log entry 3. -/
opaque dueChoice : Nat → Nat

/-- Whether a conversion that both reports SENSOR and meets the COOL end condition reports before it ends the phase.
R32 takes either first. Assumption log entry 6. -/
opaque reportBeforeEnd : Nat → Bool

/-- Whether UPPER is reported before LOWER when the silence timer expires with both pockets to be reported (R203 gives no
order). Assumption log entry 7. -/
opaque upperFirst : Nat → Bool

/-- Whether a PUT_PHASE or an ERASE_PHASE that reaches the pool together with an event by which a pocket releases and
re-activates the slot is taken between the release and the check (R20). Assumption log entry 19. -/
opaque writeBetween : Nat → Bool

end Sys2Proof.Config
end

