-- ==== Sys2Proof/Syntax.lean ====
section
/-! DEFINITION. The commands of the DR2: one constructor for each row of spec/opcode_table.json.

A host request carries its fields as the link carries them (R206, R207), unexamined: a field that a request's rule refuses
or clamps can be written here. An event of the plant or of a timer names the pocket or the channel it belongs to. -/

namespace Sys2Proof

/-- The two drying pockets (00_scope, Names). -/
inductive Pocket where
  | lower
  | upper
  deriving DecidableEq, Repr

/-- The five temperature channels, in their numbering 0 to 4 (R138). -/
inductive Channel where
  | lowerInlet
  | lowerExhaust
  | upperInlet
  | upperExhaust
  | ambient
  deriving DecidableEq, Repr

/-- The payload of CONFIGURE, every field whole and as sent (R151, R207). -/
structure ConfigureFields where
  budget        : Byte
  weight0       : Byte
  weight1       : Byte
  weight2       : Byte
  weight3       : Byte
  weight4       : Byte
  weight5       : Byte
  frame         : Byte
  reserveUnits  : Byte
  reserveCycles : Byte
  inletHigh     : Half
  silence       : Byte
  resumeLimit   : Half
  openLimit     : Half
  deriving DecidableEq, Repr

/-- A command: a host request as its owner receives it (R200), a step of the Link Port, or an event of the plant, of a
timer or of RESET_N. The constructors stand in the order of spec/opcode_table.json. -/
inductive Instr where
  | configure (fields : ConfigureFields)
  | setTempCal (channel : Byte) (cLo tLo cHi tHi : Half)
  | calMoisture (pocket : Byte)
  | setDefaults (pocket mask : Byte) (groups : List Byte)
  | putMotion (pocket index direction speed duration : Byte)
  | putPhase (slot kind next : Byte) (maxTime : Half) (segFirst segLast quals mask : Byte) (groups : List Byte)
  | erasePhase (slot : Byte)
  | getPhase (slot : Byte)
  | setSafe (pocket slot : Byte)
  | start (pocket slot : Byte)
  | pause (pocket : Byte)
  | resume (pocket : Byte)
  | advance (pocket : Byte)
  | abort (pocket : Byte)
  | backstep (pocket k : Byte)
  | clearFault (pocket faults : Byte)
  | getStatus (target : Byte)
  | getHistory (pocket : Byte)
  | getTemps
  | readTrend
  | flushTrend
  | trendMode (mode threshold : Byte)
  | resetPart
  | powerOn
  | receiveByte (byte : Byte) (stopBitGood : Bool)
  | receiveSilenceTimeout
  | frameTaken
  | replyTransmissionBegin
  | noticeFrameBegin
  | transmissionEnd
  | silenceTimerExpiry
  | doorOpening (p : Pocket)
  | doorClosing (p : Pocket)
  | phaseTimerExpiry (p : Pocket)
  | unattendedResume (p : Pocket)
  | fanRunOnExpiry (p : Pocket)
  | tachEdge (p : Pocket)
  | tachoCaptureOverflow (p : Pocket)
  | unwindBoundExpiry (p : Pocket)
  | loosenDwellExpiry (p : Pocket)
  | stopConfirmed (p : Pocket)
  | standstillExpiry (p : Pocket)
  | entryDurationExpiry (p : Pocket)
  | startTimeout (p : Pocket)
  | speedLossTimeout (p : Pocket)
  | stopTimeout (p : Pocket)
  | mpulseEdge (p : Pocket)
  | forcedOpenPeriod (p : Pocket)
  | calIsolatedPartEnd (p : Pocket)
  | calComplete (p : Pocket)
  | windowEnd (p : Pocket)
  | channelConversion (channel : Channel) (count : ConverterCount)
  | cutoutOpening (p : Pocket)
  | zeroCross
  | mainsLoss
  | airfDeasserted (p : Pocket)
  | airfAsserted (p : Pocket)
  | airflowTimeout (p : Pocket)
  | cutoutClosing (p : Pocket)
  deriving DecidableEq, Repr

end Sys2Proof
end

