-- ==== Sys2Proof/Machine/State.lean ====
section
/-! DEFINITION. The state of the DR2 as plain data, block by block, and its value right after reset.

Per-pocket state stands in `PocketUnit`, of which `State` holds two. Every register has one home; outputs that follow from
other state (RUN, FAN, MSEL, SREF) are views defined in Machine/Ops.lean. -/

namespace Sys2Proof.Machine

/-! ## Phase records and the record pool (chapter 1) -/

/-- A slot of the record pool, 0 to 47 (R1). -/
abbrev SlotNo := Fin 48

/-- An entry of a motion table, 0 to 31 (R69). -/
abbrev EntryNo := Fin 32

/-- The four kinds of phase (R2). -/
inductive Kind where
  | dry
  | timed
  | cool
  | tumble
  deriving DecidableEq, Repr

/-- The qualifier set (R3). -/
structure Quals where
  holdAtEnd    : Bool
  retryAllowed : Bool
  keepEstimate : Bool
  deriving DecidableEq, Repr

/-- The heat group (R4). Temperatures in 0.1 °C. -/
structure HeatGroup where
  setpoint      : Int
  band          : Nat
  exhaustLimit  : Int
  pauseCeiling  : Nat
  tangleCeiling : Nat
  deriving DecidableEq, Repr

/-- The dry group (R5). The window length is in units of 100 ms, the minimum time in seconds. -/
structure DryGroup where
  target  : Nat
  confirm : Nat
  k       : Nat
  window  : Nat
  minTime : Nat
  deriving DecidableEq, Repr

/-- The cool group (R6). -/
structure CoolGroup where
  endTemp : Int
  deriving DecidableEq, Repr

/-- The tangle group (R6). The loosen dwell is in seconds. -/
structure TangleGroup where
  twistLimit         : Nat
  imbalanceThreshold : Nat
  imbalanceRevs      : Nat
  unwindRevs         : Nat
  loosenDwell        : Nat
  antiTangleLimit    : Nat
  deriving DecidableEq, Repr

/-- A default profile: one full group of each kind (R7). -/
structure Profile where
  heat   : HeatGroup
  dry    : DryGroup
  cool   : CoolGroup
  tangle : TangleGroup
  deriving DecidableEq, Repr

/-- A phase record: core fields, qualifier set and four optional groups (R1 to R6). `next` is `none` for END. -/
structure PhaseRecord where
  kind     : Kind
  next     : Option SlotNo
  maxTime  : Nat
  segFirst : EntryNo
  segLast  : EntryNo
  quals    : Quals
  heat     : Option HeatGroup
  dry      : Option DryGroup
  cool     : Option CoolGroup
  tangle   : Option TangleGroup
  deriving DecidableEq, Repr

/-- A slot of the pool with its slot state; an EMPTY slot holds no record (R1). -/
inductive Slot where
  | empty
  | loaded (record : PhaseRecord)
  | active (p : Pocket) (record : PhaseRecord)
  deriving DecidableEq, Repr

/-! ## The Pocket Sequencer (chapters 1 to 3) -/

/-- The run states (R24). -/
inductive RunState where
  | idle
  | running
  | paused
  | held
  | safe
  | halted
  | done
  deriving DecidableEq, Repr

/-- Where a RESUME takes a PAUSED pocket (R24). -/
inductive ResumeTarget where
  | running
  | safe
  deriving DecidableEq, Repr

/-- How a phase ended (R33). -/
inductive PhaseOutcome where
  | dry
  | timeout
  | time
  | cooled
  | skipped
  | abandoned
  | faulted
  | aborted
  deriving DecidableEq, Repr

/-- An entry of the checkpoint history (R56). -/
structure Checkpoint where
  slot       : SlotNo
  ordinal    : Nat
  eStart     : Option Nat
  twistStart : Int
  outcome    : Option PhaseOutcome
  deriving DecidableEq, Repr

/-- A pocket's working set (R16), the active slot included. -/
structure WorkingSet where
  active    : Option SlotNo
  kind      : Kind
  next      : Option SlotNo
  maxTime   : Nat
  segFirst  : EntryNo
  segLast   : EntryNo
  quals     : Quals
  heat      : HeatGroup
  dry       : DryGroup
  cool      : CoolGroup
  tangle    : TangleGroup
  timedOnly : Bool
  deriving DecidableEq, Repr

/-- A Pocket Sequencer (R24, R56, R57). `phaseTimer`, `pauseTimer` and `doorClosedFor` are in microseconds, so a phase
timer's sub-second remainder is part of it; `fanRunOn` is in seconds and `fanFraction` is the time run in the current one. -/
structure Sequencer where
  run           : RunState
  work          : WorkingSet
  profile       : Profile
  anchor        : Option SlotNo
  phaseTimer    : Nat
  confirm       : Nat
  pauseTimer    : Nat
  resumeTarget  : ResumeTarget
  held          : Bool
  restored      : Bool
  safeBegun     : Bool
  unattended    : Bool
  doorClosedFor : Nat
  fanRunOn      : Nat
  fanFraction   : Nat
  history       : List Checkpoint
  activations   : Nat
  deriving DecidableEq, Repr

/-! ## The Drum Motion Unit (chapters 4 and 5) -/

/-- The level of a DIR output, or the direction of a run (R76, R77). -/
inductive Dir where
  | fwd
  | rev
  deriving DecidableEq, Repr

/-- The direction field of a motion entry (R69). -/
inductive Motion where
  | run (dir : Dir)
  | dwell
  deriving DecidableEq, Repr

/-- A motion entry with its written mark; the duration is in half-seconds (R69). -/
structure MotionEntry where
  motion   : Motion
  speed    : Nat
  duration : Nat
  written  : Bool
  deriving DecidableEq, Repr

/-- The drive order (R72). -/
inductive DriveOrder where
  | runSegment
  | stop
  deriving DecidableEq, Repr

/-- The active segment with its cursor (R72). While the pocket is PAUSED the suspended entry is the entry at the cursor. -/
structure Segment where
  first  : EntryNo
  last   : EntryNo
  cursor : EntryNo
  deriving DecidableEq, Repr

/-- The drum states (R76). -/
inductive DrumState where
  | stopped
  | starting
  | turning
  | stopping
  | settle
  deriving DecidableEq, Repr

/-- One tacho edge of the revolution in progress: its period, or none if it gave none, and whether it was received in a
counted condition (R95, R98). -/
structure EdgeRecord where
  period  : Option Nat
  counted : Bool
  deriving DecidableEq, Repr

/-- The stages of an unwind step (R102 to R104). -/
inductive UnwindStage where
  | stop
  | loosen
  | run
  deriving DecidableEq, Repr

/-- What inserted an unwind step (R102). -/
inductive TriggerKind where
  | twist
  | imbalance
  deriving DecidableEq, Repr

/-- An unwind step (R95). `timer` measures the loosen dwell in stage LOOSEN and, once `asserted`, the run in stage RUN. -/
structure Unwind where
  stage       : UnwindStage
  dir         : Dir
  speed       : Nat
  required    : Nat
  completed   : Nat
  interrupted : EntryNo
  trigger     : TriggerKind
  asserted    : Bool
  timer       : Nat
  deriving DecidableEq, Repr

/-- A Drum Motion Unit (R69 to R95). `tachPassed` records that the capture count passed 65,535 and the passing has been
taken; `entryTime` is the counted time of the entry in progress, none while it does not count; `settleTimer` is the time
stood in STOPPED and SETTLE since the stop was confirmed, none where it does not count (R82, entry 20). -/
structure Drum where
  table          : Vector MotionEntry 32
  order          : DriveOrder
  segment        : Option Segment
  entryTime      : Option Nat
  state          : DrumState
  dir            : Dir
  pendingDir     : Option Dir
  commanded      : Nat
  tachCount      : Nat
  tachPassed     : Bool
  speed          : Nat
  quiet          : Nat
  startTimer     : Option Nat
  speedLossTimer : Option Nat
  stopTimer      : Option Nat
  settleTimer    : Option Nat
  revPulse       : Nat
  revNumber      : Nat
  revPeriods     : List EdgeRecord
  twist          : Int
  imbalanceRun   : Nat
  unwind         : Option Unwind
  antiTangle     : Nat
  limitReached   : Bool
  deriving DecidableEq, Repr

/-! ## The Moisture Sense Unit (chapter 6) -/

/-- The part of a calibration operation in progress; the reference part keeps the first part's result (R115). -/
inductive CalPart where
  | isolated
  | reference (measuredOpen : Nat)
  deriving DecidableEq, Repr

/-- A calibration operation in progress (R115); its presence is the running mark. -/
structure Calibration where
  part    : CalPart
  elapsed : Nat
  edges   : Nat
  ticks   : Nat
  deriving DecidableEq, Repr

/-- The last completed calibration attempt (R115). -/
structure Attempt where
  gOpen  : Nat
  gRef   : Nat
  passed : Bool
  deriving DecidableEq, Repr

/-- A sensing window in progress (R120 to R125). `length`, `elapsed` and `turning` are in microseconds. -/
structure SenseWindow where
  length     : Nat
  elapsed    : Nat
  turning    : Nat
  totalTicks : Nat
  weighted   : Nat
  deriving DecidableEq, Repr

/-- A Moisture Sense Unit (R111 to R135). -/
structure Moisture where
  capture     : Nat
  gOpen       : Nat
  gRef        : Nat
  valid       : Bool
  calibration : Option Calibration
  lastAttempt : Option Attempt
  window      : Option SenseWindow
  estimate    : Option Nat
  lastReading : Option Nat
  sequence    : Nat
  deriving DecidableEq, Repr

/-! ## Temperature channels (chapter 7) -/

/-- The class of a conversion (R139). -/
inductive ConversionClass where
  | good
  | sensorOpen
  | sensorShort
  deriving DecidableEq, Repr

/-- A two-point calibration (R138). -/
structure TempCal where
  cLo : Nat
  tLo : Int
  cHi : Nat
  tHi : Int
  deriving DecidableEq, Repr

/-- A temperature channel (R138). -/
structure TempChannel where
  cal       : TempCal
  lastCount : Option Nat
  lastClass : Option ConversionClass
  history   : List Int
  reading   : Option Int
  badScans  : Nat
  deriving DecidableEq, Repr

/-- The Temperature Scan: five channels and the AMBIENT healthy mark (R138, R144). -/
structure TempScan where
  lowerInlet   : TempChannel
  lowerExhaust : TempChannel
  upperInlet   : TempChannel
  upperExhaust : TempChannel
  ambient      : TempChannel
  healthy      : Bool
  deriving DecidableEq, Repr

/-! ## Heat Regulator and Supply Arbiter (chapter 8) -/

/-- An element's number in supply-arbiter order, L1, L2, L3, U1, U2, U3 (00, Names). -/
abbrev ElementNo := Fin 6

/-- The appliance configuration (R151). -/
structure Appliance where
  budget        : Nat
  weights       : Vector Nat 6
  frame         : Nat
  reserveUnits  : Nat
  reserveCycles : Nat
  inletHigh     : Int
  silence       : Nat
  resumeLimit   : Nat
  openLimit     : Nat
  deriving DecidableEq, Repr

/-- The part of the Heat Regulator and Supply Arbiter that serves both pockets (R151, R154, R155, R166). -/
structure Supply where
  config       : Appliance
  configured   : Bool
  framePos     : Nat
  pointer      : ElementNo
  mainsPresent : Bool
  zcElapsed    : Nat
  deriving DecidableEq, Repr

/-- A heater element: its on-count for the frame, its accumulator and its output (R162, R164, R167). -/
structure Element where
  onCount     : Nat
  accumulator : Nat
  output      : Bool
  deriving DecidableEq, Repr

/-- The Heat Regulator's and the arbiter's state of one pocket (R161, R164, R169 to R171). `reserve` is the count of
remaining cycles of the start reserve, 0 while it is closed. -/
structure PocketHeat where
  demand      : Nat
  elements    : Vector Element 3
  reserve     : Nat
  grantedNow  : Nat
  grantedLast : Nat
  airTimer    : Option Nat
  deriving DecidableEq, Repr

/-! ## Faults and notices (chapter 9) -/

/-- The six faults (R175). -/
inductive PocketFault where
  | overheat
  | sensor
  | airflow
  | drive
  | chain
  | linkLost
  deriving DecidableEq, Repr

/-- A pocket's fault set: the latch of each fault (R175). -/
structure FaultSet where
  overheat : Bool
  sensor   : Bool
  airflow  : Bool
  drive    : Bool
  chain    : Bool
  linkLost : Bool
  deriving DecidableEq, Repr

/-- The notices of a pocket (R182). -/
inductive PocketNotice where
  | phaseEnd
  | held
  | chainDone
  | tangleLimit
  | noDryness
  | calDone
  | calFail
  | faultLatched
  deriving DecidableEq, Repr

/-- A pocket's notice set (R182). -/
structure NoticeSet where
  phaseEnd     : Bool
  held         : Bool
  chainDone    : Bool
  tangleLimit  : Bool
  noDryness    : Bool
  calDone      : Bool
  calFail      : Bool
  faultLatched : Bool
  deriving DecidableEq, Repr

/-- The notices of DEVICE (R182). -/
inductive DeviceNotice where
  | mainsLost
  | trendReady
  | trendLost
  | trendHalted
  deriving DecidableEq, Repr

/-- The DEVICE notice set (R182), with the Link Port's pending-notice mark for DEVICE (R202). -/
structure DeviceNotices where
  mainsLost   : Bool
  trendReady  : Bool
  trendLost   : Bool
  trendHalted : Bool
  mark        : Bool
  deriving DecidableEq, Repr

/-! ## The Trend Buffer (chapter 10) -/

/-- The reading of a trend record (R187). -/
inductive Reading where
  | absent
  | measured (m : Nat)
  | void
  deriving DecidableEq, Repr

/-- A trend record (R187). -/
structure TrendRecord where
  pocket   : Pocket
  slot     : SlotNo
  ordinal  : Nat
  sequence : Nat
  reading  : Reading
  estimate : Option Nat
  inlet    : Option Int
  exhaust  : Option Int
  drum     : DrumState
  twist    : Int
  granted  : Nat
  deriving DecidableEq, Repr

/-- The two banks of the Trend Buffer (R188). -/
inductive Bank where
  | a
  | b
  deriving DecidableEq, Repr

/-- The trend modes (R188). -/
inductive TrendMode where
  | swap
  | stop
  deriving DecidableEq, Repr

/-- The Trend Buffer (R188). Each bank lists its records oldest first. -/
structure TrendBuffer where
  bankA     : List TrendRecord
  bankB     : List TrendRecord
  fill      : Bank
  mode      : TrendMode
  threshold : Nat
  halted    : Bool
  deriving DecidableEq, Repr

/-! ## The Link Port (chapter 11) -/

/-- The result codes (R206). -/
inductive ResultCode where
  | ok
  | okClamped
  | busy
  | inUse
  | notReady
  | notAvailable
  | faulted
  | doorOpen
  | stillPresent
  | badRequest
  | unknown
  deriving DecidableEq, Repr

/-- A reply, without the status byte that its transmission adds (R199). `result` is none for the FRAME_ERROR frame. -/
structure Reply where
  kind   : Byte
  result : Option ResultCode
  data   : List Byte
  deriving DecidableEq, Repr

/-- The receive assembler; `gathered` holds the kind byte and the payload bytes received so far (R196). -/
inductive Assembler where
  | hunt
  | length
  | body (length : Nat) (gathered : List Byte)
  | check (length : Nat) (gathered : List Byte)
  deriving DecidableEq, Repr

/-- A complete frame in the inbound queue: kind byte and payload, and whether its check was good (R198). -/
structure InFrame where
  kind    : Byte
  payload : List Byte
  good    : Bool
  deriving DecidableEq, Repr

/-- TXD: idle, or sending one frame, a reply or a NOTICE frame (R201). `elapsed` is the time since its first bit. -/
inductive Transmitter where
  | idle
  | sending (isReply : Bool) (frame : List Byte) (elapsed : Nat)
  deriving DecidableEq, Repr

/-- The Link Port (R196 to R203). `answer` is the model's own record of the last reply an owner formed. -/
structure LinkPort where
  assembler      : Assembler
  byteSilence    : Nat
  inbound        : List InFrame
  overrun        : Bool
  replySlot      : Option Reply
  tx             : Transmitter
  silence        : Nat
  silenceExpired : Bool
  answer         : Option Reply
  deriving DecidableEq, Repr

/-! ## The whole part -/

/-- The levels of a pocket's switch inputs, true while asserted: door closed, airflow proven, cutout closed (00). -/
structure Pins where
  door   : Bool
  airf   : Bool
  cutout : Bool
  deriving DecidableEq, Repr

/-- Everything that exists once per pocket. `noticeMark` is the Link Port's pending-notice mark for the pocket (R202). -/
structure PocketUnit where
  seq        : Sequencer
  drum       : Drum
  moist      : Moisture
  heat       : PocketHeat
  faults     : FaultSet
  notices    : NoticeSet
  noticeMark : Bool
  pins       : Pins
  deriving DecidableEq, Repr

/-- The whole part. `prescale` is the phase of the 100 kHz reference, `free` the counter the free values are applied to, `raced`
the request whose write was carried out inside an activation and whose reply is still to be formed (R20, entry 19), and
`pending` the queue of waiting commands: these four are the model's own. -/
structure State where
  pool     : Vector Slot 48
  lower    : PocketUnit
  upper    : PocketUnit
  temps    : TempScan
  supply   : Supply
  device   : DeviceNotices
  trend    : TrendBuffer
  link     : LinkPort
  prescale : Nat
  free     : Nat
  raced    : Option Instr
  pending  : List Instr
  deriving DecidableEq, Repr

/-- The reasons for which the machine could stop with a fault: none. Every command of the DR2 has an effect, and what the
spec calls a fault is a latched condition of a pocket (R175), which is state. -/
inductive Fault where
  deriving DecidableEq, Repr

/-- The reasons for which a command could be refused by the model. -/
inductive Refusal where
  /-- Raised by `exec` for a command that has no meaning in the model yet; no arm uses it. Safe: nothing can be concluded
  about what the command does. -/
  | notModelled (mnemonic : String)
  deriving DecidableEq, Repr

/-! ## Reset -/

/-- The power-on default profile (R7). -/
def Profile.powerOn : Profile where
  heat   := { setpoint := 800, band := 100, exhaustLimit := 700, pauseCeiling := 0, tangleCeiling := 50 }
  dry    := { target := 200, confirm := 3, k := 2, window := 20, minTime := 300 }
  cool   := { endTemp := 450 }
  tangle := { twistLimit := 40, imbalanceThreshold := 64, imbalanceRevs := 3, unwindRevs := 3, loosenDwell := 5,
              antiTangleLimit := 6 }

/-- The empty qualifier set (R3). -/
def Quals.none : Quals := { holdAtEnd := false, retryAllowed := false, keepEstimate := false }

/-- The power-on working set (R19); kind, next, max_time and the segment are a DESIGN CHOICE, entry 4. -/
def WorkingSet.powerOn : WorkingSet where
  active    := .none
  kind      := .dry
  next      := .none
  maxTime   := 10
  segFirst  := 0
  segLast   := 0
  quals     := Quals.none
  heat      := Profile.powerOn.heat
  dry       := Profile.powerOn.dry
  cool      := Profile.powerOn.cool
  tangle    := Profile.powerOn.tangle
  timedOnly := false

/-- The power-on sequencer (R23, R55, R68). -/
def Sequencer.powerOn : Sequencer where
  run           := .idle
  work          := WorkingSet.powerOn
  profile       := Profile.powerOn
  anchor        := none
  phaseTimer    := 0
  confirm       := 0
  pauseTimer    := 0
  resumeTarget  := .running
  held          := false
  restored      := false
  safeBegun     := false
  unattended    := false
  doorClosedFor := 0
  fanRunOn      := 0
  fanFraction   := 0
  history       := []
  activations   := 0

/-- An unwritten motion entry; its contents are undefined in the spec (R69) and a DESIGN CHOICE here, entry 4. -/
def MotionEntry.unwritten : MotionEntry := { motion := .dwell, speed := 0, duration := 1, written := false }

/-- The power-on Drum Motion Unit (R94, R110). -/
def Drum.powerOn : Drum where
  table          := Vector.replicate 32 MotionEntry.unwritten
  order          := .stop
  segment        := none
  entryTime      := none
  state          := .stopping
  dir            := .fwd
  pendingDir     := none
  commanded      := 0
  tachCount      := 0
  tachPassed     := false
  speed          := 0
  quiet          := 0
  startTimer     := none
  speedLossTimer := none
  stopTimer      := some 0
  settleTimer    := none
  revPulse       := 0
  revNumber      := 0
  revPeriods     := []
  twist          := 0
  imbalanceRun   := 0
  unwind         := none
  antiTangle     := 0
  limitReached   := false

/-- The power-on Moisture Sense Unit (R137). -/
def Moisture.powerOn : Moisture where
  capture     := 0
  gOpen       := 0
  gRef        := 0
  valid       := false
  calibration := none
  lastAttempt := none
  window      := none
  estimate    := none
  lastReading := none
  sequence    := 0

/-- An element at power-on: on-count 0, accumulator 0, output off (R173). -/
def Element.off : Element := { onCount := 0, accumulator := 0, output := false }

/-- A pocket's heat state at power-on (R173). -/
def PocketHeat.powerOn : PocketHeat where
  demand      := 0
  elements    := Vector.replicate 3 Element.off
  reserve     := 0
  grantedNow  := 0
  grantedLast := 0
  airTimer    := none

/-- The empty fault set (R185). -/
def FaultSet.none : FaultSet :=
  { overheat := false, sensor := false, airflow := false, drive := false, chain := false, linkLost := false }

/-- The empty notice set (R185). -/
def NoticeSet.none : NoticeSet :=
  { phaseEnd := false, held := false, chainDone := false, tangleLimit := false, noDryness := false, calDone := false,
    calFail := false, faultLatched := false }

/-- The input levels right after reset, a DESIGN CHOICE, entry 8: door closed, no airflow, cutout closed. -/
def Pins.initial : Pins := { door := true, airf := false, cutout := true }

/-- Everything of one pocket at power-on. -/
def PocketUnit.powerOn : PocketUnit where
  seq        := Sequencer.powerOn
  drum       := Drum.powerOn
  moist      := Moisture.powerOn
  heat       := PocketHeat.powerOn
  faults     := FaultSet.none
  notices    := NoticeSet.none
  noticeMark := false
  pins       := Pins.initial

/-- A temperature channel at power-on (R150). -/
def TempChannel.powerOn : TempChannel where
  cal       := { cLo := 800, tLo := 200, cHi := 3200, tHi := 1700 }
  lastCount := none
  lastClass := none
  history   := []
  reading   := none
  badScans  := 0

/-- The Temperature Scan at power-on (R150). -/
def TempScan.powerOn : TempScan where
  lowerInlet   := TempChannel.powerOn
  lowerExhaust := TempChannel.powerOn
  upperInlet   := TempChannel.powerOn
  upperExhaust := TempChannel.powerOn
  ambient      := TempChannel.powerOn
  healthy      := false

/-- The power-on configuration (R151). -/
def Appliance.powerOn : Appliance where
  budget        := 0
  weights       := Vector.replicate 6 0
  frame         := 25
  reserveUnits  := 0
  reserveCycles := 0
  inletHigh     := 1200
  silence       := 5
  resumeLimit   := 60
  openLimit     := 50000

/-- The supply block at power-on (R173). -/
def Supply.powerOn : Supply where
  config       := Appliance.powerOn
  configured   := false
  framePos     := 0
  pointer      := 0
  mainsPresent := false
  zcElapsed    := 0

/-- The DEVICE notice set at power-on (R185, R205). -/
def DeviceNotices.none : DeviceNotices :=
  { mainsLost := false, trendReady := false, trendLost := false, trendHalted := false, mark := false }

/-- The Trend Buffer at power-on (R194). -/
def TrendBuffer.powerOn : TrendBuffer where
  bankA     := []
  bankB     := []
  fill      := .a
  mode      := .swap
  threshold := 32
  halted    := false

/-- The Link Port at power-on (R205). -/
def LinkPort.powerOn : LinkPort where
  assembler      := .hunt
  byteSilence    := 0
  inbound        := []
  overrun        := false
  replySlot      := none
  tx             := .idle
  silence        := 0
  silenceExpired := false
  answer         := none

/-- The machine right after reset: every piece of state at its power-on value, and an empty queue of commands. -/
def State.reset : State where
  pool     := Vector.replicate 48 .empty
  lower    := PocketUnit.powerOn
  upper    := PocketUnit.powerOn
  temps    := TempScan.powerOn
  supply   := Supply.powerOn
  device   := DeviceNotices.none
  trend    := TrendBuffer.powerOn
  link     := LinkPort.powerOn
  prescale := 0
  free     := 0
  raced    := none
  pending  := []

end Sys2Proof.Machine
end

