-- ==== Sys2Proof/Machine/Ops.lean ====
section
/-! DEFINITION. The named operations over the state that every family shares: the pocket and slot accessors, notices, the
fault latch, heat permission, the sensing window, output views, fixed times, and the counters that saturate. -/

namespace Sys2Proof.Machine

/-! ## Fixed times, in microseconds -/

/-- One second. -/
def second : Nat := 1000000

/-- The quiet time that confirms a stop (R75). -/
def stopQuiet : Nat := 800000

/-- The standstill of SETTLE (R82). -/
def standstill : Nat := 300000

/-- The start timer's limit (R89). -/
def startLimit : Nat := 10 * second

/-- The speed-loss timer's limit (R89). -/
def speedLossLimit : Nat := 5 * second

/-- The stop timer's limit (R90). -/
def stopLimit : Nat := 15 * second

/-- The bound of an unwind's run (R104). -/
def unwindBound : Nat := 120 * second

/-- How long a closed door lets an unattended pocket wait (R46). -/
def unattendedWait : Nat := 10 * second

/-- The fan run-on after entry into HALTED, in seconds (R51). -/
def fanRunOnSeconds : Nat := 120

/-- The length of a calibration part: 1,000,000 ticks of the 1 MHz reference (R117). -/
def calPartLength : Nat := 1000000

/-- The capture count at which a forced open period ends, and the last count that gives a tacho period (R74, R112). -/
def captureLimit : Nat := 65535

/-- The time without a zero-cross that is a loss of mains (R155). -/
def mainsLossTime : Nat := 60000

/-- The demand-without-airflow timer's limit (R171). -/
def airflowLimit : Nat := 5 * second

/-- The silence that discards a partial frame (R196). -/
def byteSilenceLimit : Nat := 10000

/-- How long a byte lasts: ten bit times at 38,400 baud, in whole microseconds (R195, entry 17). -/
def byteTime : Nat := 261

/-- The greatest pause timer, 65,535 s (R24). -/
def pauseTimerMax : Nat := 65535 * second

/-! ## Counting and clamping -/

/-- One more, but never above `bound`: a counter that saturates. -/
def bump (bound n : Nat) : Nat := min bound (n + 1)

/-- `n` clamped to `lo..hi` (00, Arithmetic). -/
def clampNat (lo hi n : Nat) : Nat := max lo (min hi n)

/-- `i` clamped to `lo..hi` (00, Arithmetic). -/
def clampInt (lo hi i : Int) : Int := max lo (min hi i)

/-- The other direction. -/
def Dir.opposite : Dir → Dir
  | .fwd => .rev
  | .rev => .fwd

/-- The other pocket. -/
def otherPocket : Pocket → Pocket
  | .lower => .upper
  | .upper => .lower

/-! ## Reaching into the state -/

/-- What the state holds for pocket `p`. -/
def State.unit (s : State) : Pocket → PocketUnit
  | .lower => s.lower
  | .upper => s.upper

/-- The state with pocket `p`'s part replaced. -/
def State.setUnit (s : State) (p : Pocket) (u : PocketUnit) : State :=
  match p with
  | .lower => { s with lower := u }
  | .upper => { s with upper := u }

/-- The state with pocket `p`'s part changed by `f`; the other pocket and the shared blocks stay (R24). -/
def State.onUnit (s : State) (p : Pocket) (f : PocketUnit → PocketUnit) : State := s.setUnit p (f (s.unit p))

/-- What a step of one pocket's sequencer may change: the shared pool and the pocket's own part. `raced` says that a write
racing with the step has been carried out inside it (R20). -/
structure PocketView where
  pool  : Vector Slot 48
  unit  : PocketUnit
  raced : Bool
  deriving DecidableEq, Repr

/-- What pocket `p`'s sequencer sees. -/
def State.view (s : State) (p : Pocket) : PocketView := { pool := s.pool, unit := s.unit p, raced := false }

/-- The state with what pocket `p`'s sequencer can change replaced. -/
def State.setView (s : State) (p : Pocket) (v : PocketView) : State := { s with pool := v.pool }.setUnit p v.unit

/-- The state after pocket `p`'s sequencer took the step `f`. -/
def State.onPocket (s : State) (p : Pocket) (f : PocketView → PocketView) : State := s.setView p (f (s.view p))

/-- A view with the pocket's own part changed by `f`; the pool stays. -/
def PocketView.onUnit (v : PocketView) (f : PocketUnit → PocketUnit) : PocketView := { v with unit := f v.unit }

/-- What a step of a pocket reads outside its own part and the pool: which pocket it is, the configured start reserve cycles
(R169, entry 24) and resume limit (R41), whether the silence timer stands expired (R203), and a write that reaches the pool
between the release and the check of an activation in this step, if there is one: its slot and what it leaves there (R20).
-/
structure Env where
  pocket         : Pocket
  reserveCycles  : Nat
  resumeLimit    : Nat
  silenceExpired : Bool
  racing         : Option (SlotNo × Slot)
  deriving DecidableEq, Repr

/-- The surroundings of pocket `p` as they stand, for a request: it is carried out as one event, and no other request comes
between (R200). The start reserve cycles are those that stand in the configuration (R152, R169), also between a CONFIGURE and
the next rising zero-cross, at which R153 lets them take effect: the model's choice (entry 24). -/
def State.env (s : State) (p : Pocket) : Env where
  pocket         := p
  reserveCycles  := s.supply.config.reserveCycles
  resumeLimit    := s.supply.config.resumeLimit
  silenceExpired := s.link.silenceExpired
  racing         := none

/-- A use of the free values: the counter goes on, so that the next use has values of its own. -/
def State.spendFree (s : State) : State := { s with free := s.free + 1 }

/-! ## Slots -/

/-- A slot's record, if it holds one (R1). -/
def Slot.record? : Slot → Option PhaseRecord
  | .empty => none
  | .loaded r => some r
  | .active _ r => some r

/-- Whether the slot is ACTIVE in pocket `p`. -/
def Slot.activeIn (p : Pocket) : Slot → Bool
  | .active q _ => decide (q = p)
  | _ => false

/-- Whether the slot is ACTIVE in either pocket. -/
def Slot.isActive : Slot → Bool
  | .active _ _ => true
  | _ => false

/-- The slot after a release by pocket `p` (R22): ACTIVE(p) becomes LOADED and keeps its record. -/
def Slot.releasedBy (p : Pocket) : Slot → Slot
  | .active q r => if q = p then .loaded r else .active q r
  | x => x

/-! ## Notices (R182 to R184, R202) -/

/-- Whether no notice is set. -/
def NoticeSet.isEmpty (n : NoticeSet) : Bool := decide (n = NoticeSet.none)

/-- The set with one notice set. -/
def NoticeSet.add (n : NoticeSet) : PocketNotice → NoticeSet
  | .phaseEnd => { n with phaseEnd := true }
  | .held => { n with held := true }
  | .chainDone => { n with chainDone := true }
  | .tangleLimit => { n with tangleLimit := true }
  | .noDryness => { n with noDryness := true }
  | .calDone => { n with calDone := true }
  | .calFail => { n with calFail := true }
  | .faultLatched => { n with faultLatched := true }

/-- Raising a notice on a pocket; a change from empty to non-empty sets the pending-notice mark (R184, R202). -/
def PocketUnit.raise (n : PocketNotice) (u : PocketUnit) : PocketUnit :=
  { u with notices := u.notices.add n, noticeMark := u.noticeMark || u.notices.isEmpty }

/-- Whether no DEVICE notice is set. -/
def DeviceNotices.isEmpty (d : DeviceNotices) : Bool := !(d.mainsLost || d.trendReady || d.trendLost || d.trendHalted)

/-- Raising a notice on DEVICE (R184, R202). -/
def DeviceNotices.raise (n : DeviceNotice) (d : DeviceNotices) : DeviceNotices :=
  let marked := { d with mark := d.mark || d.isEmpty }
  match n with
  | .mainsLost => { marked with mainsLost := true }
  | .trendReady => { marked with trendReady := true }
  | .trendLost => { marked with trendLost := true }
  | .trendHalted => { marked with trendHalted := true }

/-! ## Faults (R175, R176) -/

/-- Whether fault `f` is latched. -/
def FaultSet.has (fs : FaultSet) : PocketFault → Bool
  | .overheat => fs.overheat
  | .sensor => fs.sensor
  | .airflow => fs.airflow
  | .drive => fs.drive
  | .chain => fs.chain
  | .linkLost => fs.linkLost

/-- The set with the latch of fault `f` at `b`. -/
def FaultSet.put (fs : FaultSet) (f : PocketFault) (b : Bool) : FaultSet :=
  match f with
  | .overheat => { fs with overheat := b }
  | .sensor => { fs with sensor := b }
  | .airflow => { fs with airflow := b }
  | .drive => { fs with drive := b }
  | .chain => { fs with chain := b }
  | .linkLost => { fs with linkLost := b }

/-- Whether no fault is latched. -/
def FaultSet.isEmpty (fs : FaultSet) : Bool := decide (fs = FaultSet.none)

/-- Latching fault `f`: a fault already latched stays, without a second notice (R176). -/
def PocketUnit.latch (f : PocketFault) (u : PocketUnit) : PocketUnit :=
  if u.faults.has f then u else { u with faults := u.faults.put f true }.raise .faultLatched

/-! ## Heat permission (R157, R158) -/

/-- Whether the kind of phase heats (R2). -/
def Kind.heats : Kind → Bool
  | .dry => true
  | .timed => true
  | .cool => false
  | .tumble => false

/-- Heat permission of a pocket (R157). -/
def PocketUnit.hasPermission (u : PocketUnit) : Bool :=
  decide (u.seq.run = .running) && u.seq.work.kind.heats && u.pins.door
    && !u.faults.overheat && !u.faults.sensor && !u.faults.airflow && !u.faults.linkLost

/-- What a loss of heat permission does (R158): outputs off, on-counts, accumulators and demand 0, airflow timer discarded. -/
def PocketHeat.withdrawn (h : PocketHeat) : PocketHeat :=
  { h with demand := 0, elements := Vector.replicate 3 Element.off, airTimer := none }

/-- R158 as it bears on the end of a step: a pocket without heat permission has no heat. -/
def PocketUnit.checkHeat (u : PocketUnit) : PocketUnit :=
  if u.hasPermission then u else { u with heat := u.heat.withdrawn }

/-! ## Sensing windows (R120, R126) -/

/-- The alignment of a window: accumulators and times 0, length from the working set (R120, R121). -/
def PocketUnit.alignWindow (u : PocketUnit) : PocketUnit :=
  { u with moist := { u.moist with
      window := some { length := u.seq.work.dry.window * 100000, elapsed := 0, turning := 0, totalTicks := 0,
                       weighted := 0 } } }

/-- The abandonment of the window in progress, if any (R126). -/
def PocketUnit.abandonWindow (u : PocketUnit) : PocketUnit := { u with moist := { u.moist with window := none } }

/-! ## Views: outputs and indications that follow from the state -/

/-- Whether the drum turns for sensing and heat (R92). -/
def Drum.isTurning (d : Drum) : Bool := decide (d.state = .turning)

/-- The RUN output (R76). -/
def Drum.runOutput (d : Drum) : Bool := decide (d.state = .starting) || decide (d.state = .turning)

/-- The SREF output as the high time of its 1 ms period in sixty-fourths (R76): the commanded speed, 0 while RUN is off. -/
def Drum.speedReference (d : Drum) : Nat := if d.runOutput then d.commanded else 0

/-- The FAN output (R53). -/
def PocketUnit.fanOutput (u : PocketUnit) : Bool :=
  match u.seq.run with
  | .running | .safe | .held => true
  | .paused => u.pins.door
  | .halted | .idle | .done => decide (0 < u.seq.fanRunOn)

/-- MSEL line A (R111): high in the isolated part of a calibration. -/
def Moisture.lineA (m : Moisture) : Bool :=
  match m.calibration with
  | some { part := .isolated, .. } => true
  | _ => false

/-- MSEL line B (R111): high in the reference part of a calibration. -/
def Moisture.lineB (m : Moisture) : Bool :=
  match m.calibration with
  | some { part := .reference _, .. } => true
  | _ => false

/-- The phase timer in whole seconds (R28). -/
def Sequencer.phaseSeconds (q : Sequencer) : Nat := q.phaseTimer / second

/-- The pause timer in whole seconds (R24; entry 11). -/
def Sequencer.pauseSeconds (q : Sequencer) : Nat := q.pauseTimer / second

/-- The newest checkpoint (R56). -/
def Sequencer.newest (q : Sequencer) : Option Checkpoint := q.history.getLast?

/-- Whether the pocket's phase is open: its newest checkpoint has no outcome (2.3, R59). -/
def Sequencer.phaseOpen (q : Sequencer) : Bool :=
  match q.newest with
  | some c => c.outcome.isNone
  | none => false

/-- The states in which the drive order is RUN SEGMENT and windows run (R25, R72). -/
def RunState.drives : RunState → Bool
  | .running | .safe | .held => true
  | .idle | .paused | .halted | .done => false

/-- The states in which the phase timer counts and end conditions are evaluated (R25). -/
def RunState.evaluates : RunState → Bool
  | .running | .safe => true
  | .idle | .paused | .held | .halted | .done => false

/-- The states in which LINK_LOST is reported (R203). -/
def RunState.linkWatched : RunState → Bool
  | .running | .held | .paused => true
  | .idle | .safe | .halted | .done => false

/-- The states in which a DRIVE condition is reported (R91); also those that hold RESET_PART and CONFIGURE off
(R152, R204). -/
def RunState.engaged : RunState → Bool
  | .running | .held | .safe | .paused => true
  | .idle | .halted | .done => false

/-! ## Elements and channels -/

/-- Pocket `p`'s element `j` in supply-arbiter order (00, Names). -/
def elementNo (p : Pocket) (j : Fin 3) : ElementNo :=
  match p with
  | .lower => ⟨j.val, by omega⟩
  | .upper => ⟨j.val + 3, by omega⟩

/-- The pocket an element belongs to. -/
def elementPocket (e : ElementNo) : Pocket := if e.val < 3 then .lower else .upper

/-- An element's place among its pocket's three. -/
def elementPlace (e : ElementNo) : Fin 3 := ⟨e.val % 3, by omega⟩

/-- One channel of the scan. -/
def TempScan.channel (t : TempScan) : Channel → TempChannel
  | .lowerInlet => t.lowerInlet
  | .lowerExhaust => t.lowerExhaust
  | .upperInlet => t.upperInlet
  | .upperExhaust => t.upperExhaust
  | .ambient => t.ambient

/-- The scan with one channel replaced. -/
def TempScan.setChannel (t : TempScan) (c : Channel) (x : TempChannel) : TempScan :=
  match c with
  | .lowerInlet => { t with lowerInlet := x }
  | .lowerExhaust => { t with lowerExhaust := x }
  | .upperInlet => { t with upperInlet := x }
  | .upperExhaust => { t with upperExhaust := x }
  | .ambient => { t with ambient := x }

/-- The inlet channel of a pocket (R138). -/
def inletChannel : Pocket → Channel
  | .lower => .lowerInlet
  | .upper => .upperInlet

/-- The exhaust channel of a pocket (R138). -/
def exhaustChannel : Pocket → Channel
  | .lower => .lowerExhaust
  | .upper => .upperExhaust

/-- A pocket's inlet channel as it stands. -/
def State.inlet (s : State) (p : Pocket) : TempChannel := s.temps.channel (inletChannel p)

/-- A pocket's exhaust channel as it stands. -/
def State.exhaust (s : State) (p : Pocket) : TempChannel := s.temps.channel (exhaustChannel p)

/-! ## Replies (R199) -/

/-- Whether the reply slot is empty. -/
def LinkPort.slotFree (l : LinkPort) : Bool := l.replySlot.isNone

/-- A reply formed by the owner of a request: it is placed in the reply slot if that is empty (R199) and recorded as the
last answer (entry 9). -/
def State.reply (s : State) (requestKind : Byte) (result : ResultCode) (data : List Byte) : State :=
  let r : Reply := { kind := requestKind + 0x80, result := some result, data := data }
  { s with link := { s.link with answer := some r, replySlot := if s.link.slotFree then some r else s.link.replySlot } }

end Sys2Proof.Machine
end

