-- ==== Sys2Proof/Machine/Operands.lean ====
section
/-! DEFINITION. The operand forms of the commands: how the bytes of a field are read (R206), which codes a structural check
accepts, how a numeric field is clamped, and the layouts of the four groups (R207). -/

namespace Sys2Proof.Machine

/-! ## Reading fields (R206) -/

/-- A two-byte field from its bytes, least significant first. -/
def half (lo hi : Byte) : Half := hi ++ lo

/-- The bytes of a two-byte field, least significant first. -/
def halfBytes (h : Half) : List Byte := [h.setWidth 8, (h >>> 8).setWidth 8]

/-- A pocket code: 0x00 LOWER, 0x01 UPPER. -/
def pocketOf (b : Byte) : Option Pocket :=
  match b.toNat with
  | 0 => some .lower
  | 1 => some .upper
  | _ => none

/-- A slot number 0 to 47. -/
def slotOf (b : Byte) : Option SlotNo := if h : b.toNat < 48 then some ⟨b.toNat, h⟩ else none

/-- A slot reference: a slot, or 0xFF for END or NONE; any other code is refused. -/
def slotRefOf (b : Byte) : Option (Option SlotNo) := if b = 0xFF then some none else (slotOf b).map some

/-- A motion entry index 0 to 31. -/
def entryOf (b : Byte) : Option EntryNo := if h : b.toNat < 32 then some ⟨b.toNat, h⟩ else none

/-- A kind code. -/
def kindOf (b : Byte) : Option Kind :=
  match b.toNat with
  | 0 => some .dry
  | 1 => some .timed
  | 2 => some .cool
  | 3 => some .tumble
  | _ => none

/-- A qualifier field; a bit other than the three named is refused (R3). -/
def qualsOf (b : Byte) : Option Quals :=
  if b.toNat < 8 then
    some { holdAtEnd := b.getLsbD 0, retryAllowed := b.getLsbD 1, keepEstimate := b.getLsbD 2 }
  else none

/-- A direction code. -/
def motionOf (b : Byte) : Option Motion :=
  match b.toNat with
  | 0 => some (.run .fwd)
  | 1 => some (.run .rev)
  | 2 => some .dwell
  | _ => none

/-- A trend mode code. -/
def trendModeOf (b : Byte) : Option TrendMode :=
  match b.toNat with
  | 0 => some .swap
  | 1 => some .stop
  | _ => none

/-- A channel number 0 to 4 (R138). -/
def channelOf (b : Byte) : Option Channel :=
  match b.toNat with
  | 0 => some .lowerInlet
  | 1 => some .lowerExhaust
  | 2 => some .upperInlet
  | 3 => some .upperExhaust
  | 4 => some .ambient
  | _ => none

/-! ## Clamping groups (R4 to R6) -/

/-- The heat group clamped into range (R4). -/
def HeatGroup.clamped (g : HeatGroup) : HeatGroup where
  setpoint      := clampInt 300 1400 g.setpoint
  band          := clampNat 10 500 g.band
  exhaustLimit  := clampInt 300 1400 g.exhaustLimit
  pauseCeiling  := clampNat 0 100 g.pauseCeiling
  tangleCeiling := clampNat 0 100 g.tangleCeiling

/-- The dry group clamped into range (R5). -/
def DryGroup.clamped (g : DryGroup) : DryGroup where
  target  := clampNat 0 2047 g.target
  confirm := clampNat 1 15 g.confirm
  k       := clampNat 1 6 g.k
  window  := clampNat 5 100 g.window
  minTime := clampNat 0 3600 g.minTime

/-- The cool group clamped into range (R6). -/
def CoolGroup.clamped (g : CoolGroup) : CoolGroup where
  endTemp := clampInt 200 900 g.endTemp

/-- The tangle group clamped into range (R6). -/
def TangleGroup.clamped (g : TangleGroup) : TangleGroup where
  twistLimit         := clampNat 0 250 g.twistLimit
  imbalanceThreshold := clampNat 0 255 g.imbalanceThreshold
  imbalanceRevs      := clampNat 1 15 g.imbalanceRevs
  unwindRevs         := clampNat 1 15 g.unwindRevs
  loosenDwell        := clampNat 0 30 g.loosenDwell
  antiTangleLimit    := clampNat 1 255 g.antiTangleLimit

/-- The groups a request carries, each present or absent as a whole (R1). -/
structure Groups where
  heat   : Option HeatGroup
  dry    : Option DryGroup
  cool   : Option CoolGroup
  tangle : Option TangleGroup
  deriving DecidableEq, Repr

/-- Every field of every present group clamped into range. -/
def Groups.clamped (g : Groups) : Groups where
  heat   := g.heat.map HeatGroup.clamped
  dry    := g.dry.map DryGroup.clamped
  cool   := g.cool.map CoolGroup.clamped
  tangle := g.tangle.map TangleGroup.clamped

/-! ## The group layouts (R207) -/

/-- The heat group's 8 bytes at the head of the list. -/
def readHeat : List Byte → Option (HeatGroup × List Byte)
  | b0 :: b1 :: b2 :: b3 :: b4 :: b5 :: b6 :: b7 :: rest =>
    some ({ setpoint := (half b0 b1).toInt, band := (half b2 b3).toNat, exhaustLimit := (half b4 b5).toInt,
            pauseCeiling := b6.toNat, tangleCeiling := b7.toNat }, rest)
  | _ => none

/-- The dry group's 7 bytes at the head of the list. -/
def readDry : List Byte → Option (DryGroup × List Byte)
  | b0 :: b1 :: b2 :: b3 :: b4 :: b5 :: b6 :: rest =>
    some ({ target := (half b0 b1).toNat, confirm := b2.toNat, k := b3.toNat, window := b4.toNat,
            minTime := (half b5 b6).toNat }, rest)
  | _ => none

/-- The cool group's 2 bytes at the head of the list. -/
def readCool : List Byte → Option (CoolGroup × List Byte)
  | b0 :: b1 :: rest => some ({ endTemp := (half b0 b1).toInt }, rest)
  | _ => none

/-- The tangle group's 6 bytes at the head of the list. -/
def readTangle : List Byte → Option (TangleGroup × List Byte)
  | b0 :: b1 :: b2 :: b3 :: b4 :: b5 :: rest =>
    some ({ twistLimit := b0.toNat, imbalanceThreshold := b1.toNat, imbalanceRevs := b2.toNat, unwindRevs := b3.toNat,
            loosenDwell := b4.toNat, antiTangleLimit := b5.toNat }, rest)
  | _ => none

/-- One group that the mask names or not: if named it must stand at the head of the bytes, else nothing is taken. -/
def readIf {α : Type} (named : Bool) (read : List Byte → Option (α × List Byte)) (bytes : List Byte) :
    Option (Option α × List Byte) :=
  if named then (read bytes).map fun x => (some x.1, x.2) else some (none, bytes)

/-- The groups named by a mask, in the order heat, dry, cool, tangle (R10). None if the mask names an unknown group or the
bytes are not exactly those of the groups named. -/
def groupsOf (mask : Byte) (bytes : List Byte) : Option Groups :=
  if mask.toNat < 16 then
    (readIf (mask.getLsbD 0) readHeat bytes).bind fun h =>
    (readIf (mask.getLsbD 1) readDry h.2).bind fun d =>
    (readIf (mask.getLsbD 2) readCool d.2).bind fun c =>
    (readIf (mask.getLsbD 3) readTangle c.2).bind fun t =>
      if t.2 = [] then some { heat := h.1, dry := d.1, cool := c.1, tangle := t.1 } else none
  else none

/-! ## Codes of enumerated values in replies (R206) -/

/-- The code of a pocket. -/
def pocketCode : Pocket → Byte
  | .lower => 0x00
  | .upper => 0x01

/-- A slot reference: the slot's number, or 0xFF for END or NONE. -/
def slotRefCode : Option SlotNo → Byte
  | some i => BitVec.ofNat 8 i.val
  | none => 0xFF

/-- The code of a kind. -/
def kindCode : Kind → Byte
  | .dry => 0x00
  | .timed => 0x01
  | .cool => 0x02
  | .tumble => 0x03

/-- The code of a run state. -/
def runStateCode : RunState → Byte
  | .idle => 0
  | .running => 1
  | .paused => 2
  | .held => 3
  | .safe => 4
  | .halted => 5
  | .done => 6

/-- The code of a drum state. -/
def drumStateCode : DrumState → Nat
  | .stopped => 0
  | .starting => 1
  | .turning => 2
  | .stopping => 3
  | .settle => 4

/-- The code of an outcome. -/
def outcomeCode : PhaseOutcome → Nat
  | .dry => 0
  | .timeout => 1
  | .time => 2
  | .cooled => 3
  | .skipped => 4
  | .abandoned => 5
  | .faulted => 6
  | .aborted => 7

/-- The code of a conversion class, 0 for none (R209). -/
def classCode : Option ConversionClass → Nat
  | none => 0
  | some .good => 1
  | some .sensorOpen => 2
  | some .sensorShort => 3

/-- The code of a trend mode. -/
def trendModeCode : TrendMode → Byte
  | .swap => 0x00
  | .stop => 0x01

/-- The code of a result. -/
def resultCode : ResultCode → Byte
  | .ok => 0x00
  | .okClamped => 0x01
  | .busy => 0x02
  | .inUse => 0x03
  | .notReady => 0x04
  | .notAvailable => 0x05
  | .faulted => 0x06
  | .doorOpen => 0x07
  | .stillPresent => 0x08
  | .badRequest => 0x09
  | .unknown => 0x0A

/-! ## Writing fields (R206) -/

/-- A number as one byte. -/
def byteOf (n : Nat) : Byte := BitVec.ofNat 8 n

/-- A number as a two-byte field. -/
def le16 (n : Nat) : List Byte := [byteOf n, byteOf (n / 256)]

/-- A number as a three-byte field. -/
def le24 (n : Nat) : List Byte := [byteOf n, byteOf (n / 256), byteOf (n / 65536)]

/-- A signed number as a two-byte two's-complement field. -/
def leInt16 (i : Int) : List Byte := halfBytes (BitVec.ofInt 16 i)

/-- A number that may be absent, 0xFFFF if it is. -/
def le16OrFFFF (o : Option Nat) : List Byte := le16 (o.getD 0xFFFF)

/-- A temperature reading, 0x8000 if it is none. -/
def leTemp (o : Option Int) : List Byte := leInt16 (o.getD (-32768))

/-- A signed number in 11-bit two's complement, as a number 0 to 2,047 (R209). -/
def twist11 (i : Int) : Nat := (BitVec.ofInt 11 i).toNat

/-- The heat group as sent. -/
def heatBytes (g : HeatGroup) : List Byte :=
  leInt16 g.setpoint ++ le16 g.band ++ leInt16 g.exhaustLimit ++ [byteOf g.pauseCeiling, byteOf g.tangleCeiling]

/-- The dry group as sent. -/
def dryBytes (g : DryGroup) : List Byte :=
  le16 g.target ++ [byteOf g.confirm, byteOf g.k, byteOf g.window] ++ le16 g.minTime

/-- The cool group as sent. -/
def coolBytes (g : CoolGroup) : List Byte := leInt16 g.endTemp

/-- The tangle group as sent. -/
def tangleBytes (g : TangleGroup) : List Byte :=
  [byteOf g.twistLimit, byteOf g.imbalanceThreshold, byteOf g.imbalanceRevs, byteOf g.unwindRevs, byteOf g.loosenDwell,
   byteOf g.antiTangleLimit]

end Sys2Proof.Machine
end

