-- ==== Sys2Proof/Machine/Flags.lean ====
section
/-! DEFINITION. Every byte of flags and marks the spec gives: fault sets, notice sets, the status byte, qualifier and group
masks, the marks of the replies (R206, R208), and the check byte of the link (R197). -/

namespace Sys2Proof.Machine

/-- A byte from its bits, bit 0 first. -/
def bitsByte (bits : List Bool) : Byte :=
  match bits with
  | [] => 0
  | b :: rest => (if b then 1 else 0) + 2 * bitsByte rest

/-- The fault set byte (R206). -/
def FaultSet.byte (f : FaultSet) : Byte := bitsByte [f.overheat, f.sensor, f.airflow, f.drive, f.chain, f.linkLost]

/-- The fault set that a byte names; none if it names a fault other than the six (R180). -/
def faultSetOf (b : Byte) : Option FaultSet :=
  if b.toNat < 64 then
    some { overheat := b.getLsbD 0, sensor := b.getLsbD 1, airflow := b.getLsbD 2, drive := b.getLsbD 3,
           chain := b.getLsbD 4, linkLost := b.getLsbD 5 }
  else none

/-- The pocket notice set byte (R206). -/
def NoticeSet.byte (n : NoticeSet) : Byte :=
  bitsByte [n.phaseEnd, n.held, n.chainDone, n.tangleLimit, n.noDryness, n.calDone, n.calFail, n.faultLatched]

/-- The DEVICE notice set byte (R206). -/
def DeviceNotices.byte (d : DeviceNotices) : Byte := bitsByte [d.mainsLost, d.trendReady, d.trendLost, d.trendHalted]

/-- The status byte of a reply, formed when its transmission begins (R201, R206). -/
def State.statusByte (s : State) : Byte :=
  bitsByte [s.link.overrun, !s.lower.notices.isEmpty, !s.upper.notices.isEmpty, !s.device.isEmpty]

/-- The qualifier byte (R206). -/
def Quals.byte (q : Quals) : Byte := bitsByte [q.holdAtEnd, q.retryAllowed, q.keepEstimate]

/-- The group mask of a record (R206). -/
def PhaseRecord.maskByte (r : PhaseRecord) : Byte :=
  bitsByte [r.heat.isSome, r.dry.isSome, r.cool.isSome, r.tangle.isSome]

/-- The marks byte of GET_STATUS for a pocket (R208, byte 2). -/
def Sequencer.marksByte (q : Sequencer) : Byte :=
  bitsByte [decide (q.resumeTarget = .safe), q.held, q.restored, q.safeBegun, q.unattended]

/-- The calibration marks byte of GET_STATUS (R208, byte 24). -/
def Moisture.marksByte (m : Moisture) : Byte :=
  bitsByte [m.valid, m.calibration.isSome, m.lastAttempt.isSome,
    match m.lastAttempt with
    | some a => a.passed
    | none => false]

/-- One step of the check register: a shift left, and an exclusive-or with 0x07 if the top bit was 1 (R197). -/
def crcShift (r : Byte) : Byte := if r.getLsbD 7 then (r <<< 1) ^^^ 0x07 else r <<< 1

/-- The check register after one byte: an exclusive-or with the byte and eight steps (R197). -/
def crcByte (r b : Byte) : Byte :=
  crcShift (crcShift (crcShift (crcShift (crcShift (crcShift (crcShift (crcShift (r ^^^ b))))))))

/-- The check byte of a frame over its length, kind and payload bytes, from a register of 0x00 (R197). -/
def crc (bytes : List Byte) : Byte := bytes.foldl crcByte 0x00

/-- The length byte of a frame whose kind and payload are `body` (R196). -/
def lengthByte (body : List Byte) : Byte := BitVec.ofNat 8 body.length

/-- A whole frame: start byte, length, kind and payload, check byte (R196). -/
def frameBytes (body : List Byte) : List Byte := 0xB5 :: lengthByte body :: (body ++ [crc (lengthByte body :: body)])

end Sys2Proof.Machine
end

