-- ==== Sys2Proof/Decode.lean ====
section
/-! DEFINITION. The decoders. The rows of the opcode table give no bits, so no word spells a command by the table; a request
does have an encoding, its frame on the link, and the request that a frame's kind and payload carry is read here (R199,
R207), with the kind and payload of each request beside it. -/

namespace Sys2Proof

/-- The command that a word of `nbits` bits spells by the table's bits: none, since no row of the table gives bits. -/
def decodeTableWord (_nbits _w : Nat) : Option Instr := none

namespace Machine

/-! ## Requests from frames (R199, R207) -/

/-- What the kind byte and the payload of a frame with a good check ask for (R199). -/
inductive LinkRequest where
  | unknownKind
  | badLength
  | request (i : Instr)
  deriving DecidableEq, Repr

/-- A request with a one-byte payload. -/
def oneByte (f : Byte → Instr) : List Byte → LinkRequest
  | [a] => .request (f a)
  | _ => .badLength

/-- A request with a two-byte payload. -/
def twoBytes (f : Byte → Byte → Instr) : List Byte → LinkRequest
  | [a, b] => .request (f a b)
  | _ => .badLength

/-- A request without a payload. -/
def noBytes (i : Instr) : List Byte → LinkRequest
  | [] => .request i
  | _ => .badLength

/-- CONFIGURE's payload (R207). -/
def configureOf : List Byte → LinkRequest
  | [b0, b1, b2, b3, b4, b5, b6, b7, b8, b9, b10, b11, b12, b13, b14, b15, b16] =>
    .request (.configure
      { budget := b0, weight0 := b1, weight1 := b2, weight2 := b3, weight3 := b4, weight4 := b5, weight5 := b6, frame := b7,
        reserveUnits := b8, reserveCycles := b9, inletHigh := half b10 b11, silence := b12, resumeLimit := half b13 b14,
        openLimit := half b15 b16 })
  | _ => .badLength

/-- SET_TEMP_CAL's payload (R207). -/
def setTempCalOf : List Byte → LinkRequest
  | [b0, b1, b2, b3, b4, b5, b6, b7, b8] =>
    .request (.setTempCal b0 (half b1 b2) (half b3 b4) (half b5 b6) (half b7 b8))
  | _ => .badLength

/-- SET_DEFAULTS's payload (R207): the owner finds whether the groups are those the mask names. -/
def setDefaultsOf : List Byte → LinkRequest
  | b0 :: b1 :: groups => .request (.setDefaults b0 b1 groups)
  | _ => .badLength

/-- PUT_MOTION's payload (R207). -/
def putMotionOf : List Byte → LinkRequest
  | [b0, b1, b2, b3, b4] => .request (.putMotion b0 b1 b2 b3 b4)
  | _ => .badLength

/-- PUT_PHASE's payload (R207): the owner finds whether the groups are those the mask names. -/
def putPhaseOf : List Byte → LinkRequest
  | b0 :: b1 :: b2 :: b3 :: b4 :: b5 :: b6 :: b7 :: b8 :: groups =>
    .request (.putPhase b0 b1 b2 (half b3 b4) b5 b6 b7 b8 groups)
  | _ => .badLength

/-- The request that a kind byte and a payload carry (R199, R207). -/
def requestOf (kind : Byte) (payload : List Byte) : LinkRequest :=
  match kind.toNat with
  | 0x01 => configureOf payload
  | 0x02 => setTempCalOf payload
  | 0x03 => oneByte .calMoisture payload
  | 0x04 => setDefaultsOf payload
  | 0x05 => putMotionOf payload
  | 0x06 => putPhaseOf payload
  | 0x07 => oneByte .erasePhase payload
  | 0x08 => oneByte .getPhase payload
  | 0x09 => twoBytes .setSafe payload
  | 0x10 => twoBytes .start payload
  | 0x11 => oneByte .pause payload
  | 0x12 => oneByte .resume payload
  | 0x13 => oneByte .advance payload
  | 0x14 => twoBytes .backstep payload
  | 0x15 => oneByte .abort payload
  | 0x16 => twoBytes .clearFault payload
  | 0x20 => oneByte .getStatus payload
  | 0x21 => oneByte .getHistory payload
  | 0x22 => noBytes .getTemps payload
  | 0x23 => noBytes .readTrend payload
  | 0x24 => twoBytes .trendMode payload
  | 0x25 => noBytes .flushTrend payload
  | 0x30 => noBytes .resetPart payload
  | _ => .unknownKind

/-! ## Requests as frames -/

/-- CONFIGURE's payload bytes (R207). -/
def configureBytes (c : ConfigureFields) : List Byte :=
  [c.budget, c.weight0, c.weight1, c.weight2, c.weight3, c.weight4, c.weight5, c.frame, c.reserveUnits, c.reserveCycles]
    ++ halfBytes c.inletHigh ++ [c.silence] ++ halfBytes c.resumeLimit ++ halfBytes c.openLimit

/-- The kind byte and the payload of a request (R207); none for a command that is no request. -/
def requestFrame : Instr → Option (Byte × List Byte)
  | .configure fields => some (0x01, configureBytes fields)
  | .setTempCal channel cLo tLo cHi tHi =>
    some (0x02, channel :: (halfBytes cLo ++ halfBytes tLo ++ halfBytes cHi ++ halfBytes tHi))
  | .calMoisture pocket => some (0x03, [pocket])
  | .setDefaults pocket mask groups => some (0x04, pocket :: mask :: groups)
  | .putMotion pocket index direction speed duration => some (0x05, [pocket, index, direction, speed, duration])
  | .putPhase slot kind next maxTime segFirst segLast quals mask groups =>
    some (0x06, [slot, kind, next] ++ halfBytes maxTime ++ [segFirst, segLast, quals, mask] ++ groups)
  | .erasePhase slot => some (0x07, [slot])
  | .getPhase slot => some (0x08, [slot])
  | .setSafe pocket slot => some (0x09, [pocket, slot])
  | .start pocket slot => some (0x10, [pocket, slot])
  | .pause pocket => some (0x11, [pocket])
  | .resume pocket => some (0x12, [pocket])
  | .advance pocket => some (0x13, [pocket])
  | .abort pocket => some (0x15, [pocket])
  | .backstep pocket k => some (0x14, [pocket, k])
  | .clearFault pocket faults => some (0x16, [pocket, faults])
  | .getStatus target => some (0x20, [target])
  | .getHistory pocket => some (0x21, [pocket])
  | .getTemps => some (0x22, [])
  | .readTrend => some (0x23, [])
  | .flushTrend => some (0x25, [])
  | .trendMode mode threshold => some (0x24, [mode, threshold])
  | .resetPart => some (0x30, [])
  | .powerOn | .receiveByte _ _ | .receiveSilenceTimeout | .frameTaken | .replyTransmissionBegin | .noticeFrameBegin
  | .transmissionEnd | .silenceTimerExpiry | .doorOpening _ | .doorClosing _ | .phaseTimerExpiry _ | .unattendedResume _
  | .fanRunOnExpiry _ | .tachEdge _ | .tachoCaptureOverflow _ | .unwindBoundExpiry _ | .loosenDwellExpiry _
  | .stopConfirmed _ | .standstillExpiry _ | .entryDurationExpiry _ | .startTimeout _ | .speedLossTimeout _
  | .stopTimeout _ | .mpulseEdge _ | .forcedOpenPeriod _ | .calIsolatedPartEnd _ | .calComplete _ | .windowEnd _
  | .channelConversion _ _ | .cutoutOpening _ | .zeroCross | .mainsLoss | .airfDeasserted _ | .airfAsserted _
  | .airflowTimeout _ | .cutoutClosing _ => none

end Machine
end Sys2Proof
end

