-- ==== Sys2Proof/Machine/Drum.lean ====
section
/-! DEFINITION. The Drum Motion Unit: the operations of its state machine and of anti-tangle supervision (chapters 4 and 5),
as steps of one pocket. `cycles` is the configured start reserve cycles, which a direction assertion needs (R169;
the ones that stand at the assertion, entry 24). -/

namespace Sys2Proof.Machine

/-! ## Segment and cursor (R72, R73) -/

/-- The entry at the cursor, if there is a segment. -/
def Drum.entry? (d : Drum) : Option MotionEntry := d.segment.map fun g => d.table[g.cursor]

/-- The segment with its cursor on the next entry, from the last back to the first (R73). -/
def Segment.next (g : Segment) : Segment :=
  { g with cursor := if g.cursor = g.last then g.first else g.cursor + 1 }

/-- The cursor moved to the next entry. -/
def Drum.moveCursor (d : Drum) : Drum := { d with segment := d.segment.map Segment.next }

/-- Whether every entry from `first` to `last` has been written (R14). -/
def Drum.segmentWritten (d : Drum) (first last : EntryNo) : Bool :=
  (List.finRange 32).all fun j => !(decide (first ≤ j) && decide (j ≤ last)) || d.table[j].written

/-- The executing entry of a pocket (R71). -/
def PocketUnit.executingEntry (u : PocketUnit) : Option EntryNo :=
  match u.seq.run with
  | .running | .safe | .held => if u.drum.unwind.isNone then u.drum.segment.map Segment.cursor else none
  | .paused => u.drum.segment.map Segment.cursor
  | .idle | .halted | .done => none

/-! ## The drum state machine (R76 to R82) -/

/-- A stop command (R80). In SETTLE it cancels the standstill, of which nothing counts later (entry 20). -/
def Drum.stopCommand (d : Drum) : Drum :=
  match d.state with
  | .starting | .turning =>
    { d with state := .stopping, commanded := 0, pendingDir := none, startTimer := none, speedLossTimer := none,
             stopTimer := some 0 }
  | .stopping => { d with pendingDir := none }
  | .settle => { d with state := .stopped, pendingDir := none, settleTimer := none }
  | .stopped => d

/-- The half-speed test of TURNING, at a measurement or a change of the commanded speed (R79, R89). -/
def Drum.testSpeedLoss (d : Drum) : Drum :=
  match d.state with
  | .turning => { d with speedLossTimer := if d.speed * 2 < d.commanded then some (d.speedLossTimer.getD 0) else none }
  | _ => d

/-- A speed measurement as STARTING and TURNING take it (R79). -/
def Drum.takeMeasurement (d : Drum) : Drum :=
  match d.state with
  | .starting =>
    if d.commanded ≤ d.speed * 2 then { d with state := .turning, startTimer := none, speedLossTimer := none } else d
  | _ => d.testSpeedLoss

/-- The unwind step at the direction assertion of its run: its revolutions and its bound count from here (R104). -/
def Unwind.atAssertion (w : Unwind) : Unwind := { w with asserted := true, completed := 0, timer := 0 }

/-- A direction assertion at a commanded speed, DIR standing as it is to be (R78): RUN on, STARTING, start timer from 0,
start reserve opened or restarted, revolution count and imbalance run restarted, the entry or the unwind's run counting.
`cycles` is the configured start reserve cycles as they stand (R152, R169); that a CONFIGURE's cycles count before the next
rising zero-cross (R153) is the model's choice (entry 24). -/
def PocketUnit.assertDirection (cycles speed : Nat) (u : PocketUnit) : PocketUnit :=
  { u with
    drum := { u.drum with
      state := .starting, commanded := speed, pendingDir := none, startTimer := some 0, speedLossTimer := none,
      stopTimer := none, settleTimer := none, revPulse := 0, revNumber := 0, revPeriods := [], imbalanceRun := 0,
      entryTime := if u.drum.unwind.isNone then some 0 else none,
      unwind := u.drum.unwind.map Unwind.atAssertion }
    heat := { u.heat with reserve := cycles } }

/-- The drum waiting for a stop or a standstill before a run in direction `dir`; the run's time does not count (R83, R84). -/
def Drum.awaitReversal (dir : Dir) (d : Drum) : Drum := { d with pendingDir := some dir, entryTime := none }

/-- A wait for a reversal in STOPPING is bounded by the stop timer (R90): the one that runs, or, where R91 discarded it before a
START, a new one from the beginning of the wait (entry 18). -/
def Drum.awaitStop (dir : Dir) (d : Drum) : Drum := { d.awaitReversal dir with stopTimer := some (d.stopTimer.getD 0) }

/-- A run of direction `dir` and speed `speed` begins on the drum (R83). A STOPPED drum settles with the time it has stood
since its confirmation (R82, R85), or from 0 where a stop command cancelled the standstill (R80): the model's choice between
the spec's sentences (entry 20). -/
def PocketUnit.beginRun (cycles : Nat) (dir : Dir) (speed : Nat) (u : PocketUnit) : PocketUnit :=
  match u.drum.state, decide (dir = u.drum.dir) with
  | .starting, true | .turning, true =>
    { u with drum := ({ u.drum with
        commanded := speed, entryTime := if u.drum.unwind.isNone then some 0 else none,
        unwind := u.drum.unwind.map Unwind.atAssertion } : Drum).testSpeedLoss }
  | .starting, false | .turning, false => { u with drum := u.drum.stopCommand.awaitReversal dir }
  | .stopping, true | .stopped, true | .settle, true => u.assertDirection cycles speed
  | .stopping, false => { u with drum := u.drum.awaitStop dir }
  | .stopped, false =>
    { u with drum := { u.drum.awaitReversal dir with state := .settle, settleTimer := some (u.drum.settleTimer.getD 0) } }
  | .settle, false => { u with drum := u.drum.awaitReversal dir }

/-! ## Anti-tangle supervision (R96 to R107) -/

/-- The step the twist counter makes at a revolution, saturating at -999 and 999 (R97). -/
def twistStep (dir : Dir) (twist : Int) : Int :=
  match dir with
  | .fwd => min 999 (twist + 1)
  | .rev => max (-999) (twist - 1)

/-- Whether direction `dir` adds to the absolute value of the twist (R101). -/
def twistAdds (dir : Dir) (twist : Int) : Bool :=
  match dir with
  | .fwd => decide (0 < twist)
  | .rev => decide (twist < 0)

/-- Whether a run entry is executing on the drum: RUN SEGMENT, no unwind step, and a run entry at the cursor (R71, R98). -/
def Drum.runEntry? (d : Drum) : Option (Dir × Nat) :=
  match d.order, d.unwind, d.entry? with
  | .runSegment, none, some e =>
    match e.motion with
    | .run dir => some (dir, e.speed)
    | .dwell => none
  | _, _, _ => none

/-- The anti-tangle count after an insertion, with the limit-reached mark and TANGLE_LIMIT (R107). -/
def PocketUnit.countUnwind (u : PocketUnit) : PocketUnit :=
  let count := bump 255 u.drum.antiTangle
  if u.seq.work.tangle.antiTangleLimit ≤ count ∧ u.drum.limitReached = false then
    { u with drum := { u.drum with antiTangle := count, limitReached := true } }.raise .tangleLimit
  else { u with drum := { u.drum with antiTangle := count } }

/-- A trigger (R102): the executing run entry of direction `dir` and speed `speed` at `entry` is interrupted, an unwind step
is inserted and counted, and the drum is stopped. -/
def PocketUnit.insertUnwind (kind : TriggerKind) (dir : Dir) (speed : Nat) (entry : EntryNo) (u : PocketUnit) : PocketUnit :=
  let step : Unwind :=
    { stage := .stop, dir := dir.opposite, speed := speed,
      required := max u.seq.work.tangle.unwindRevs u.drum.twist.natAbs,
      completed := 0, interrupted := entry, trigger := kind, asserted := false, timer := 0 }
  let v := { u with drum := { u.drum with entryTime := none, unwind := some step, imbalanceRun := 0 } }.countUnwind
  { v with drum := v.drum.stopCommand }

/-- A trigger on the executing run entry, if there is one. -/
def PocketUnit.trigger (kind : TriggerKind) (u : PocketUnit) : PocketUnit :=
  match u.drum.runEntry?, u.drum.segment with
  | some (dir, speed), some g => u.insertUnwind kind dir speed g.cursor
  | _, _ => u

/-- Whether the twist check fires (R101). -/
def PocketUnit.twistFires (u : PocketUnit) : Bool :=
  match u.drum.runEntry? with
  | some (dir, _) =>
    decide (u.seq.work.tangle.twistLimit ≠ 0) && u.drum.isTurning
      && decide (u.seq.work.tangle.twistLimit ≤ u.drum.twist.natAbs) && twistAdds dir u.drum.twist
  | none => false

/-- The twist check (R101). -/
def PocketUnit.twistCheck (u : PocketUnit) : PocketUnit := if u.twistFires then u.trigger .twist else u

/-! ## Entries (R83 to R88) -/

/-- The entry at the cursor begins, with the drum as it stands (R83, R85), and the twist is checked (R101). -/
def PocketUnit.beginEntry (cycles : Nat) (u : PocketUnit) : PocketUnit :=
  match u.drum.entry? with
  | none => u
  | some e =>
    match e.motion with
    | .dwell => { u with drum := { u.drum.stopCommand with entryTime := some 0 } }
    | .run dir => (u.beginRun cycles dir e.speed).twistCheck

/-- The cursor moves to the next entry, which begins (R73). -/
def PocketUnit.nextEntry (cycles : Nat) (u : PocketUnit) : PocketUnit :=
  PocketUnit.beginEntry cycles { u with drum := u.drum.moveCursor }

/-- An unwind step is over: no step, and the imbalance run count 0 (R105, R106). Nothing changes where none is in
progress. -/
def Drum.dropUnwind (d : Drum) : Drum := if d.unwind.isSome then { d with unwind := none, imbalanceRun := 0 } else d

/-- The end of an unwind step: the entry after the interrupted one begins (R105). -/
def PocketUnit.endUnwind (cycles : Nat) (u : PocketUnit) : PocketUnit :=
  PocketUnit.nextEntry cycles { u with drum := u.drum.dropUnwind }

/-- The handing of a segment (R72): cursor at `first`, the entry in progress, any wait and any unwind step discarded, the
imbalance run count 0 (R100). -/
def Drum.handed (first last : EntryNo) (d : Drum) : Drum :=
  { d with segment := some { first := first, last := last, cursor := first }, entryTime := none, unwind := none,
           imbalanceRun := 0 }

/-- A segment is handed under RUN SEGMENT: entry `first` begins at once (R72, R87). -/
def PocketUnit.handRunning (cycles : Nat) (first last : EntryNo) (u : PocketUnit) : PocketUnit :=
  PocketUnit.beginEntry cycles { u with drum := { u.drum.handed first last with order := .runSegment } }

/-- A segment is handed under STOP: entry `first` becomes the suspended entry (R72). -/
def Drum.handStopped (first last : EntryNo) (d : Drum) : Drum :=
  { d.handed first last with order := .stop, pendingDir := none }

/-- The drive order becomes STOP at entry into PAUSED: stop command; the entry in progress, or after an unwind step the next
one, becomes the suspended entry (R86). -/
def Drum.suspend (d : Drum) : Drum :=
  let d' := if d.unwind.isSome then d.dropUnwind.moveCursor else d
  { d'.stopCommand with order := .stop, entryTime := none }

/-- The order returns to RUN SEGMENT: the suspended entry begins anew (R86). -/
def PocketUnit.resumeEntry (cycles : Nat) (u : PocketUnit) : PocketUnit :=
  PocketUnit.beginEntry cycles { u with drum := { u.drum with order := .runSegment } }

/-- Entry into IDLE, DONE or HALTED: stop command, and the segment and all that belongs to it discarded (R88). -/
def Drum.discard (d : Drum) : Drum :=
  { d.dropUnwind.stopCommand with order := .stop, segment := none, entryTime := none, pendingDir := none }

/-- The phase closes into HELD: an unwind step in progress is abandoned and the entry after the interrupted one begins;
otherwise the drum goes on as it is (R87, R106). -/
def PocketUnit.holdDrum (cycles : Nat) (u : PocketUnit) : PocketUnit :=
  if u.drum.unwind.isSome then u.endUnwind cycles else u

/-! ## The tacho (R74, R75, R96 to R100) -/

/-- The period an edge gives: the capture count, unless it passed 65,535 (R74). -/
def Drum.edgePeriod (d : Drum) : Option Nat :=
  if d.tachPassed = true ∨ captureLimit < d.tachCount then none else some d.tachCount

/-- The measured speed after an edge: floor(500,000 / p), or 0 without a period (R74). A period of 0 states no speed: it is
the free value, kept within what R74 allows (entry 5). -/
def edgeSpeed (free : Nat) : Option Nat → Nat
  | none => 0
  | some 0 => if Config.zeroPeriodSpeed free < 7 then 0 else min 500000 (Config.zeroPeriodSpeed free)
  | some p => 500000 / p

/-- The edge as the capture takes it: speed measured, count and quiet time from 0 (R74, R75). -/
def Drum.captureEdge (free : Nat) (d : Drum) : Drum :=
  { d with speed := edgeSpeed free d.edgePeriod, tachCount := 0, tachPassed := false, quiet := 0 }

/-- Whether an edge is received in a counted condition: TURNING, RUN SEGMENT, a run entry executing, no unwind (R98). -/
def Drum.countedNow (d : Drum) : Bool := d.isTurning && d.runEntry?.isSome

/-- The edge added to the revolution in progress (R96). -/
def Drum.addPulse (e : EdgeRecord) (d : Drum) : Drum :=
  { d with revPulse := d.revPulse + 1, revPeriods := d.revPeriods ++ [e] }

/-- The imbalance measure U of a revolution's periods (R99). -/
def imbalanceMeasure (free : Nat) (periods : List Nat) : Nat :=
  let mean := periods.sum / 12
  let spread := periods.foldl max 0 - periods.foldl min captureLimit
  if mean = 0 then min 1023 (Config.zeroMeanImbalance free) else min 1023 (spread * 256 / mean)

/-- Whether the completed revolution, the drum's revolution number already counting it, is a counted one (R98). -/
def PocketUnit.countedRevolution (u : PocketUnit) : Bool :=
  decide (u.seq.work.tangle.imbalanceThreshold ≠ 0) && decide (2 ≤ u.drum.revNumber)
    && u.drum.revPeriods.all fun e => e.counted && e.period.isSome

/-- Whether the completed revolution's measure is above the threshold (R100). -/
def PocketUnit.unbalanced (free : Nat) (u : PocketUnit) : Bool :=
  decide (u.seq.work.tangle.imbalanceThreshold < imbalanceMeasure free (u.drum.revPeriods.filterMap EdgeRecord.period))

/-- The imbalance run count after a completed revolution (R98, R100). -/
def PocketUnit.nextImbalanceRun (free : Nat) (u : PocketUnit) : Nat :=
  if u.countedRevolution then if u.unbalanced free then u.drum.imbalanceRun + 1 else 0 else u.drum.imbalanceRun

/-- Whether the completed revolution fires an imbalance trigger (R100). -/
def PocketUnit.imbalanceFires (free : Nat) (u : PocketUnit) : Bool :=
  u.countedRevolution && u.unbalanced free
    && decide (u.drum.imbalanceRun + 1 = u.seq.work.tangle.imbalanceRevs)

/-- The revolution counted in the unwind's run, if one is under way (R104). -/
def Unwind.addRevolution (w : Unwind) : Unwind := if w.asserted then { w with completed := w.completed + 1 } else w

/-- Whether the unwind's run has turned its revolutions (R104). -/
def Unwind.turned (w : Unwind) : Bool := w.asserted && decide (w.required ≤ w.completed)

/-- A completed revolution on the counters: revolution number, pulse count, twist (R96, R97) and the unwind's count. -/
def Drum.countRevolution (d : Drum) : Drum :=
  { d with revNumber := bump 65535 d.revNumber, revPulse := 0, twist := twistStep d.dir d.twist,
           unwind := d.unwind.map Unwind.addRevolution }

/-- The completed revolution as the imbalance monitor leaves it (R96, R100). -/
def PocketUnit.monitorRevolution (free : Nat) (u : PocketUnit) : PocketUnit :=
  { u with drum := { u.drum with imbalanceRun := u.nextImbalanceRun free, revPeriods := [] } }

/-- A completed revolution (R96): counters, imbalance monitor, and then one trigger at most (an imbalance trigger before
a twist trigger, R102) or the end of an unwind whose revolutions are done (R104). -/
def PocketUnit.revolution (free cycles : Nat) (u : PocketUnit) : PocketUnit :=
  let v := { u with drum := u.drum.countRevolution }
  let w := v.monitorRevolution free
  if v.imbalanceFires free then w.trigger .imbalance
  else
    match w.drum.unwind with
    | some step => if step.turned then w.endUnwind cycles else w
    | none => w.twistCheck

/-- An edge as the drum state machine takes it (R79, R81, R82): STOPPED and SETTLE go to STOPPING, a STARTING drum may enter
TURNING, which is a moment of the twist check (R101). -/
def PocketUnit.edgeOnDrum (u : PocketUnit) : PocketUnit :=
  match u.drum.state with
  | .stopped | .settle => { u with drum := { u.drum with state := .stopping, stopTimer := some 0, settleTimer := none } }
  | .starting =>
    let v := { u with drum := u.drum.takeMeasurement }
    if v.drum.isTurning then v.twistCheck else v
  | .turning => { u with drum := u.drum.takeMeasurement }
  | .stopping => u

/-- A rising edge on TACH (R74): capture, revolution counting (R96), then the drum state machine (entry 14). -/
def PocketUnit.tachEdge (free cycles : Nat) (u : PocketUnit) : PocketUnit :=
  let e : EdgeRecord := { period := u.drum.edgePeriod, counted := u.drum.countedNow }
  let v := { u with drum := (u.drum.captureEdge free).addPulse e }
  if v.drum.revPulse = 12 then (v.revolution free cycles).edgeOnDrum else v.edgeOnDrum

/-- Whether the capture count has passed 65,535 and the passing has not been taken (R74). -/
def Drum.overflowDue (d : Drum) : Bool := decide (captureLimit < d.tachCount) && !d.tachPassed

/-- The capture count passes 65,535 without an edge: the measured speed becomes 0 (R74), a measurement like any (R79). -/
def Drum.captureOverflow (d : Drum) : Drum := ({ d with tachPassed := true, speed := 0 } : Drum).takeMeasurement

/-! ## Timed steps of the drum -/

/-- Whether a timer runs and has reached `limit`. -/
def timerReached (limit : Nat) : Option Nat → Bool
  | some t => decide (limit ≤ t)
  | none => false

/-- Whether the stop of a STOPPING drum is confirmed (R75, R81). -/
def Drum.stopDue (d : Drum) : Bool := decide (d.state = .stopping) && decide (stopQuiet ≤ d.quiet)

/-- An unwind in stage STOP when the stop is confirmed: LOOSEN, or RUN at once (R103). -/
def PocketUnit.unwindAfterStop (cycles : Nat) (u : PocketUnit) : PocketUnit :=
  match u.drum.unwind with
  | some w =>
    match w.stage with
    | .stop =>
      if w.trigger = .imbalance ∧ u.seq.work.tangle.loosenDwell ≠ 0 then
        { u with drum := { u.drum with unwind := some { w with stage := .loosen, timer := 0 } } }
      else
        PocketUnit.beginRun cycles w.dir w.speed { u with drum := { u.drum with unwind := some { w with stage := .run } } }
    | _ => u
  | none => u

/-- The confirmation of a stop (R81): SETTLE with a pending direction, STOPPED without, where an unwind goes on. The 300 ms
count from here in either state (R82, entry 20). -/
def PocketUnit.confirmStop (cycles : Nat) (u : PocketUnit) : PocketUnit :=
  match u.drum.pendingDir with
  | some _ => { u with drum := { u.drum with state := .settle, stopTimer := none, settleTimer := some 0 } }
  | none => PocketUnit.unwindAfterStop cycles
      { u with drum := { u.drum with state := .stopped, stopTimer := none, settleTimer := some 0 } }

/-- Whether the loosen dwell has expired (R103). -/
def PocketUnit.loosenDue (u : PocketUnit) : Bool :=
  match u.drum.unwind with
  | some w => decide (w.stage = .loosen) && decide (u.seq.work.tangle.loosenDwell * second ≤ w.timer)
  | none => false

/-- The unwind's run begins after the loosen dwell, with the drum as it stands (R103, R104). -/
def PocketUnit.loosenOver (cycles : Nat) (u : PocketUnit) : PocketUnit :=
  match u.drum.unwind with
  | some w =>
    PocketUnit.beginRun cycles w.dir w.speed { u with drum := { u.drum with unwind := some { w with stage := .run } } }
  | none => u

/-- Whether 120 s have passed since the unwind's direction assertion (R104). -/
def Drum.unwindBoundDue (d : Drum) : Bool :=
  match d.unwind with
  | some w => decide (w.stage = .run) && w.asserted && decide (unwindBound ≤ w.timer)
  | none => false

/-- The speed of the run that waits for the drum: the unwind's, or the entry's (R82, R104). -/
def Drum.waitingSpeed (d : Drum) : Nat :=
  match d.unwind with
  | some w => w.speed
  | none =>
    match d.entry? with
    | some e => e.speed
    | none => 0

/-- Whether the standstill of SETTLE has expired (R82). -/
def Drum.standstillDue (d : Drum) : Bool :=
  decide (d.state = .settle) && d.pendingDir.isSome && timerReached standstill d.settleTimer

/-- The expiry of the standstill: DIR takes the pending direction and the waiting run is asserted (R77, R82). -/
def PocketUnit.standstillOver (cycles : Nat) (u : PocketUnit) : PocketUnit :=
  match u.drum.pendingDir with
  | some dir =>
    PocketUnit.assertDirection cycles u.drum.waitingSpeed { u with drum := { u.drum with dir := dir } }
  | none => u

/-- Whether the entry in progress has counted its duration (R84, R85). -/
def Drum.entryDue (d : Drum) : Bool :=
  match d.order, d.unwind, d.entry? with
  | .runSegment, none, some e => timerReached (e.duration * 500000) d.entryTime
  | _, _, _ => false

/-- Whether the start condition of DRIVE is met (R89). -/
def Drum.startDue (d : Drum) : Bool := decide (d.state = .starting) && timerReached startLimit d.startTimer

/-- Whether the speed-loss condition of DRIVE is met (R89). -/
def Drum.speedLossDue (d : Drum) : Bool := decide (d.state = .turning) && timerReached speedLossLimit d.speedLossTimer

/-- Whether the stop condition of DRIVE is met (R90). -/
def Drum.stopLimitDue (d : Drum) : Bool := decide (d.state = .stopping) && timerReached stopLimit d.stopTimer

end Sys2Proof.Machine
end

