-- ==== Sys2Proof/Machine/Sequencer.lean ====
section
/-! DEFINITION. The Pocket Sequencer's operations: release and activation of slots (R14 to R22), checkpoints and restoration
(R56 to R60), the close of a phase, the ways between run states (R33 to R53), and a fault report with its response
(R176 to R179). Each is one step of one pocket on its view: the pool and the pocket's own part. -/

namespace Sys2Proof.Machine

/-! ## The working set (R16, R18, R19) -/

/-- The working set taken from slot `i`'s record and the pocket's default profile, group by group (R16). -/
def workFrom (i : SlotNo) (r : PhaseRecord) (profile : Profile) (calibrated : Bool) : WorkingSet where
  active    := some i
  kind      := r.kind
  next      := r.next
  maxTime   := r.maxTime
  segFirst  := r.segFirst
  segLast   := r.segLast
  quals     := r.quals
  heat      := r.heat.getD profile.heat
  dry       := r.dry.getD profile.dry
  cool      := r.cool.getD profile.cool
  tangle    := r.tangle.getD profile.tangle
  timedOnly := decide (r.kind = .dry) && !calibrated

/-- The working set is taken; a timed-only mark raises NO_DRYNESS (R16, R18). -/
def PocketUnit.takeWork (i : SlotNo) (r : PhaseRecord) (u : PocketUnit) : PocketUnit :=
  let w := workFrom i r u.seq.profile u.moist.valid
  let v := { u with seq := { u.seq with work := w } }
  if w.timedOnly then v.raise .noDryness else v

/-- The working set's qualifiers are cleared (R3). -/
def PocketUnit.clearQuals (u : PocketUnit) : PocketUnit :=
  { u with seq := { u.seq with work := { u.seq.work with quals := Quals.none } } }

/-! ## Release and activation (R14 to R17, R22) -/

/-- Pocket `p` releases its active slot, if any, to LOADED (R22). -/
def PocketView.release (p : Pocket) (v : PocketView) : PocketView :=
  match v.unit.seq.work.active with
  | none => v
  | some i =>
    { v with
      pool := v.pool.set i (v.pool[i].releasedBy p)
      unit := { v.unit with seq := { v.unit.seq with work := { v.unit.seq.work with active := none } } } }

/-- Why an activation fails (R15). -/
inductive ActivationFailure where
  | slotEmpty
  | slotInUse
  | segmentUnusable
  deriving DecidableEq, Repr

/-- Whether a record's segment can be run with a drum's motion table: conditions 2 and 3 of R14. -/
def segmentUsable (r : PhaseRecord) (d : Drum) : Bool :=
  decide (r.segFirst ≤ r.segLast) && d.segmentWritten r.segFirst r.segLast

/-- The three conditions of R14 on slot `i`, after the release. -/
def PocketView.check (i : SlotNo) (v : PocketView) : Except ActivationFailure PhaseRecord :=
  match v.pool[i] with
  | .empty => .error .slotEmpty
  | .active _ _ => .error .slotInUse
  | .loaded r => if segmentUsable r v.unit.drum then .ok r else .error .segmentUnusable

/-- The history with an entry pushed, the oldest of eight dropped first (R58). -/
def pushHistory (h : List Checkpoint) (c : Checkpoint) : List Checkpoint :=
  (if 8 ≤ h.length then h.tail else h) ++ [c]

/-- The estimate after an activation's estimate step (R17, R129). -/
def PocketUnit.carriedEstimate (u : PocketUnit) : Option Nat :=
  if u.seq.work.quals.keepEstimate then u.moist.estimate else none

/-- The checkpoint of an activation of slot `i` (R57, R58). -/
def PocketUnit.newCheckpoint (i : SlotNo) (u : PocketUnit) : Checkpoint where
  slot       := i
  ordinal    := bump 65535 u.seq.activations
  eStart     := u.carriedEstimate
  twistStart := u.drum.twist
  outcome    := none

/-- The completion of an activation, the working set having been taken (R17): checkpoint, timer and counts, estimate,
window, segment. -/
def PocketUnit.completeActivation (cycles : Nat) (i : SlotNo) (u : PocketUnit) : PocketUnit :=
  PocketUnit.handRunning cycles u.seq.work.segFirst u.seq.work.segLast <|
  PocketUnit.alignWindow
    { u with
      seq := { u.seq with
        history := pushHistory u.seq.history (u.newCheckpoint i)
        activations := bump 65535 u.seq.activations
        phaseTimer := 0
        confirm := 0 }
      drum := { u.drum with antiTangle := 0, limitReached := false }
      moist := { u.moist with estimate := u.carriedEstimate } }

/-- A slot that passed the check becomes ACTIVE and is taken into use (R14, R16, R17). -/
def PocketView.enterSlot (env : Env) (i : SlotNo) (r : PhaseRecord) (v : PocketView) : PocketView :=
  { v with
    pool := v.pool.set i (.active env.pocket r)
    unit := (v.unit.takeWork i r).completeActivation env.reserveCycles i }

/-- The release with which an activation of slot `i` begins (R14), and the write to the released slot that is taken before
the check, if one races with the activation (R20, entry 19). A racing write is taken only where this one activation both
releases the slot and re-activates it: where a failed advance has released slot `i` and the entry into SAFE of the same
event activates it as the anchor, no write is taken between the two activations, which is the model's choice (entry 23). -/
def PocketView.vacate (env : Env) (i : SlotNo) (v : PocketView) : PocketView :=
  let w := v.release env.pocket
  match env.racing with
  | none => w
  | some (j, x) =>
    if j = i ∧ v.unit.seq.work.active = some i ∧ v.raced = false then { w with pool := w.pool.set i x, raced := true } else w

/-- An activation of slot `i`: release, check, and on success the taking into use; the failure is reported beside the
pocket left with no active slot (R14, R15). -/
def PocketView.activate (env : Env) (i : SlotNo) (v : PocketView) : PocketView × Option ActivationFailure :=
  let released := v.vacate env i
  match released.check i with
  | .ok r => (released.enterSlot env i r, none)
  | .error e => (released, some e)

/-! ## The close of a phase (R33, R59) -/

/-- An outcome written into the newest checkpoint. -/
def setOutcome (o : Option PhaseOutcome) : List Checkpoint → List Checkpoint
  | [] => []
  | [c] => [{ c with outcome := o }]
  | c :: rest => c :: setOutcome o rest

/-- Whether the phase is held: HELD, or PAUSED with the held mark (R33). -/
def Sequencer.phaseHeld (q : Sequencer) : Bool :=
  decide (q.run = .held) || (decide (q.run = .paused) && q.held)

/-- Closing a phase with an outcome (R33): written if open, replaced if held, with PHASE_END; nothing written otherwise. The
window in progress is abandoned. The unwind step in progress is abandoned by the step that follows the close (R106). -/
def PocketUnit.closePhase (o : PhaseOutcome) (u : PocketUnit) : PocketUnit :=
  let v := u.abandonWindow
  if v.seq.phaseOpen || v.seq.phaseHeld then
    { v with seq := { v.seq with history := setOutcome (some o) v.seq.history } }.raise .phaseEnd
  else v

/-! ## HALTED, DONE and SAFE (R35, R47, R51) -/

/-- Entry into HALTED (R51). -/
def PocketView.enterHalted (env : Env) (v : PocketView) : PocketView :=
  (v.release env.pocket).onUnit fun u =>
    PocketUnit.checkHeat
      { u.clearQuals.abandonWindow with
        seq := { u.clearQuals.seq with
          run := .halted, held := false, restored := false, unattended := false, safeBegun := false,
          fanRunOn := fanRunOnSeconds, fanFraction := 0 }
        drum := u.drum.discard }

/-- Entry into DONE at a next field of END (R35). -/
def PocketView.enterDone (env : Env) (v : PocketView) : PocketView :=
  (v.release env.pocket).onUnit fun u =>
    PocketUnit.checkHeat <| PocketUnit.raise .chainDone
      { u.abandonWindow with
        seq := { u.seq with run := .done, safeBegun := false }
        drum := u.drum.discard }

/-- A pocket whose activation of the anchor succeeded is SAFE, with the safe-begun mark (R47). -/
def PocketUnit.becomeSafe (u : PocketUnit) : PocketUnit :=
  PocketUnit.checkHeat { u with seq := { u.seq with run := .safe, safeBegun := true } }

/-- CHAIN is latched if it is not already, and the pocket halts (R47, R178). -/
def PocketView.chainHalt (env : Env) (v : PocketView) : PocketView :=
  PocketView.enterHalted env (v.onUnit (PocketUnit.latch .chain))

/-- Entry into SAFE: the anchor is activated, or CHAIN is latched and the pocket halts (R47). -/
def PocketView.enterSafe (env : Env) (v : PocketView) : PocketView :=
  let w := v.onUnit PocketUnit.clearQuals
  match w.unit.seq.anchor with
  | none => w.chainHalt env
  | some a =>
    match w.activate env a with
    | (x, none) => x.onUnit PocketUnit.becomeSafe
    | (x, some _) => x.chainHalt env

/-! ## Fault orders and reports (R49, R50, R176 to R179) -/

/-- What ABORT and an order to enter SAFE do to a PAUSED pocket with resume target RUNNING (R37, R49). -/
def PocketUnit.retargetSafe (o : PhaseOutcome) (u : PocketUnit) : PocketUnit :=
  let v := u.closePhase o
  { v with seq := { v.seq with held := false, restored := false, resumeTarget := .safe } }

/-- An order to enter SAFE (R49). -/
def PocketView.orderSafe (env : Env) (v : PocketView) : PocketView :=
  match v.unit.seq.run with
  | .running | .held => PocketView.enterSafe env (v.onUnit (PocketUnit.closePhase .faulted))
  | .paused =>
    match v.unit.seq.resumeTarget with
    | .running => v.onUnit (PocketUnit.retargetSafe .faulted)
    | .safe => v
  | .idle | .safe | .halted | .done => v

/-- An order to halt (R50). -/
def PocketView.orderHalt (env : Env) (v : PocketView) : PocketView :=
  if v.unit.seq.run.engaged then PocketView.enterHalted env (v.onUnit (PocketUnit.closePhase .faulted)) else v

/-- The unattended mark is set, its door-closed count at 0 (R179). -/
def PocketUnit.markUnattended (u : PocketUnit) : PocketUnit :=
  { u with seq := { u.seq with unattended := true, doorClosedFor := 0 } }

/-- The answer to LINK_LOST on a PAUSED pocket: the order to enter SAFE and the unattended mark (R179). -/
def PocketView.abandonedByHost (env : Env) (v : PocketView) : PocketView :=
  (v.orderSafe env).onUnit PocketUnit.markUnattended

/-- The response to a newly latched fault, for the pocket's state at that moment (R177). -/
def PocketView.respond (env : Env) (f : PocketFault) (v : PocketView) : PocketView :=
  match f with
  | .overheat | .sensor =>
    match v.unit.seq.run with
    | .running | .held | .paused => v.orderSafe env
    | .idle | .safe | .halted | .done => v
  | .airflow =>
    match v.unit.seq.run with
    | .running => v.orderSafe env
    | .idle | .paused | .held | .safe | .halted | .done => v
  | .drive => v.orderHalt env
  | .chain => v
  | .linkLost =>
    match v.unit.seq.run with
    | .running | .held => v.orderSafe env
    | .paused => v.abandonedByHost env
    | .idle | .safe | .halted | .done => v

/-- A report of fault `f` reaches the pocket's Fault Set (R176). -/
def PocketView.report (env : Env) (f : PocketFault) (v : PocketView) : PocketView :=
  let w :=
    if v.unit.faults.has f then
      if f = .linkLost ∧ v.unit.seq.run = .paused then v.abandonedByHost env else v
    else PocketView.respond env f (v.onUnit (PocketUnit.latch f))
  w.onUnit PocketUnit.checkHeat

/-- The report that an expired silence timer makes at entry into RUNNING, HELD or PAUSED (R203). `before` is the state the
pocket comes from. -/
def PocketView.reportOnEntry (env : Env) (before : RunState) (v : PocketView) : PocketView :=
  if env.silenceExpired = true ∧ v.unit.seq.run ≠ before ∧ v.unit.seq.run.linkWatched then v.report env .linkLost else v

/-! ## RUNNING, HELD and PAUSED -/

/-- The pocket takes a run state that drives the drum; heat follows the permission, and a silent host is reported
(R157, R203). -/
def PocketView.become (env : Env) (st : RunState) (v : PocketView) : PocketView :=
  PocketView.reportOnEntry env v.unit.seq.run
    (v.onUnit fun u => PocketUnit.checkHeat { u with seq := { u.seq with run := st } })

/-- The advance of a chain (R35). -/
def PocketView.advance (env : Env) (v : PocketView) : PocketView :=
  let w := v.onUnit PocketUnit.clearQuals
  match w.unit.seq.work.next with
  | none => w.enterDone env
  | some i =>
    match w.activate env i with
    | (x, none) => if v.unit.seq.run = .safe then x.become env .safe else x.become env .running
    | (x, some _) =>
      if v.unit.seq.run = .safe then x.chainHalt env
      else PocketView.enterSafe env (x.onUnit (PocketUnit.latch .chain))

/-- Entry into HELD at the end of a phase (R34): the drum goes on, a window is aligned, the HELD notice is raised. -/
def PocketView.enterHeld (env : Env) (v : PocketView) : PocketView :=
  PocketView.become env .held <|
    v.onUnit fun u => PocketUnit.alignWindow (PocketUnit.raise .held (u.holdDrum env.reserveCycles))

/-- Whether an outcome lets HOLD_AT_END hold the pocket (R34). -/
def PhaseOutcome.holds : PhaseOutcome → Bool
  | .dry | .time | .cooled | .timeout => true
  | .skipped | .abandoned | .faulted | .aborted => false

/-- The natural end of a phase in RUNNING or SAFE: close, then HELD or an advance (R33 to R35). -/
def PocketView.endPhase (env : Env) (o : PhaseOutcome) (v : PocketView) : PocketView :=
  let w := v.onUnit (PocketUnit.closePhase o)
  if w.unit.seq.run = .running ∧ w.unit.seq.work.quals.holdAtEnd = true ∧ o.holds = true then w.enterHeld env
  else w.advance env

/-- The resume target a state is paused with (R38). -/
def RunState.pauseTarget : RunState → ResumeTarget
  | .safe => .safe
  | .idle | .running | .paused | .held | .halted | .done => .running

/-- Entry into PAUSED, by PAUSE or by the door (R38, R39). -/
def PocketView.enterPaused (env : Env) (v : PocketView) : PocketView :=
  PocketView.become env .paused <|
    v.onUnit fun u =>
      { u.abandonWindow with
        seq := { u.seq with
          resumeTarget := u.seq.run.pauseTarget, held := decide (u.seq.run = .held), restored := false,
          pauseTimer := 0 }
        drum := u.drum.suspend }

/-! ## Restoration and resume (R41 to R46, R60, R61) -/

/-- What a restoration to checkpoint `c` sets, but for the working set and the segment (R60). -/
def PocketUnit.rewind (c : Checkpoint) (u : PocketUnit) : PocketUnit :=
  { u with
    seq := { u.seq with phaseTimer := 0, confirm := 0, history := setOutcome none u.seq.history }
    drum := { u.drum with twist := c.twistStart, antiTangle := 0, limitReached := false }
    moist := { u.moist with estimate := c.eStart } }

/-- The pocket's part of a restoration to `c` with the record now in its slot (R60); the segment is still to be handed. -/
def PocketUnit.restore (c : Checkpoint) (r : PhaseRecord) (u : PocketUnit) : PocketUnit :=
  (u.rewind c).takeWork c.slot r

/-- The resume that goes on in the run state `st`: the suspended entry begins anew and a window is aligned
(R42, R43, R45). -/
def PocketView.continueIn (env : Env) (st : RunState) (v : PocketView) : PocketView :=
  PocketView.become env st (v.onUnit fun u => PocketUnit.alignWindow (u.resumeEntry env.reserveCycles))

/-- The retry of the phase from its newest checkpoint (R44, R61). -/
def PocketView.retry (env : Env) (v : PocketView) : PocketView :=
  match v.unit.seq.newest with
  | none => v
  | some c =>
    match v.pool[c.slot].record? with
    | none => v
    | some r =>
      PocketView.become env .running <|
        v.onUnit fun u =>
          let w := u.restore c r
          PocketUnit.alignWindow (w.handRunning env.reserveCycles w.seq.work.segFirst w.seq.work.segLast)

/-- What every resume does: the unattended mark is cleared (R41). The pause timer stops because it counts in PAUSED only. -/
def PocketUnit.leavePause (u : PocketUnit) : PocketUnit := { u with seq := { u.seq with unattended := false } }

/-- A resume with resume target SAFE (R42). -/
def PocketView.resumeToSafe (env : Env) (v : PocketView) : PocketView :=
  if v.unit.seq.safeBegun then v.continueIn env .safe else v.enterSafe env

/-- The cases of a resume, once the request has passed its checks (R41). -/
def PocketView.resume (env : Env) (v : PocketView) : PocketView :=
  let w := v.onUnit PocketUnit.leavePause
  let q := w.unit.seq
  match q.resumeTarget with
  | .safe => w.resumeToSafe env
  | .running =>
    if q.held then
      (w.onUnit fun u => { u with seq := { u.seq with held := false } }).continueIn env .held
    else if q.restored = true ∨ q.pauseSeconds ≤ env.resumeLimit then
      (w.onUnit fun u => { u with seq := { u.seq with restored := false } }).continueIn env .running
    else if q.work.quals.retryAllowed then w.retry env
    else (w.onUnit (PocketUnit.closePhase .abandoned)).advance env

/-! ## START and BACKSTEP (R27, R63) -/

/-- What an accepted START sets before the activation completes: history, activation count and twist (R27). -/
def PocketUnit.freshRun (u : PocketUnit) : PocketUnit :=
  { u with seq := { u.seq with history := [], activations := 0 }, drum := { u.drum with twist := 0 } }

/-- The marks an accepted START sets (R27). -/
def PocketUnit.freshMarks (u : PocketUnit) : PocketUnit :=
  { u with seq := { u.seq with pauseTimer := 0, resumeTarget := .running, held := false, restored := false,
                               safeBegun := false, unattended := false } }

/-- An accepted START of head slot `i`, which holds the record `r` (R27). -/
def PocketView.startChain (env : Env) (i : SlotNo) (r : PhaseRecord) (v : PocketView) : PocketView :=
  PocketView.become env .running <|
    ((v.release env.pocket).onUnit PocketUnit.freshRun).enterSlot env i r |>.onUnit PocketUnit.freshMarks

/-- The pocket's slot becomes the target's: the same slot stays ACTIVE, another is released and the target's becomes ACTIVE
(R63 step 2). -/
def PocketView.moveTo (p : Pocket) (i : SlotNo) (r : PhaseRecord) (v : PocketView) : PocketView :=
  if v.unit.seq.work.active = some i then v
  else
    let w := v.release p
    { w with pool := w.pool.set i (.active p r) }

/-- A BACKSTEP to checkpoint `c`, `k` entries before the newest, whose slot holds `r` (R63). Its segment is handed under
STOP (R72), so the retake of the working set makes no twist check, also where the drum of a HELD pocket was TURNING: the
model's choice (R101, entry 21). -/
def PocketView.backstep (env : Env) (k : Nat) (c : Checkpoint) (r : PhaseRecord) (v : PocketView) : PocketView :=
  let fromHeld := decide (v.unit.seq.run = .held)
  let cut := v.onUnit fun u => { u with seq := { u.seq with history := u.seq.history.take (u.seq.history.length - k) } }
  PocketView.become env .paused <|
    (cut.moveTo env.pocket c.slot r).onUnit fun u =>
      let w := u.abandonWindow.restore c r
      { w with
        drum := w.drum.suspend.handStopped w.seq.work.segFirst w.seq.work.segLast
        seq := { w.seq with
          pauseTimer := if fromHeld then 0 else w.seq.pauseTimer
          resumeTarget := .running, held := false, restored := true } }

/-! ## Timed steps of the sequencer -/

/-- Whether the phase timer of an open phase has expired (R28). -/
def PocketUnit.phaseDue (u : PocketUnit) : Bool :=
  u.seq.run.evaluates && u.seq.phaseOpen && decide (u.seq.work.maxTime * second ≤ u.seq.phaseTimer)

/-- The outcome of a phase whose timer expired (R29 to R31). -/
def WorkingSet.expiryOutcome (w : WorkingSet) : PhaseOutcome :=
  match w.kind with
  | .dry => if w.timedOnly then .time else .timeout
  | .timed | .tumble => .time
  | .cool => .timeout

/-- Whether the unattended door-closed count is complete (R46). -/
def PocketUnit.unattendedDue (u : PocketUnit) : Bool :=
  decide (u.seq.run = .paused) && u.seq.unattended && u.pins.door && decide (unattendedWait ≤ u.seq.doorClosedFor)

/-- Whether the last second of the fan run-on has run (R53). -/
def Sequencer.fanDue (q : Sequencer) : Bool := decide (q.fanRunOn = 1) && decide (second ≤ q.fanFraction)

end Sys2Proof.Machine
end

