-- ==== Sys2Proof/Machine/Pool.lean ====
section
/-! DEFINITION. The requests to the record pool, the safe anchors and the default profiles: SET_DEFAULTS (R8), PUT_PHASE
(R10), GET_PHASE (R11), ERASE_PHASE (R12) and SET_SAFE (R13), and the race of a write with an activation (R20). -/

namespace Sys2Proof.Machine

/-! ## SET_DEFAULTS (R8) -/

/-- A profile with the carried groups replaced. -/
def Profile.overwrite (f : Profile) (g : Groups) : Profile where
  heat   := g.heat.getD f.heat
  dry    := g.dry.getD f.dry
  cool   := g.cool.getD f.cool
  tangle := g.tangle.getD f.tangle

/-- OK_CLAMPED if a clamp changed anything, OK otherwise. -/
def clampResult (changed : Bool) : ResultCode := if changed then .okClamped else .ok

/-- SET_DEFAULTS as its owner carries it out (R8). -/
def reqSetDefaults (pocket mask : Byte) (groups : List Byte) (s : State) : State :=
  match pocketOf pocket, groupsOf mask groups with
  | some p, some g =>
    (s.onUnit p fun u => { u with seq := { u.seq with profile := u.seq.profile.overwrite g.clamped } }).reply 0x04
      (clampResult (decide (g.clamped ≠ g))) []
  | _, _ => s.reply 0x04 .badRequest []

/-- SET_DEFAULTS. -/
def execSetDefaults (pocket mask : Byte) (groups : List Byte) (s : State) : Host.Outcome State Fault Refusal :=
  .next (reqSetDefaults pocket mask groups s)

/-! ## PUT_PHASE (R10) -/

/-- The record a PUT_PHASE carries, before clamping, if it passes check 1 of R10. -/
def recordOf (kind next : Byte) (maxTime : Half) (segFirst segLast quals mask : Byte) (groups : List Byte) :
    Option PhaseRecord :=
  match groupsOf mask groups, kindOf kind, slotRefOf next, entryOf segFirst, entryOf segLast, qualsOf quals with
  | some g, some k, some n, some a, some b, some q =>
    some { kind := k, next := n, maxTime := maxTime.toNat, segFirst := a, segLast := b, quals := q, heat := g.heat,
           dry := g.dry, cool := g.cool, tangle := g.tangle }
  | _, _, _, _, _, _ => none

/-- A record with max_time and every field of every present group clamped (R2, R4 to R6). -/
def PhaseRecord.clamped (r : PhaseRecord) : PhaseRecord :=
  { r with
    maxTime := clampNat 10 28800 r.maxTime
    heat := r.heat.map HeatGroup.clamped
    dry := r.dry.map DryGroup.clamped
    cool := r.cool.map CoolGroup.clamped
    tangle := r.tangle.map TangleGroup.clamped }

/-- The reply to a request whose write has been carried out inside an activation is owed no longer (R20, entry 19). -/
def State.answerRaced (s : State) : State := { s with raced := none }

/-- PUT_PHASE as its owner carries it out (R10). A write that was carried out inside an activation has its reply formed
(R20). -/
def reqPutPhase (slot kind next : Byte) (maxTime : Half) (segFirst segLast quals mask : Byte) (groups : List Byte)
    (s : State) : State :=
  match slotOf slot, recordOf kind next maxTime segFirst segLast quals mask groups with
  | some i, some r =>
    if s.raced = some (.putPhase slot kind next maxTime segFirst segLast quals mask groups) then
      s.answerRaced.reply 0x06 (clampResult (decide (r.clamped ≠ r))) []
    else if s.pool[i].isActive then s.reply 0x06 .inUse []
    else
      ({ s with pool := s.pool.set i (.loaded r.clamped) } : State).reply 0x06 (clampResult (decide (r.clamped ≠ r))) []
  | _, _ => s.reply 0x06 .badRequest []

/-- PUT_PHASE. -/
def execPutPhase (slot kind next : Byte) (maxTime : Half) (segFirst segLast quals mask : Byte) (groups : List Byte)
    (s : State) : Host.Outcome State Fault Refusal :=
  .next (reqPutPhase slot kind next maxTime segFirst segLast quals mask groups s)

/-! ## ERASE_PHASE (R12) -/

/-- Whether the slot is a pocket's safe anchor. -/
def PocketUnit.anchoredAt (i : SlotNo) (u : PocketUnit) : Bool := decide (u.seq.anchor = some i)

/-- ERASE_PHASE as its owner carries it out (R12). An erase that was carried out inside an activation has its reply formed
(R20). -/
def reqErasePhase (slot : Byte) (s : State) : State :=
  match slotOf slot with
  | none => s.reply 0x07 .badRequest []
  | some i =>
    if s.raced = some (.erasePhase slot) then s.answerRaced.reply 0x07 .ok []
    else if s.pool[i].isActive || s.lower.anchoredAt i || s.upper.anchoredAt i then s.reply 0x07 .inUse []
    else ({ s with pool := s.pool.set i .empty } : State).reply 0x07 .ok []

/-- ERASE_PHASE. -/
def execErasePhase (slot : Byte) (s : State) : Host.Outcome State Fault Refusal := .next (reqErasePhase slot s)

/-! ## A write and an activation together (R20) -/

/-- What a request would leave in a slot that is LOADED: the record of a PUT_PHASE, EMPTY by an ERASE_PHASE of a slot that is
no anchor; none for any other request and for one that is refused (R10, R12). -/
def State.writeOf (s : State) : Instr → Option (SlotNo × Slot)
  | .putPhase slot kind next maxTime segFirst segLast quals mask groups =>
    match slotOf slot, recordOf kind next maxTime segFirst segLast quals mask groups with
    | some i, some r => some (i, .loaded r.clamped)
    | _, _ => none
  | .erasePhase slot =>
    match slotOf slot with
    | some i => if s.lower.anchoredAt i || s.upper.anchoredAt i then none else some (i, .empty)
    | none => none
  | _ => none

/-- The request that the Link Port would take next, the reply slot being empty (R198, R199). -/
def LinkPort.nextRequest (l : LinkPort) : Option Instr :=
  match l.replySlot, l.inbound with
  | none, f :: _ =>
    match f.good, requestOf f.kind f.payload with
    | true, .request i => some i
    | _, _ => none
  | _, _ => none

/-- The request that reaches its owner together with the event that is being taken: the command waiting next, or the request of
the frame waiting next (R200, entry 19). -/
def State.nextRequest (s : State) : Option Instr :=
  match s.pending with
  | [] | .frameTaken :: _ => s.link.nextRequest
  | c :: _ => some c

/-- The write that reaches the pool together with an event of pocket `p`, to the pocket's active slot; none if it has been
carried out already (R20). -/
def State.racingWrite (s : State) (p : Pocket) : Option (SlotNo × Slot) :=
  match s.nextRequest with
  | none => none
  | some c =>
    match s.writeOf c with
    | none => none
    | some (i, x) => if (s.unit p).seq.work.active = some i ∧ s.raced ≠ some c then some (i, x) else none

/-- The surroundings of pocket `p` for an event of its own: a write may race with it, and a free value says whether that write
is taken inside the activation that the event makes (R20, entry 19). -/
def State.eventEnv (s : State) (p : Pocket) : Env :=
  { s.env p with racing := if Config.writeBetween s.free then s.racingWrite p else none }

/-- The state after an event of pocket `p` that its sequencer takes by `f`. Where a write raced with it, the free value has been
used, and a write that was carried out inside is noted, so that its request is answered when it is taken (R20). -/
def State.onEvent (s : State) (p : Pocket) (f : Env → PocketView → PocketView) : State :=
  let v := f (s.eventEnv p) (s.view p)
  if (s.racingWrite p).isSome then
    { (s.setView p v).spendFree with raced := if v.raced then s.nextRequest else s.raced }
  else s.setView p v

/-! ## GET_PHASE (R11, R208) -/

/-- A stored record in the PUT_PHASE layout from the kind byte on (R208). -/
def PhaseRecord.bytes (r : PhaseRecord) : List Byte :=
  [kindCode r.kind, slotRefCode r.next] ++ le16 r.maxTime
    ++ [byteOf r.segFirst.val, byteOf r.segLast.val, r.quals.byte, r.maskByte]
    ++ (r.heat.map heatBytes).getD [] ++ (r.dry.map dryBytes).getD []
    ++ (r.cool.map coolBytes).getD [] ++ (r.tangle.map tangleBytes).getD []

/-- Bits 0 to 2 of GET_PHASE's first byte: the slot state, and the pocket of an ACTIVE slot (R208). -/
def Slot.stateBits : Slot → List Bool
  | .empty => [false, false, false]
  | .loaded _ => [true, false, false]
  | .active .lower _ => [false, true, false]
  | .active .upper _ => [false, true, true]

/-- GET_PHASE's reply data for slot `i` (R11, R208). -/
def State.phaseData (s : State) (i : SlotNo) : List Byte :=
  bitsByte (s.pool[i].stateBits ++ [s.lower.anchoredAt i, s.upper.anchoredAt i])
    :: (s.pool[i].record?.map PhaseRecord.bytes).getD []

/-- GET_PHASE as its owner carries it out (R11). -/
def reqGetPhase (slot : Byte) (s : State) : State :=
  match slotOf slot with
  | none => s.reply 0x08 .badRequest []
  | some i => s.reply 0x08 .ok (s.phaseData i)

/-- GET_PHASE. -/
def execGetPhase (slot : Byte) (s : State) : Host.Outcome State Fault Refusal := .next (reqGetPhase slot s)

/-! ## SET_SAFE (R13) -/

/-- SET_SAFE as its owner carries it out (R13). -/
def reqSetSafe (pocket slot : Byte) (s : State) : State :=
  match pocketOf pocket, slotRefOf slot with
  | some p, some a =>
    if (s.unit p).seq.run = .safe then s.reply 0x09 .busy []
    else if a.isSome = true ∧ (s.unit (otherPocket p)).seq.anchor = a then s.reply 0x09 .inUse []
    else (s.onUnit p fun u => { u with seq := { u.seq with anchor := a } }).reply 0x09 .ok []
  | _, _ => s.reply 0x09 .badRequest []

/-- SET_SAFE. -/
def execSetSafe (pocket slot : Byte) (s : State) : Host.Outcome State Fault Refusal := .next (reqSetSafe pocket slot s)

end Sys2Proof.Machine
end

