-- ==== Sys2Proof/Machine/Heating.lean ====
section
/-! DEFINITION. The commands of the Heat Regulator and Supply Arbiter: the request CONFIGURE (R152), ZERO_CROSS with the frame
boundary and the arbiter step (R154, R159 to R166, R169, R170), MAINS_LOSS (R155), and airflow (R167, R171). -/

namespace Sys2Proof.Machine

/-! ## CONFIGURE (R151, R152) -/

/-- The fields of a CONFIGURE as numbers, before clamping; the inlet high limit is a temperature and signed (R206, entry 13). -/
def applianceOf (c : ConfigureFields) : Appliance where
  budget        := c.budget.toNat
  weights       := #v[c.weight0.toNat, c.weight1.toNat, c.weight2.toNat, c.weight3.toNat, c.weight4.toNat, c.weight5.toNat]
  frame         := c.frame.toNat
  reserveUnits  := c.reserveUnits.toNat
  reserveCycles := c.reserveCycles.toNat
  inletHigh     := c.inletHigh.toInt
  silence       := c.silence.toNat
  resumeLimit   := c.resumeLimit.toNat
  openLimit     := c.openLimit.toNat

/-- A configuration with every field clamped into its range (R151). -/
def Appliance.clamped (a : Appliance) : Appliance where
  budget        := clampNat 0 24 a.budget
  weights       := a.weights.map (clampNat 0 4)
  frame         := clampNat 10 100 a.frame
  reserveUnits  := clampNat 0 24 a.reserveUnits
  reserveCycles := clampNat 0 250 a.reserveCycles
  inletHigh     := clampInt 500 2200 a.inletHigh
  silence       := clampNat 1 60 a.silence
  resumeLimit   := clampNat 10 600 a.resumeLimit
  openLimit     := clampNat 2000 65535 a.openLimit

/-- An element after a CONFIGURE: on-count 0, and accumulator 0 if F changed (R152). -/
def Element.reconfigured (changedF : Bool) (x : Element) : Element :=
  { x with onCount := 0, accumulator := if changedF then 0 else x.accumulator }

/-- A pocket's heat state after a CONFIGURE (R152). -/
def PocketUnit.reconfigured (changedF : Bool) (u : PocketUnit) : PocketUnit :=
  { u with heat := { u.heat with
      elements := u.heat.elements.map (Element.reconfigured changedF), reserve := 0, grantedNow := 0 } }

/-- The step of an accepted CONFIGURE with clamped configuration `a` (R152). -/
def State.configure (s : State) (a : Appliance) : State :=
  let changedF := decide (a.frame ≠ s.supply.config.frame)
  { s with
    supply := { s.supply with config := a, configured := true, framePos := 0 }
    lower  := s.lower.reconfigured changedF
    upper  := s.upper.reconfigured changedF }

/-- CONFIGURE as its owner carries it out (R152). -/
def reqConfigure (fields : ConfigureFields) (s : State) : State :=
  if s.lower.seq.run.engaged || s.upper.seq.run.engaged then s.reply 0x01 .busy []
  else
    (s.configure (applianceOf fields).clamped).reply 0x01
      (if (applianceOf fields).clamped = applianceOf fields then .ok else .okClamped) []

/-- CONFIGURE. -/
def execConfigure (fields : ConfigureFields) (s : State) : Host.Outcome State Fault Refusal := .next (reqConfigure fields s)

/-! ## Demand for one frame (R159 to R162) -/

/-- The weight of pocket `p`'s element `j`. -/
def Appliance.weightOf (a : Appliance) (p : Pocket) (j : Fin 3) : Nat := a.weights[elementNo p j]

/-- The number of present elements of pocket `p` among its first `n` (R159, R162). -/
def Appliance.presentBefore (a : Appliance) (p : Pocket) (n : Nat) : Nat :=
  (List.finRange 3).countP fun j => decide (j.val < n) && decide (a.weightOf p j ≠ 0)

/-- The maximum demand of pocket `p` (R159, step 2). -/
def Appliance.maxDemand (a : Appliance) (p : Pocket) : Nat := a.frame * a.presentBefore p 3

/-- The demand in proportion to the inlet error (R159, steps 3 and 4). -/
def proportional (setpoint inlet : Int) (band dmax : Nat) : Nat :=
  if setpoint - inlet ≤ 0 then 0 else min dmax ((setpoint - inlet).toNat * dmax / band)

/-- The cap of a ceiling in percent of the maximum demand (R161). -/
def ceilingCap (dmax percent : Nat) : Nat := dmax * percent / 100

/-- The ceilings applied in turn (R161). -/
def applyCeilings (g : HeatGroup) (dmax : Nat) (turning limitReached : Bool) (d : Nat) : Nat :=
  let afterPause := if turning then d else min d (ceilingCap dmax g.pauseCeiling)
  if limitReached then min afterPause (ceilingCap dmax g.tangleCeiling) else afterPause

/-- The demand with both readings present (R159 to R161). -/
def heatDemand (g : HeatGroup) (dmax : Nat) (inlet exhaust : Int) (turning limitReached : Bool) : Nat :=
  applyCeilings g dmax turning limitReached
    (if g.exhaustLimit < exhaust then 0 else proportional g.setpoint inlet g.band dmax)

/-- The demand of pocket `p` for the frame beginning (R159 to R161). -/
def State.demandOf (s : State) (p : Pocket) : Nat :=
  let u := s.unit p
  if u.hasPermission then
    match (s.inlet p).reading, (s.exhaust p).reading with
    | some i, some x =>
      heatDemand u.seq.work.heat (s.supply.config.maxDemand p) i x u.drum.isTurning u.drum.limitReached
    | _, _ => 0
  else 0

/-- The on-count of pocket `p`'s element `j` for a demand `d` (R162). -/
def Appliance.onCount (a : Appliance) (p : Pocket) (d : Nat) (j : Fin 3) : Nat :=
  if a.weightOf p j = 0 then 0 else min a.frame (d - a.presentBefore p j.val * a.frame)

/-- The airflow timer at a frame boundary that forms demand `d` (R171). -/
def airTimerAt (d : Nat) (airf : Bool) (timer : Option Nat) : Option Nat :=
  if d = 0 ∨ airf = true then none else some (timer.getD 0)

/-- The frame boundary on a pocket whose demand is `d` (R154 step 2, R162, R170, R171). -/
def PocketUnit.beginFrame (a : Appliance) (p : Pocket) (d : Nat) (u : PocketUnit) : PocketUnit :=
  { u with heat := { u.heat with
      grantedLast := u.heat.grantedNow
      grantedNow  := 0
      demand      := d
      elements    := Vector.ofFn fun j => { u.heat.elements[j] with onCount := a.onCount p d j }
      airTimer    := airTimerAt d u.pins.airf u.heat.airTimer } }

/-- The frame boundary, each pocket's demand from its own state alone (R159 to R163). -/
def State.frameBoundary (s : State) : State :=
  { s with
    lower := s.lower.beginFrame s.supply.config .lower (s.demandOf .lower)
    upper := s.upper.beginFrame s.supply.config .upper (s.demandOf .upper) }

/-! ## The arbiter step (R164 to R167) -/

/-- An element with its on-count added, capped at 2F - 1 (R164). -/
def Element.accumulate (frame : Nat) (x : Element) : Element :=
  if 0 < x.onCount then { x with accumulator := min (2 * frame - 1) (x.accumulator + x.onCount) } else x

/-- The additions of an arbiter step on a pocket (R164). -/
def PocketUnit.accumulate (frame : Nat) (u : PocketUnit) : PocketUnit :=
  { u with heat := { u.heat with elements := u.heat.elements.map (Element.accumulate frame) } }

/-- The additions of an arbiter step (R164). -/
def State.accumulate (s : State) : State :=
  { s with lower := s.lower.accumulate s.supply.config.frame, upper := s.upper.accumulate s.supply.config.frame }

/-- The element numbered `e`. -/
def State.element (s : State) (e : ElementNo) : Element := (s.unit (elementPocket e)).heat.elements[elementPlace e]

/-- Whether element `e` requests conduction, the additions being made (R165). -/
def State.requests (s : State) (e : ElementNo) : Bool :=
  let u := s.unit (elementPocket e)
  decide (s.supply.config.weights[e] ≠ 0) && decide (s.supply.config.frame ≤ (s.element e).accumulator)
    && u.hasPermission && u.pins.airf

/-- The units of the start reserve of a pocket, if it is open (R169). -/
def State.reserveOf (s : State) (p : Pocket) : Nat := if 0 < (s.unit p).heat.reserve then s.supply.config.reserveUnits else 0

/-- The budget in force: max(0, B - the open reserves) (R166, step 1). -/
def State.budgetInForce (s : State) : Nat := s.supply.config.budget - (s.reserveOf .lower + s.reserveOf .upper)

/-- The next element in element order, from 5 to 0. -/
def ElementNo.next (e : ElementNo) : ElementNo := e + 1

/-- The six elements in the order in which they are examined, from the one named by the pointer (R166, step 2). -/
def examinationOrder (pointer : ElementNo) : List ElementNo := (List.finRange 6).map fun i => pointer + i

/-- An examination under way: the budget that remains, and what was granted and denied so far, in order (R166). -/
structure Examination where
  left    : Nat
  granted : List ElementNo
  denied  : List ElementNo
  deriving DecidableEq, Repr

/-- The examination of one element (R166, step 3). -/
def Examination.visit (requests : ElementNo → Bool) (weights : Vector Nat 6) (x : Examination) (e : ElementNo) : Examination :=
  if requests e then
    if weights[e] ≤ x.left then { x with left := x.left - weights[e], granted := x.granted ++ [e] }
    else { x with denied := x.denied ++ [e] }
  else x

/-- The examination of all six elements (R166, steps 1 to 3). -/
def State.examine (s : State) : Examination :=
  (examinationOrder s.supply.pointer).foldl (Examination.visit s.requests s.supply.config.weights)
    { left := s.budgetInForce, granted := [], denied := [] }

/-- The element after the arbiter's decision: its output follows it, and a grant takes F from its accumulator (R166, R167). -/
def Element.decided (frame : Nat) (granted : Bool) (x : Element) : Element :=
  { x with output := granted, accumulator := if granted then x.accumulator - frame else x.accumulator }

/-- The arbiter's decision on a pocket (R166, R167, R170). -/
def PocketUnit.decided (frame : Nat) (p : Pocket) (granted : List ElementNo) (u : PocketUnit) : PocketUnit :=
  { u with heat := { u.heat with
      elements := Vector.ofFn fun j => u.heat.elements[j].decided frame (decide (elementNo p j ∈ granted))
      grantedNow := u.heat.grantedNow + granted.countP fun e => decide (elementPocket e = p) } }

/-- The pointer after an examination: the first element denied, or the next one (R166, step 5). -/
def Examination.pointer (x : Examination) (pointer : ElementNo) : ElementNo := x.denied.head?.getD pointer.next

/-- The arbiter step, the additions being made (R166). -/
def State.arbitrate (s : State) : State :=
  let x := s.examine
  { s with
    supply := { s.supply with pointer := x.pointer s.supply.pointer }
    lower  := s.lower.decided s.supply.config.frame .lower x.granted
    upper  := s.upper.decided s.supply.config.frame .upper x.granted }

/-! ## ZERO_CROSS (R154, R156) -/

/-- A pocket's start reserve after it was counted in a cycle (R154 step 4, R169). -/
def PocketUnit.countReserve (u : PocketUnit) : PocketUnit := { u with heat := { u.heat with reserve := u.heat.reserve - 1 } }

/-- Mains is present, measured from this zero-cross (R154 step 1, R155, R156). -/
def Supply.seesMains (x : Supply) : Supply := { x with mainsPresent := true, zcElapsed := 0 }

/-- The frame position of the next cycle (R154, step 5). -/
def Supply.nextPosition (x : Supply) : Nat := if x.framePos + 1 < x.config.frame then x.framePos + 1 else 0

/-- A zero-cross (R154). -/
def State.zeroCross (s : State) : State :=
  let a := { s with supply := s.supply.seesMains }
  let b := if a.supply.framePos = 0 then a.frameBoundary else a
  let c := b.accumulate.arbitrate
  { c with
    lower  := c.lower.countReserve
    upper  := c.upper.countReserve
    supply := { c.supply with framePos := c.supply.nextPosition } }

/-- ZERO_CROSS: a rising edge on ZC (R154, R156). -/
def execZeroCross (s : State) : Host.Outcome State Fault Refusal := .next s.zeroCross

/-! ## MAINS_LOSS (R155) -/

/-- A pocket's heat state with every element output off. -/
def PocketHeat.outputsOff (h : PocketHeat) : PocketHeat :=
  { h with elements := h.elements.map fun x => { x with output := false } }

/-- A pocket with every element output off (R155, R167). -/
def PocketUnit.elementsOff (u : PocketUnit) : PocketUnit := { u with heat := u.heat.outputsOff }

/-- Whether 60 ms have passed without a zero-cross while mains was present (R155). -/
def Supply.lossDue (x : Supply) : Bool := x.mainsPresent && decide (mainsLossTime ≤ x.zcElapsed)

/-- MAINS_LOSS: mains is lost (R155). -/
def execMainsLoss (s : State) : Host.Outcome State Fault Refusal :=
  if s.supply.lossDue then
    .next { s with
      lower  := s.lower.elementsOff
      upper  := s.upper.elementsOff
      supply := { s.supply with mainsPresent := false }
      device := s.device.raise .mainsLost }
  else .next s

/-! ## Airflow (R167, R168, R171) -/

/-- The AIRF input goes to not asserted: outputs off (R167), and the timer starts if there is demand (R171). -/
def PocketUnit.loseAirflow (u : PocketUnit) : PocketUnit :=
  { u with
    pins := { u.pins with airf := false }
    heat := { u.heat.outputsOff with airTimer := airTimerAt u.heat.demand false u.heat.airTimer } }

/-- The AIRF input goes to asserted: the timer is discarded (R171). -/
def PocketUnit.proveAirflow (u : PocketUnit) : PocketUnit :=
  { u with pins := { u.pins with airf := true }, heat := { u.heat with airTimer := none } }

/-- AIRF_DEASSERTED: the AIRF input goes from asserted to not asserted (R167, R171). -/
def execAirfDeasserted (p : Pocket) (s : State) : Host.Outcome State Fault Refusal :=
  if (s.unit p).pins.airf then .next (s.onUnit p PocketUnit.loseAirflow) else .next s

/-- AIRF_ASSERTED: the AIRF input goes to asserted (R168, R171). -/
def execAirfAsserted (p : Pocket) (s : State) : Host.Outcome State Fault Refusal :=
  .next (s.onUnit p PocketUnit.proveAirflow)

/-- Whether demand has stood 5 s without airflow (R171). -/
def PocketHeat.airflowDue (h : PocketHeat) : Bool :=
  match h.airTimer with
  | some t => decide (airflowLimit ≤ t)
  | none => false

/-- AIRFLOW_TIMEOUT: the demand-without-airflow timer has reached 5 s, and AIRFLOW is reported (R171). -/
def execAirflowTimeout (p : Pocket) (s : State) : Host.Outcome State Fault Refusal :=
  if (s.unit p).heat.airflowDue then .next (s.onEvent p fun env => PocketView.report env .airflow) else .next s

end Sys2Proof.Machine
end

