-- ==== Sys2Proof/Machine/TrendBank.lean ====
section
/-! DEFINITION. The Trend Buffer: its write (R189) and switch (R190), and the requests READ_TREND (R191), FLUSH_TREND (R192)
and TREND_MODE (R193). A step of the buffer changes the banks and the DEVICE notices. -/

namespace Sys2Proof.Machine

/-- The room of a bank (R188). -/
def bankSize : Nat := 64

/-- The bank that has the fill role. -/
def TrendBuffer.fillBank (t : TrendBuffer) : List TrendRecord :=
  match t.fill with
  | .a => t.bankA
  | .b => t.bankB

/-- The bank that has the read role. -/
def TrendBuffer.readBank (t : TrendBuffer) : List TrendRecord :=
  match t.fill with
  | .a => t.bankB
  | .b => t.bankA

/-- The buffer with the fill bank's records replaced. -/
def TrendBuffer.setFillBank (t : TrendBuffer) (rs : List TrendRecord) : TrendBuffer :=
  match t.fill with
  | .a => { t with bankA := rs }
  | .b => { t with bankB := rs }

/-- The buffer with the read bank's records replaced. -/
def TrendBuffer.setReadBank (t : TrendBuffer) (rs : List TrendRecord) : TrendBuffer :=
  match t.fill with
  | .a => { t with bankB := rs }
  | .b => { t with bankA := rs }

/-- The other bank. -/
def Bank.other : Bank → Bank
  | .a => .b
  | .b => .a

/-- What a step of the Trend Buffer may change. -/
structure TrendView where
  buffer : TrendBuffer
  device : DeviceNotices
  deriving DecidableEq, Repr

/-- The state after the Trend Buffer took the step `f`. -/
def State.onTrend (s : State) (f : TrendView → TrendView) : State :=
  let v := f { buffer := s.trend, device := s.device }
  { s with trend := v.buffer, device := v.device }

/-- A switch (R190): the read bank's records are discarded, with TREND_LOST if there were any; the roles are exchanged; the
halted mark is cleared; TREND_READY is raised. -/
def TrendView.switch (v : TrendView) : TrendView where
  buffer := { v.buffer.setReadBank [] with fill := v.buffer.fill.other, halted := false }
  device := DeviceNotices.raise .trendReady (if v.buffer.readBank = [] then v.device else v.device.raise .trendLost)

/-- Whether a switch may be made now without losing what STOP mode keeps (R189). -/
def TrendBuffer.maySwitch (t : TrendBuffer) : Bool := decide (t.mode = .swap) || decide (t.readBank = [])

/-- Whether the fill-bank count is above the threshold. -/
def TrendBuffer.aboveThreshold (t : TrendBuffer) : Bool := decide (t.threshold < t.fillBank.length)

/-- A switch where the fill-bank count is above the threshold and the mode allows it (R189, step 3). -/
def TrendView.switchIfAbove (v : TrendView) : TrendView :=
  if v.buffer.aboveThreshold && v.buffer.maySwitch then v.switch else v

/-- The record appended to the fill bank, and the test of step 3 (R189). -/
def TrendView.append (r : TrendRecord) (v : TrendView) : TrendView :=
  TrendView.switchIfAbove { v with buffer := v.buffer.setFillBank (v.buffer.fillBank ++ [r]) }

/-- A record dropped in STOP mode: the halted mark and TREND_HALTED (R189). -/
def TrendView.drop (v : TrendView) : TrendView where
  buffer := { v.buffer with halted := true }
  device := v.device.raise .trendHalted

/-- The write of a record (R189). -/
def TrendView.write (r : TrendRecord) (v : TrendView) : TrendView :=
  if bankSize ≤ v.buffer.fillBank.length then
    if v.buffer.maySwitch then v.switch.append r else v.drop
  else v.append r

/-! ## READ_TREND (R191, R209) -/

/-- The code of a record's reading with its M (R209, bytes 5 and 6). -/
def Reading.code : Reading → Nat
  | .absent => 0
  | .measured m => m % 2048 + 2048
  | .void => 4096

/-- A temperature in a trend record: the reading plus 400, or 4,095 if it is absent (R209). -/
def trendTemp : Option Int → Nat
  | some t => (t + 400).toNat
  | none => 4095

/-- The 15 bytes of a trend record (R209). -/
def TrendRecord.bytes (r : TrendRecord) : List Byte :=
  [byteOf (r.slot.val + 64 * (pocketCode r.pocket).toNat)] ++ le16 r.ordinal ++ le16 r.sequence
    ++ le16 (r.reading.code + 8192 * drumStateCode r.drum)
    ++ le16 (r.estimate.getD 0 + (if r.estimate.isSome then 32768 else 0))
    ++ le24 (trendTemp r.inlet + 4096 * trendTemp r.exhaust)
    ++ le24 (twist11 r.twist + 2048 * r.granted)

/-- READ_TREND's reply data: the number of records returned and the records (R191, R209). -/
def trendData (rs : List TrendRecord) : List Byte := byteOf rs.length :: rs.flatMap TrendRecord.bytes

/-- The removal of the returned records, and in STOP mode the switch that follows the emptying of the read bank (R191). -/
def TrendView.removeReturned (v : TrendView) : TrendView :=
  let w := { v with buffer := v.buffer.setReadBank (v.buffer.readBank.drop 4) }
  if v.buffer.readBank ≠ [] ∧ w.buffer.readBank = [] ∧ w.buffer.mode = .stop ∧ w.buffer.aboveThreshold = true then w.switch
  else w

/-- READ_TREND as its owner carries it out (R191). -/
def reqReadTrend (s : State) : State :=
  (s.onTrend TrendView.removeReturned).reply 0x23 .ok (trendData (s.trend.readBank.take 4))

/-- READ_TREND. -/
def execReadTrend (s : State) : Host.Outcome State Fault Refusal := .next (reqReadTrend s)

/-! ## FLUSH_TREND (R192) -/

/-- FLUSH_TREND as its owner carries it out (R192). -/
def reqFlushTrend (s : State) : State :=
  if s.trend.readBank = [] ∧ s.trend.fillBank ≠ [] then (s.onTrend TrendView.switch).reply 0x25 .ok []
  else s.reply 0x25 .notAvailable []

/-- FLUSH_TREND. -/
def execFlushTrend (s : State) : Host.Outcome State Fault Refusal := .next (reqFlushTrend s)

/-! ## TREND_MODE (R193) -/

/-- TREND_MODE as its owner carries it out (R193). -/
def reqTrendMode (mode threshold : Byte) (s : State) : State :=
  match trendModeOf mode with
  | none => s.reply 0x24 .badRequest []
  | some m =>
    let n := clampNat 1 63 threshold.toNat
    ({ s with trend := { s.trend with mode := m, threshold := n } } : State).reply 0x24
      (if n = threshold.toNat then .ok else .okClamped) [trendModeCode m, byteOf n]

/-- TREND_MODE. -/
def execTrendMode (mode threshold : Byte) (s : State) : Host.Outcome State Fault Refusal := .next (reqTrendMode mode threshold s)

end Sys2Proof.Machine
end

