-- ==== Sys2Proof/Machine/Sensing.lean ====
section
/-! DEFINITION. The commands of the Moisture Sense Unit: the request CAL_MOISTURE (R116), the capture's events (R112 to R114,
R122, R123), the ends of the calibration parts (R117, R118) and WINDOW_END with the estimate, the dry decision and the trend
record (R121, R124 to R135, R187). -/

namespace Sys2Proof.Machine

/-! ## Periods (R112 to R114, R122, R123) -/

/-- A period that has ended: its length in ticks, and whether an edge ended it (R112). -/
structure Period where
  length : Nat
  byEdge : Bool
  deriving DecidableEq, Repr

/-- Whether the period is a contact period under an open limit (R113). -/
def Period.isContact (openLimit : Nat) (q : Period) : Bool := q.byEdge && decide (q.length < openLimit)

/-- The pulse rate of a contact period (R123, step 1). -/
def pulseRate (length : Nat) : Nat := 1000000 / max length 250

/-- The corrected conductance of a pulse rate (R123, step 2). -/
def conductance (gOpen gRef g : Nat) : Nat :=
  if g ≤ gOpen then 0 else min 2047 ((g - gOpen) * 1024 / (gRef - gOpen))

/-- What a period adds to the weighted sum: c × p for a contact period under a valid calibration (R122, R134). -/
def Moisture.weight (m : Moisture) (openLimit : Nat) (q : Period) : Nat :=
  if m.valid && q.isContact openLimit then conductance m.gOpen m.gRef (pulseRate q.length) * q.length else 0

/-- A calibration part with a period added: its ticks, and an edge if an edge ended it (R117). -/
def Calibration.add (q : Period) (c : Calibration) : Calibration :=
  { c with ticks := c.ticks + q.length, edges := if q.byEdge then c.edges + 1 else c.edges }

/-- A window with a period added (R122). -/
def SenseWindow.add (length weight : Nat) (w : SenseWindow) : SenseWindow :=
  { w with totalTicks := w.totalTicks + length, weighted := w.weighted + weight }

/-- The delivery of a period: to the calibration part, else to the window, else nowhere (R114). -/
def Moisture.deliver (openLimit : Nat) (q : Period) (m : Moisture) : Moisture :=
  match m.calibration with
  | some c => { m with calibration := some (c.add q) }
  | none => { m with window := m.window.map (SenseWindow.add q.length (m.weight openLimit q)) }

/-- The end of the period being captured: it is delivered and the count restarts (R112). -/
def Moisture.endPeriod (openLimit : Nat) (byEdge : Bool) (m : Moisture) : Moisture :=
  { m.deliver openLimit { length := m.capture, byEdge := byEdge } with capture := 0 }

/-- MPULSE_EDGE: a rising edge on MPULSE (R112). -/
def execMpulseEdge (p : Pocket) (s : State) : Host.Outcome State Fault Refusal :=
  if (s.unit p).moist.capture = 0 then .next s
  else .next (s.onUnit p fun u => { u with moist := u.moist.endPeriod s.supply.config.openLimit true })

/-- Whether the capture count has reached 65,535 (R112). -/
def Moisture.forcedDue (m : Moisture) : Bool := decide (captureLimit ≤ m.capture)

/-- FORCED_OPEN_PERIOD: the capture count has reached 65,535 without an edge (R112). -/
def execForcedOpenPeriod (p : Pocket) (s : State) : Host.Outcome State Fault Refusal :=
  if (s.unit p).moist.forcedDue then
    .next (s.onUnit p fun u => { u with moist := u.moist.endPeriod s.supply.config.openLimit false })
  else .next s

/-! ## Calibration (R115 to R118) -/

/-- A part of a calibration operation at its start, the capture restarted (R117, R118). -/
def Moisture.startPart (part : CalPart) (m : Moisture) : Moisture :=
  { m with capture := 0, calibration := some { part := part, elapsed := 0, edges := 0, ticks := 0 } }

/-- CAL_MOISTURE as its owner carries it out (R116). -/
def reqCalMoisture (pocket : Byte) (s : State) : State :=
  match pocketOf pocket with
  | none => s.reply 0x03 .badRequest []
  | some p =>
    if (s.unit p).seq.run.engaged || (s.unit p).moist.calibration.isSome then s.reply 0x03 .busy []
    else (s.onUnit p fun u => { u with moist := u.moist.startPart .isolated }).reply 0x03 .ok []

/-- CAL_MOISTURE. -/
def execCalMoisture (pocket : Byte) (s : State) : Host.Outcome State Fault Refusal := .next (reqCalMoisture pocket s)

/-- The pulse rate a part measured (R117, R118). -/
def Calibration.rate (c : Calibration) : Nat := 1000000 * c.edges / c.ticks

/-- Whether the first part has run its second (R117). -/
def Calibration.isolatedDue (c : Calibration) : Bool := decide (c.part = .isolated) && decide (calPartLength ≤ c.elapsed)

/-- The first part's result, if the second part is the one that has run its second (R118). -/
def Calibration.referenceDue (c : Calibration) : Option Nat :=
  match c.part with
  | .isolated => none
  | .reference measuredOpen => if calPartLength ≤ c.elapsed then some measuredOpen else none

/-- The unit at the end of a part: a period that has reached 65,535 ticks has ended and is counted, so that the period still in
progress has run at most 65,534 (R112, R117). -/
def Moisture.settled (openLimit : Nat) (m : Moisture) : Moisture :=
  if m.forcedDue then m.endPeriod openLimit false else m

/-- The end of the first part, with its rate; the second starts at once (R117). -/
def Moisture.endIsolated (m : Moisture) : Moisture :=
  match m.calibration with
  | some c => m.startPart (.reference c.rate)
  | none => m

/-- CAL_ISOLATED_PART_END: the first part has run its second (R117). -/
def execCalIsolatedPartEnd (p : Pocket) (s : State) : Host.Outcome State Fault Refusal :=
  match (s.unit p).moist.calibration with
  | some c =>
    if c.isolatedDue then
      .next (s.onUnit p fun u => { u with moist := (u.moist.settled s.supply.config.openLimit).endIsolated })
    else .next s
  | none => .next s

/-- Whether a measured pair passes the validity test (R118, step 3). -/
def pairPasses (gOpen gRef : Nat) : Bool := decide (gOpen + 100 ≤ gRef) && decide (gRef ≤ 4000)

/-- The completion of a calibration operation with its measured pair (R118). -/
def PocketUnit.completeCal (gOpen gRef : Nat) (u : PocketUnit) : PocketUnit :=
  let m := { u.moist with
    calibration := none
    lastAttempt := some { gOpen := gOpen, gRef := gRef, passed := pairPasses gOpen gRef } }
  if pairPasses gOpen gRef then
    { u with moist := { m with gOpen := gOpen, gRef := gRef, valid := true } }.raise .calDone
  else { u with moist := m }.raise .calFail

/-- The end of the second part, with its rate beside the first part's result (R118). -/
def PocketUnit.endReference (openLimit measuredOpen : Nat) (u : PocketUnit) : PocketUnit :=
  let v := { u with moist := u.moist.settled openLimit }
  match v.moist.calibration with
  | some c => v.completeCal measuredOpen c.rate
  | none => v

/-- CAL_COMPLETE: the second part has run its second (R118). -/
def execCalComplete (p : Pocket) (s : State) : Host.Outcome State Fault Refusal :=
  match (s.unit p).moist.calibration with
  | some c =>
    match c.referenceDue with
    | some measuredOpen => .next (s.onUnit p (PocketUnit.endReference s.supply.config.openLimit measuredOpen))
    | none => .next s
  | none => .next s

/-! ## The end of a window (R124 to R135) -/

/-- The window reading M (R124). -/
def SenseWindow.reading (w : SenseWindow) : Nat := w.weighted / w.totalTicks

/-- Whether the window is void (R125). -/
def SenseWindow.isVoid (w : SenseWindow) : Bool := decide (w.turning * 2 < w.length)

/-- The estimate after a reading M with smoothing shift `k`, the step rounded toward zero (R128). -/
def nextEstimate (k m : Nat) : Option Nat → Nat
  | none => m * 16
  | some e => ((e : Int) + Int.tdiv ((m : Int) * 16 - (e : Int)) (2 ^ k : Nat)).toNat

/-- What the unit hands the Trend Buffer as a window's reading (R125, R134, R135). -/
def Moisture.windowReading (m : Moisture) (w : SenseWindow) : Reading :=
  if m.valid then if w.isVoid then .void else .measured w.reading else .absent

/-- The unit after steps 1, 2 and the sequence part of step 4 of a window's end (R127, R128, R130, R135). -/
def Moisture.takeWindow (k : Nat) (w : SenseWindow) (m : Moisture) : Moisture :=
  let counted := m.valid && !w.isVoid
  { m with
    estimate := if counted then some (nextEstimate k w.reading m.estimate) else m.estimate
    lastReading := if counted then some w.reading else m.lastReading
    sequence := (m.sequence + 1) % 65536 }

/-- Whether a window is handed to the dry decision (R127, step 3). -/
def PocketUnit.decides (w : SenseWindow) (u : PocketUnit) : Bool :=
  u.seq.run.evaluates && u.seq.phaseOpen && decide (u.seq.work.kind = .dry) && !u.seq.work.timedOnly && !w.isVoid

/-- Whether the phase timer, with its sub-second remainder, is above the minimum time (R131). -/
def Sequencer.pastMinTime (q : Sequencer) : Bool := decide (q.work.dry.minTime * second < q.phaseTimer)

/-- Whether an estimate is at or below the target; an unseeded one is not (R131). -/
def DryGroup.met (g : DryGroup) : Option Nat → Bool
  | some e => decide (e ≤ g.target * 16)
  | none => false

/-- Whether the window that ends counts toward dryness, the estimate being as the window left it (R131). -/
def PocketUnit.countsDry (w : SenseWindow) (u : PocketUnit) : Bool :=
  u.decides w && u.seq.pastMinTime && u.seq.work.dry.met u.moist.estimate

/-- The confirm counter after the window (R131). -/
def PocketUnit.nextConfirm (w : SenseWindow) (u : PocketUnit) : Nat :=
  if u.countsDry w then bump 15 u.seq.confirm
  else if u.decides w && u.seq.pastMinTime then 0
  else u.seq.confirm

/-- The pocket after steps 1 to 3 of a window's end, and the sequence of step 4 (R127). -/
def PocketUnit.judgeWindow (w : SenseWindow) (u : PocketUnit) : PocketUnit :=
  let v := { u with moist := u.moist.takeWindow u.seq.work.dry.k w }
  { v with seq := { v.seq with confirm := v.nextConfirm w } }

/-- Whether step 3 brought the confirm counter to the confirm value (R127, step 5). -/
def PocketUnit.confirmsDry (w : SenseWindow) (u : PocketUnit) : Bool :=
  let v := { u with moist := u.moist.takeWindow u.seq.work.dry.k w }
  v.countsDry w && decide (v.nextConfirm w = v.seq.work.dry.confirm)

/-- The trend record of a window's end, formed after steps 1 to 3 (R187). -/
def State.trendRecord (s : State) (p : Pocket) (reading : Reading) : TrendRecord :=
  let u := s.unit p
  { pocket := p, slot := u.seq.work.active.getD 0, ordinal := (u.seq.newest.map Checkpoint.ordinal).getD 0,
    sequence := u.moist.sequence, reading := reading, estimate := u.moist.estimate,
    inlet := (s.inlet p).reading, exhaust := (s.exhaust p).reading,
    drum := u.drum.state, twist := u.drum.twist, granted := u.heat.grantedLast }

/-- The end of window `w` of pocket `p` (R127). -/
def State.endWindow (p : Pocket) (w : SenseWindow) (s : State) : State :=
  let judged := s.onUnit p (PocketUnit.judgeWindow w)
  let written := judged.onTrend (TrendView.write (judged.trendRecord p ((s.unit p).moist.windowReading w)))
  if (s.unit p).confirmsDry w then written.onEvent p fun env => PocketView.endPhase env .dry
  else written.onUnit p PocketUnit.alignWindow

/-- WINDOW_END: the window in progress has reached its length (R121, R127). -/
def execWindowEnd (p : Pocket) (s : State) : Host.Outcome State Fault Refusal :=
  match (s.unit p).moist.window with
  | some w => if w.length ≤ w.elapsed then .next (s.endWindow p w) else .next s
  | none => .next s

end Sys2Proof.Machine
end

