-- ==== Sys2Proof/Machine/Thermal.lean ====
section
/-! DEFINITION. The commands of the Temperature Scan: the requests SET_TEMP_CAL (R148) and GET_TEMPS (R149), the conversion of
a channel (R139 to R146, with the COOL end test of R31), and the thermal cutout's changes (R147). -/

namespace Sys2Proof.Machine

/-! ## SET_TEMP_CAL (R148) -/

/-- The calibration a SET_TEMP_CAL carries, clamped (R148, step 2). -/
def tempCalOf (cLo tLo cHi tHi : Half) : TempCal where
  cLo := clampNat 0 4095 cLo.toNat
  tLo := clampInt (-400) 2500 tLo.toInt
  cHi := clampNat 0 4095 cHi.toNat
  tHi := clampInt (-400) 2500 tHi.toInt

/-- Whether the clamp of a SET_TEMP_CAL changed a field. -/
def tempCalClamped (cLo tLo cHi tHi : Half) : Bool :=
  decide (tempCalOf cLo tLo cHi tHi ≠ { cLo := cLo.toNat, tLo := tLo.toInt, cHi := cHi.toNat, tHi := tHi.toInt })

/-- The channel with a new calibration and an emptied history (R148). -/
def TempChannel.recalibrate (k : TempCal) (x : TempChannel) : TempChannel := { x with cal := k, history := [] }

/-- The scan with one channel changed. -/
def TempScan.onChannel (t : TempScan) (c : Channel) (f : TempChannel → TempChannel) : TempScan :=
  t.setChannel c (f (t.channel c))

/-- SET_TEMP_CAL as its owner carries it out (R148). -/
def reqSetTempCal (channel : Byte) (cLo tLo cHi tHi : Half) (s : State) : State :=
  match channelOf channel with
  | none => s.reply 0x02 .badRequest []
  | some c =>
    let k := tempCalOf cLo tLo cHi tHi
    if k.cHi ≤ k.cLo then s.reply 0x02 .badRequest []
    else
      ({ s with temps := s.temps.onChannel c (TempChannel.recalibrate k) } : State).reply 0x02
        (if tempCalClamped cLo tLo cHi tHi then .okClamped else .ok) []

/-- SET_TEMP_CAL. -/
def execSetTempCal (channel : Byte) (cLo tLo cHi tHi : Half) (s : State) : Host.Outcome State Fault Refusal :=
  .next (reqSetTempCal channel cLo tLo cHi tHi s)

/-! ## GET_TEMPS (R149, R209) -/

/-- The 12 bytes of a channel (R209). -/
def TempChannel.bytes (x : TempChannel) : List Byte :=
  leTemp x.reading ++ le16 (x.lastCount.getD 0 + 4096 * classCode x.lastClass + 16384 * x.badScans)
    ++ le16 x.cal.cLo ++ leInt16 x.cal.tLo ++ le16 x.cal.cHi ++ leInt16 x.cal.tHi

/-- GET_TEMPS's reply data (R149, R209). -/
def State.tempsData (s : State) : List Byte :=
  s.temps.lowerInlet.bytes ++ s.temps.lowerExhaust.bytes ++ s.temps.upperInlet.bytes ++ s.temps.upperExhaust.bytes
    ++ s.temps.ambient.bytes ++ [bitsByte [s.temps.healthy, s.lower.pins.cutout, s.upper.pins.cutout]]

/-- GET_TEMPS as its owner carries it out (R149). -/
def reqGetTemps (s : State) : State := s.reply 0x22 .ok s.tempsData

/-- GET_TEMPS. -/
def execGetTemps (s : State) : Host.Outcome State Fault Refusal := .next (reqGetTemps s)

/-! ## A conversion on its channel (R139 to R142, R144) -/

/-- The class of a count (R139). -/
def classify (count : Nat) : ConversionClass :=
  if 4080 ≤ count then .sensorOpen else if count ≤ 15 then .sensorShort else .good

/-- The temperature of a good count, floored toward minus infinity and clamped (R140). -/
def TempCal.convert (k : TempCal) (count : Nat) : Int :=
  clampInt (-400) 2500
    (k.tLo + Int.fdiv (((count : Int) - (k.cLo : Int)) * (k.tHi - k.tLo)) ((k.cHi : Int) - (k.cLo : Int)))

/-- The history with a new value, at most four being kept (R141, step 2). -/
def pushValue (h : List Int) (t : Int) : List Int := (if 4 ≤ h.length then h.tail else h) ++ [t]

/-- The mean of a history, floored toward minus infinity (R141, step 3). -/
def meanOf (h : List Int) : Int := Int.fdiv h.sum (h.length : Int)

/-- A good conversion on its channel (R141). -/
def TempChannel.good (count : Nat) (x : TempChannel) : TempChannel :=
  let h := pushValue x.history (x.cal.convert count)
  { x with lastCount := some count, lastClass := some .good, history := h, reading := some (meanOf h), badScans := 0 }

/-- A bad conversion on its channel (R142). -/
def TempChannel.bad (count : Nat) (x : TempChannel) : TempChannel :=
  { x with lastCount := some count, lastClass := some (classify count), badScans := bump 3 x.badScans }

/-- A conversion on its channel. -/
def TempChannel.take (count : Nat) (x : TempChannel) : TempChannel :=
  match classify count with
  | .good => x.good count
  | .sensorOpen | .sensorShort => x.bad count

/-- Whether the channel is good now (R143). -/
def TempChannel.goodNow (x : TempChannel) : Bool := decide (x.lastClass = some .good)

/-- Whether the channel is in the SENSOR condition: its bad-scan count stands at 3 (R143). -/
def TempChannel.failing (x : TempChannel) : Bool := decide (x.badScans = 3)

/-- The AMBIENT healthy mark after a conversion of AMBIENT that left the channel as `x` (R141, R144). -/
def nextHealthy (healthy : Bool) (x : TempChannel) : Bool :=
  if x.goodNow then true else if x.failing then false else healthy

/-- A conversion of AMBIENT on the scan (R144). -/
def TempScan.takeAmbient (count : Nat) (t : TempScan) : TempScan :=
  { t with ambient := t.ambient.take count, healthy := nextHealthy t.healthy (t.ambient.take count) }

/-! ## What a conversion of a pocket's channel reports and ends (R31, R143, R146) -/

/-- A fault report to pocket `p` (R176). -/
def State.reportTo (s : State) (p : Pocket) (f : PocketFault) : State := s.onEvent p fun env => PocketView.report env f

/-- The cool threshold of an end temperature (R31, R144). -/
def TempScan.coolThreshold (t : TempScan) (endTemp : Int) : Int :=
  match t.healthy, t.ambient.reading with
  | true, some a => max endTemp (a + 50)
  | _, _ => endTemp

/-- Whether pocket `p` is in an open COOL phase, in RUNNING or SAFE, whose exhaust reading meets the threshold (R31). -/
def State.coolMet (s : State) (p : Pocket) : Bool :=
  let q := (s.unit p).seq
  q.run.evaluates && q.phaseOpen && decide (q.work.kind = .cool) &&
    match (s.exhaust p).reading with
    | some t => decide (t ≤ s.temps.coolThreshold q.work.cool.endTemp)
    | none => false

/-- The COOL end test at a conversion of the exhaust channel (R31). -/
def State.coolTest (s : State) (p : Pocket) : State :=
  if s.coolMet p then s.onEvent p fun env => PocketView.endPhase env .cooled else s

/-- Whether an inlet reading is above the inlet high limit (R146). -/
def State.inletHot (s : State) (p : Pocket) : Bool :=
  match (s.inlet p).reading with
  | some t => decide (s.supply.config.inletHigh < t)
  | none => false

/-- What follows a conversion of pocket `p`'s inlet channel, the channel having taken it (R143, R146). -/
def State.afterInlet (s : State) (p : Pocket) : State :=
  if (s.inlet p).goodNow then if s.inletHot p then s.reportTo p .overheat else s
  else if (s.inlet p).failing then s.reportTo p .sensor
  else s

/-- A SENSOR report before the COOL end test of the same conversion: the test is made if the report left the pocket in its
run state (entry 6). -/
def State.reportThenEnd (s : State) (p : Pocket) : State :=
  let r := s.reportTo p .sensor
  if (r.unit p).seq.run = (s.unit p).seq.run then r.coolTest p else r

/-- What follows a conversion of pocket `p`'s exhaust channel (R31, R143). A conversion that reports SENSOR uses a free value
for the order of the report and the COOL end (entry 6). -/
def State.afterExhaust (s : State) (p : Pocket) : State :=
  if (s.exhaust p).failing then
    if Config.reportBeforeEnd s.free then s.spendFree.reportThenEnd p else (s.spendFree.coolTest p).reportTo p .sensor
  else s.coolTest p

/-- The state after channel `c` took a conversion. -/
def State.convert (s : State) (c : Channel) (count : Nat) : State :=
  { s with temps := s.temps.onChannel c (TempChannel.take count) }

/-- CHANNEL_CONVERSION: one conversion of one channel (R138, R141). -/
def execChannelConversion (channel : Channel) (count : ConverterCount) (s : State) : Host.Outcome State Fault Refusal :=
  match channel with
  | .lowerInlet => .next ((s.convert .lowerInlet count.toNat).afterInlet .lower)
  | .lowerExhaust => .next ((s.convert .lowerExhaust count.toNat).afterExhaust .lower)
  | .upperInlet => .next ((s.convert .upperInlet count.toNat).afterInlet .upper)
  | .upperExhaust => .next ((s.convert .upperExhaust count.toNat).afterExhaust .upper)
  | .ambient => .next { s with temps := s.temps.takeAmbient count.toNat }

/-! ## The cutout (R147) -/

/-- The CUT input at a level. -/
def PocketUnit.setCutout (b : Bool) (u : PocketUnit) : PocketUnit := { u with pins := { u.pins with cutout := b } }

/-- CUTOUT_OPENING: the CUT input goes to not asserted, and OVERHEAT is reported (R147). -/
def execCutoutOpening (p : Pocket) (s : State) : Host.Outcome State Fault Refusal :=
  if (s.unit p).pins.cutout then .next ((s.onUnit p (PocketUnit.setCutout false)).reportTo p .overheat) else .next s

/-- CUTOUT_CLOSING: the CUT input goes back to asserted; nothing is reported and nothing cleared (R147). -/
def execCutoutClosing (p : Pocket) (s : State) : Host.Outcome State Fault Refusal :=
  .next (s.onUnit p (PocketUnit.setCutout true))

/-! ## The standing conditions (R143, R146, R147, R181, R185) -/

/-- Whether the condition that keeps SENSOR latched at a CLEAR_FAULT is present (R143, R181). -/
def State.sensorHolds (s : State) (p : Pocket) : Bool := !((s.inlet p).goodNow && (s.exhaust p).goodNow)

/-- Whether the condition that keeps OVERHEAT latched at a CLEAR_FAULT is present (R146, R147, R181). The limit is the one
that stands in the configuration at that moment, also before the next good inlet conversion (R153): the model's choice
(entry 22). -/
def State.overheatHolds (s : State) (p : Pocket) : Bool :=
  !(s.unit p).pins.cutout ||
    match (s.inlet p).reading with
    | some t => decide (s.supply.config.inletHigh - 50 < t)
    | none => false

/-- Whether SENSOR is latched again by RESET_PART (R185). -/
def State.sensorStands (s : State) (p : Pocket) : Bool := (s.inlet p).failing || (s.exhaust p).failing

/-- Whether OVERHEAT is latched again by RESET_PART (R185), by the limit that stands in the configuration at that moment
(entry 22). -/
def State.overheatStands (s : State) (p : Pocket) : Bool := s.inletHot p || !(s.unit p).pins.cutout

end Sys2Proof.Machine
end

