-- ==== Sys2Proof/Machine/FaultNotice.lean ====
section
/-! DEFINITION. The requests to the Fault and Notice Sets: CLEAR_FAULT (R180, R181, R52) and GET_STATUS (R183, R208). -/

namespace Sys2Proof.Machine

/-! ## CLEAR_FAULT (R180) -/

/-- Whether the clearing condition that keeps a fault latched is present (R181). -/
def State.holdsFault (s : State) (p : Pocket) : PocketFault → Bool
  | .overheat => s.overheatHolds p
  | .sensor => s.sensorHolds p
  | .drive => decide ((s.unit p).drum.state ≠ .stopped)
  | .airflow | .chain | .linkLost => false

/-- A set made from a rule for each fault. -/
def FaultSet.ofFaults (f : PocketFault → Bool) : FaultSet where
  overheat := f .overheat
  sensor   := f .sensor
  airflow  := f .airflow
  drive    := f .drive
  chain    := f .chain
  linkLost := f .linkLost

/-- The named faults that stay latched (R180, step 2). -/
def State.stayLatched (s : State) (p : Pocket) (named : FaultSet) : FaultSet :=
  FaultSet.ofFaults fun f => named.has f && (s.unit p).faults.has f && s.holdsFault p f

/-- The fault set after the clearing (R180, step 2). -/
def State.faultsAfterClear (s : State) (p : Pocket) (named : FaultSet) : FaultSet :=
  FaultSet.ofFaults fun f => (s.unit p).faults.has f && (!named.has f || s.holdsFault p f)

/-- The test of R52 on a HALTED pocket (R180, step 3). -/
def PocketUnit.leaveHalted (u : PocketUnit) : PocketUnit :=
  if u.seq.run = .halted ∧ u.faults.isEmpty = true ∧ u.drum.state = .stopped then
    { u with seq := { u.seq with run := .idle } }
  else u

/-- The clearing and the test of R52 on the pocket, the fault set becoming `fs`. -/
def PocketUnit.clearTo (fs : FaultSet) (u : PocketUnit) : PocketUnit := PocketUnit.leaveHalted { u with faults := fs }

/-- CLEAR_FAULT as its owner carries it out (R180). -/
def reqClearFault (pocket faults : Byte) (s : State) : State :=
  match pocketOf pocket, faultSetOf faults with
  | some p, some named =>
    let stayed := s.stayLatched p named
    let after := s.faultsAfterClear p named
    (s.onUnit p (PocketUnit.clearTo after)).reply 0x16 (if stayed.isEmpty then .ok else .stillPresent)
      [after.byte, stayed.byte]
  | _, _ => s.reply 0x16 .badRequest []

/-- CLEAR_FAULT. -/
def execClearFault (pocket faults : Byte) (s : State) : Host.Outcome State Fault Refusal :=
  .next (reqClearFault pocket faults s)

/-! ## GET_STATUS (R183, R208) -/

/-- The 31 bytes of GET_STATUS for a pocket (R208). -/
def PocketUnit.statusData (u : PocketUnit) : List Byte :=
  [runStateCode u.seq.run, slotRefCode u.seq.work.active, u.seq.marksByte]
    ++ le16 u.seq.phaseSeconds ++ le16 u.seq.pauseSeconds ++ [byteOf u.seq.confirm]
    ++ le16OrFFFF u.moist.estimate ++ le16OrFFFF u.moist.lastReading ++ leInt16 u.drum.twist
    ++ [byteOf u.drum.antiTangle, byteOf (drumStateCode u.drum.state)] ++ le16 u.heat.grantedLast
    ++ [u.faults.byte, u.notices.byte] ++ le16 u.moist.gOpen ++ le16 u.moist.gRef ++ [u.moist.marksByte]
    ++ le24 ((u.moist.lastAttempt.map Attempt.gOpen).getD 0) ++ le24 ((u.moist.lastAttempt.map Attempt.gRef).getD 0)

/-- The 4 bytes of GET_STATUS for DEVICE (R208). -/
def State.deviceData (s : State) : List Byte :=
  [bitsByte [s.supply.configured, s.supply.mainsPresent, s.trend.halted, decide (s.trend.fill = .b)],
   byteOf s.trend.fillBank.length, byteOf s.trend.readBank.length, s.device.byte]

/-- The notices reported are cleared; with the set empty, the pending-notice mark is cleared too (R183, R202). -/
def PocketUnit.readNotices (u : PocketUnit) : PocketUnit := { u with notices := NoticeSet.none, noticeMark := false }

/-- GET_STATUS as its owner carries it out (R183): the values stand as the request finds them, and the notices reported are
cleared in the same step. -/
def reqGetStatus (target : Byte) (s : State) : State :=
  match target.toNat with
  | 0 => (s.onUnit .lower PocketUnit.readNotices).reply 0x20 .ok s.lower.statusData
  | 1 => (s.onUnit .upper PocketUnit.readNotices).reply 0x20 .ok s.upper.statusData
  | 2 => ({ s with device := DeviceNotices.none } : State).reply 0x20 .ok s.deviceData
  | _ => s.reply 0x20 .badRequest []

/-- GET_STATUS. -/
def execGetStatus (target : Byte) (s : State) : Host.Outcome State Fault Refusal := .next (reqGetStatus target s)

end Sys2Proof.Machine
end

