-- ==== Sys2Proof/Machine/Motion.lean ====
section
/-! DEFINITION. The commands of the Drum Motion Unit: the request PUT_MOTION (R70), the tacho's events (R74, R96) and the
expiries of the drum's timers (R81, R82, R84, R89 to R91, R103, R104). -/

namespace Sys2Proof.Machine

/-! ## PUT_MOTION (R70) -/

/-- The entry a PUT_MOTION carries, clamped and written: duration 1..240, a run entry's speed 15..60, a DWELL's speed 0. -/
def motionEntry (m : Motion) (speed duration : Nat) : MotionEntry where
  motion   := m
  speed    := match m with
    | .run _ => clampNat 15 60 speed
    | .dwell => 0
  duration := clampNat 1 240 duration
  written  := true

/-- Whether a PUT_MOTION's clamp changed its duration or a run entry's speed. -/
def motionClamped (m : Motion) (speed duration : Nat) : Bool :=
  decide (clampNat 1 240 duration ≠ duration) ||
    match m with
    | .run _ => decide (clampNat 15 60 speed ≠ speed)
    | .dwell => false

/-- The pocket with entry `j` of its motion table replaced. -/
def PocketUnit.writeEntry (j : EntryNo) (e : MotionEntry) (u : PocketUnit) : PocketUnit :=
  { u with drum := { u.drum with table := u.drum.table.set j e } }

/-- PUT_MOTION as its owner carries it out (R70). -/
def reqPutMotion (pocket index direction speed duration : Byte) (s : State) : State :=
  match pocketOf pocket, entryOf index, motionOf direction with
  | some p, some j, some m =>
    if (s.unit p).executingEntry = some j then s.reply 0x05 .inUse []
    else
      (s.onUnit p (PocketUnit.writeEntry j (motionEntry m speed.toNat duration.toNat))).reply 0x05
        (if motionClamped m speed.toNat duration.toNat then .okClamped else .ok) []
  | _, _, _ => s.reply 0x05 .badRequest []

/-- PUT_MOTION. -/
def execPutMotion (pocket index direction speed duration : Byte) (s : State) : Host.Outcome State Fault Refusal :=
  .next (reqPutMotion pocket index direction speed duration s)

/-! ## The tacho -/

/-- TACH_EDGE: a rising edge on TACH (R74, R75, R79, R81, R82, R96 to R105). It uses the free values (entry 5). -/
def execTachEdge (p : Pocket) (s : State) : Host.Outcome State Fault Refusal :=
  .next (s.onUnit p (PocketUnit.tachEdge s.free s.supply.config.reserveCycles)).spendFree

/-- TACHO_CAPTURE_OVERFLOW: the capture count has passed 65,535 without an edge (R74). -/
def execTachoCaptureOverflow (p : Pocket) (s : State) : Host.Outcome State Fault Refusal :=
  if (s.unit p).drum.overflowDue then
    .next (s.onUnit p fun u => { u with drum := u.drum.captureOverflow })
  else .next s

/-! ## The unwind's times (R103, R104) -/

/-- UNWIND_BOUND_EXPIRY: 120 s have passed since the unwind's direction assertion, and the step ends (R104, R105). -/
def execUnwindBoundExpiry (p : Pocket) (s : State) : Host.Outcome State Fault Refusal :=
  if (s.unit p).drum.unwindBoundDue then
    .next (s.onUnit p (PocketUnit.endUnwind s.supply.config.reserveCycles))
  else .next s

/-- LOOSEN_DWELL_EXPIRY: the loosen dwell is over and the unwind's run begins (R103). -/
def execLoosenDwellExpiry (p : Pocket) (s : State) : Host.Outcome State Fault Refusal :=
  if (s.unit p).loosenDue then
    .next (s.onUnit p (PocketUnit.loosenOver s.supply.config.reserveCycles))
  else .next s

/-! ## Stop, standstill and entry duration -/

/-- STOP_CONFIRMED: a STOPPING drum has been quiet for 800 ms (R75, R81). -/
def execStopConfirmed (p : Pocket) (s : State) : Host.Outcome State Fault Refusal :=
  if (s.unit p).drum.stopDue then
    .next (s.onUnit p (PocketUnit.confirmStop s.supply.config.reserveCycles))
  else .next s

/-- STANDSTILL_EXPIRY: the 300 ms of SETTLE are over, DIR changes and the waiting run is asserted (R77, R82). -/
def execStandstillExpiry (p : Pocket) (s : State) : Host.Outcome State Fault Refusal :=
  if (s.unit p).drum.standstillDue then
    .next (s.onUnit p (PocketUnit.standstillOver s.supply.config.reserveCycles))
  else .next s

/-- ENTRY_DURATION_EXPIRY: the entry in progress has counted its duration, and the next one begins (R73, R84, R85). -/
def execEntryDurationExpiry (p : Pocket) (s : State) : Host.Outcome State Fault Refusal :=
  if (s.unit p).drum.entryDue then
    .next (s.onUnit p (PocketUnit.nextEntry s.supply.config.reserveCycles))
  else .next s

/-! ## Drive supervision (R89 to R91) -/

/-- What a DRIVE condition does in a supervised state: a stop command, then the report (R91). -/
def PocketView.driveReport (env : Env) (v : PocketView) : PocketView :=
  PocketView.report env .drive (v.onUnit fun u => { u with drum := u.drum.stopCommand })

/-- A met DRIVE condition: reported in a supervised state; elsewhere its timer is discarded by `drop` (R91). A stop timer
discarded so stays discarded until a run entry waits for that stop (entry 18). -/
def State.driveCondition (p : Pocket) (drop : Drum → Drum) (s : State) : State :=
  if (s.unit p).seq.run.engaged then s.onPocket p (PocketView.driveReport (s.env p))
  else s.onUnit p fun u => { u with drum := drop u.drum }

/-- START_TIMEOUT: the start timer has reached 10 s (R89). -/
def execStartTimeout (p : Pocket) (s : State) : Host.Outcome State Fault Refusal :=
  if (s.unit p).drum.startDue then .next (s.driveCondition p fun d => { d with startTimer := none }) else .next s

/-- SPEED_LOSS_TIMEOUT: the speed-loss timer has reached 5 s (R89). -/
def execSpeedLossTimeout (p : Pocket) (s : State) : Host.Outcome State Fault Refusal :=
  if (s.unit p).drum.speedLossDue then .next (s.driveCondition p fun d => { d with speedLossTimer := none }) else .next s

/-- STOP_TIMEOUT: the stop timer has reached 15 s (R90). -/
def execStopTimeout (p : Pocket) (s : State) : Host.Outcome State Fault Refusal :=
  if (s.unit p).drum.stopLimitDue then .next (s.driveCondition p fun d => { d with stopTimer := none }) else .next s

end Sys2Proof.Machine
end

