-- ==== Sys2Proof/Machine/Running.lean ====
section
/-! DEFINITION. The commands of the Pocket Sequencer: the requests START (R26), PAUSE (R38), RESUME (R41), ADVANCE (R36),
ABORT (R37), BACKSTEP (R62) and GET_HISTORY (R67), and its events: the door (R39, R40), the phase timer (R28), the unattended
resume (R46) and the end of the fan run-on (R53). -/

namespace Sys2Proof.Machine

/-! ## START (R26, R27) -/

/-- The result of a START that fails at check 7 (R15). -/
def ActivationFailure.startResult : ActivationFailure → ResultCode
  | .slotEmpty => .badRequest
  | .slotInUse => .inUse
  | .segmentUnusable => .badRequest

/-- Checks 2 to 6 of START, in order; none if they pass (R26). -/
def State.startRefusal (s : State) (p : Pocket) : Option ResultCode :=
  let u := s.unit p
  if u.seq.run ≠ .idle ∧ u.seq.run ≠ .done then some .busy
  else if s.supply.configured = false ∨ u.seq.anchor = none then some .notReady
  else if u.faults.isEmpty = false then some .faulted
  else if u.pins.door = false then some .doorOpen
  else if u.moist.calibration.isSome then some .busy
  else none

/-- START as its owner carries it out (R26, R27). -/
def reqStart (pocket slot : Byte) (s : State) : State :=
  match pocketOf pocket, slotOf slot with
  | some p, some i =>
    match s.startRefusal p with
    | some r => s.reply 0x10 r []
    | none =>
      match ((s.view p).release p).check i with
      | .error e => s.reply 0x10 e.startResult []
      | .ok r => (s.onPocket p (PocketView.startChain (s.env p) i r)).reply 0x10 .ok []
  | _, _ => s.reply 0x10 .badRequest []

/-- START. -/
def execStart (pocket slot : Byte) (s : State) : Host.Outcome State Fault Refusal := .next (reqStart pocket slot s)

/-! ## PAUSE (R38) -/

/-- PAUSE as its owner carries it out (R38). -/
def reqPause (pocket : Byte) (s : State) : State :=
  match pocketOf pocket with
  | none => s.reply 0x11 .badRequest []
  | some p =>
    match (s.unit p).seq.run with
    | .running | .held | .safe => (s.onPocket p (PocketView.enterPaused (s.env p))).reply 0x11 .ok []
    | .paused => s.reply 0x11 .busy []
    | .idle | .done | .halted => s.reply 0x11 .notAvailable []

/-- PAUSE. -/
def execPause (pocket : Byte) (s : State) : Host.Outcome State Fault Refusal := .next (reqPause pocket s)

/-! ## RESUME (R41) -/

/-- RESUME as its owner carries it out (R41). -/
def reqResume (pocket : Byte) (s : State) : State :=
  match pocketOf pocket with
  | none => s.reply 0x12 .badRequest []
  | some p =>
    if (s.unit p).seq.run ≠ .paused then s.reply 0x12 .busy []
    else if (s.unit p).pins.door = false then s.reply 0x12 .doorOpen []
    else (s.onPocket p (PocketView.resume (s.env p))).reply 0x12 .ok []

/-- RESUME. -/
def execResume (pocket : Byte) (s : State) : Host.Outcome State Fault Refusal := .next (reqResume pocket s)

/-! ## ADVANCE (R36) -/

/-- ADVANCE in RUNNING or SAFE: the phase closes SKIPPED and the chain advances (R36). -/
def PocketView.skip (env : Env) (v : PocketView) : PocketView :=
  PocketView.advance env (v.onUnit (PocketUnit.closePhase .skipped))

/-- ADVANCE as its owner carries it out (R36). -/
def reqAdvance (pocket : Byte) (s : State) : State :=
  match pocketOf pocket with
  | none => s.reply 0x13 .badRequest []
  | some p =>
    match (s.unit p).seq.run with
    | .held => (s.onPocket p (PocketView.advance (s.env p))).reply 0x13 .ok []
    | .running | .safe => (s.onPocket p (PocketView.skip (s.env p))).reply 0x13 .ok []
    | .paused | .idle | .done | .halted => s.reply 0x13 .busy []

/-- ADVANCE. -/
def execAdvance (pocket : Byte) (s : State) : Host.Outcome State Fault Refusal := .next (reqAdvance pocket s)

/-! ## ABORT (R37) -/

/-- ABORT in RUNNING or HELD: the phase closes ABORTED and the pocket enters SAFE (R37). -/
def PocketView.abort (env : Env) (v : PocketView) : PocketView :=
  PocketView.enterSafe env (v.onUnit (PocketUnit.closePhase .aborted))

/-- ABORT as its owner carries it out (R37). -/
def reqAbort (pocket : Byte) (s : State) : State :=
  match pocketOf pocket with
  | none => s.reply 0x15 .badRequest []
  | some p =>
    match (s.unit p).seq.run, (s.unit p).seq.resumeTarget with
    | .running, _ | .held, _ => (s.onPocket p (PocketView.abort (s.env p))).reply 0x15 .ok []
    | .paused, .running => (s.onUnit p (PocketUnit.retargetSafe .aborted)).reply 0x15 .ok []
    | .paused, .safe | .safe, _ => s.reply 0x15 .busy []
    | .idle, _ | .done, _ | .halted, _ => s.reply 0x15 .notAvailable []

/-- ABORT. -/
def execAbort (pocket : Byte) (s : State) : Host.Outcome State Fault Refusal := .next (reqAbort pocket s)

/-! ## BACKSTEP (R62, R63) -/

/-- Check 2 of BACKSTEP; none if it passes (R62). -/
def Sequencer.backstepRefusal (q : Sequencer) : Option ResultCode :=
  match q.run, q.resumeTarget with
  | .held, _ | .paused, .running => none
  | .paused, .safe | .running, _ | .safe, _ => some .busy
  | .idle, _ | .done, _ | .halted, _ => some .notAvailable

/-- The target of a BACKSTEP by `k`, if checks 3 to 5 pass: the entry `k` places before the newest, and its slot's record
(R62). -/
def State.backstepTarget (s : State) (p : Pocket) (k : Nat) : Option (Checkpoint × PhaseRecord) :=
  match (s.unit p).seq.history.reverse[k]? with
  | none => none
  | some c =>
    match s.pool[c.slot] with
    | .empty => none
    | .loaded r => if segmentUsable r (s.unit p).drum then some (c, r) else none
    | .active q r => if q = p ∧ segmentUsable r (s.unit p).drum = true then some (c, r) else none

/-- BACKSTEP as its owner carries it out (R62, R63). -/
def reqBackstep (pocket k : Byte) (s : State) : State :=
  match pocketOf pocket with
  | none => s.reply 0x14 .badRequest []
  | some p =>
    if 7 < k.toNat then s.reply 0x14 .badRequest []
    else
      match (s.unit p).seq.backstepRefusal with
      | some r => s.reply 0x14 r []
      | none =>
        match s.backstepTarget p k.toNat with
        | none => s.reply 0x14 .notAvailable []
        | some (c, r) => (s.onPocket p (PocketView.backstep (s.env p) k.toNat c r)).reply 0x14 .ok []

/-- BACKSTEP. -/
def execBackstep (pocket k : Byte) (s : State) : Host.Outcome State Fault Refusal := .next (reqBackstep pocket k s)

/-! ## GET_HISTORY (R67, R209) -/

/-- The 7 bytes of a history entry (R209). -/
def Checkpoint.bytes (c : Checkpoint) : List Byte :=
  [byteOf (c.slot.val + (if c.eStart.isSome then 64 else 0) + (if c.outcome.isSome then 128 else 0))]
    ++ le16 c.ordinal
    ++ le16 (twist11 c.twistStart + 4096 * (c.outcome.map outcomeCode).getD 0)
    ++ le16 (c.eStart.getD 0)

/-- GET_HISTORY's reply data (R67, R209). -/
def Sequencer.historyData (q : Sequencer) : List Byte :=
  [byteOf q.history.length] ++ le16 q.activations ++ q.history.flatMap Checkpoint.bytes

/-- GET_HISTORY as its owner carries it out (R67). -/
def reqGetHistory (pocket : Byte) (s : State) : State :=
  match pocketOf pocket with
  | none => s.reply 0x21 .badRequest []
  | some p => s.reply 0x21 .ok (s.unit p).seq.historyData

/-- GET_HISTORY. -/
def execGetHistory (pocket : Byte) (s : State) : Host.Outcome State Fault Refusal := .next (reqGetHistory pocket s)

/-! ## The door (R39, R40) -/

/-- The DOOR input at a level. -/
def PocketUnit.setDoor (b : Bool) (u : PocketUnit) : PocketUnit := { u with pins := { u.pins with door := b } }

/-- A door opening on the pocket, by state (R39). -/
def PocketView.openDoor (env : Env) (v : PocketView) : PocketView :=
  let w := v.onUnit (PocketUnit.setDoor false)
  match w.unit.seq.run with
  | .running | .held | .safe => w.enterPaused env
  | .paused => w.onUnit fun u => { u with seq := { u.seq with doorClosedFor := 0 } }
  | .idle | .done | .halted => w

/-- DOOR_OPENING: the DOOR input goes from asserted to not asserted (R39). -/
def execDoorOpening (p : Pocket) (s : State) : Host.Outcome State Fault Refusal :=
  if (s.unit p).pins.door then .next (s.onPocket p (PocketView.openDoor (s.env p))) else .next s

/-- DOOR_CLOSING: the DOOR input goes back to asserted (R40). The fan and the unattended count follow the input. -/
def execDoorClosing (p : Pocket) (s : State) : Host.Outcome State Fault Refusal :=
  if (s.unit p).pins.door then .next s else .next (s.onUnit p (PocketUnit.setDoor true))

/-! ## Timed events -/

/-- PHASE_TIMER_EXPIRY: the phase timer of an open phase has reached max_time, and the phase ends (R28 to R31). -/
def execPhaseTimerExpiry (p : Pocket) (s : State) : Host.Outcome State Fault Refusal :=
  if (s.unit p).phaseDue then
    .next (s.onEvent p fun env => PocketView.endPhase env (s.unit p).seq.work.expiryOutcome)
  else .next s

/-- UNATTENDED_RESUME: the door-closed count of an unattended pocket is complete, and it resumes by R42 (R46). -/
def execUnattendedResume (p : Pocket) (s : State) : Host.Outcome State Fault Refusal :=
  if (s.unit p).unattendedDue then
    .next (s.onEvent p fun env v => (v.onUnit PocketUnit.leavePause).resumeToSafe env)
  else .next s

/-- FAN_RUN_ON_EXPIRY: the last second of the fan run-on has run, and the count is 0 (R53). -/
def execFanRunOnExpiry (p : Pocket) (s : State) : Host.Outcome State Fault Refusal :=
  if (s.unit p).seq.fanDue then
    .next (s.onUnit p fun u => { u with seq := { u.seq with fanRunOn := 0, fanFraction := 0 } })
  else .next s

end Sys2Proof.Machine
end

