-- ==== Sys2Proof/Machine/Reset.lean ====
section
/-! DEFINITION. The two resets: RESET_PART (R204) and POWER_ON (R205 and the power-on values of every chapter). -/

namespace Sys2Proof.Machine

/-! ## RESET_PART (R204) -/

/-- The sequencer at RESET_PART (R23, R55, R68, R137): profile, anchor, working parameters and fan run-on are kept. -/
def Sequencer.resetPart (q : Sequencer) : Sequencer :=
  { q with
    run := .idle, work := { q.work with active := none, quals := Quals.none }, phaseTimer := 0, confirm := 0,
    pauseTimer := 0, resumeTarget := .running, held := false, restored := false, safeBegun := false, unattended := false,
    doorClosedFor := 0, history := [], activations := 0 }

/-- The Drum Motion Unit at RESET_PART (R94, R110): table, drum state, DIR, capture, quiet time and stop timer are kept. -/
def Drum.resetPart (d : Drum) : Drum :=
  { d with
    order := .stop, segment := none, entryTime := none, pendingDir := none, commanded := 0, startTimer := none,
    speedLossTimer := none, revPulse := 0, revNumber := 0, revPeriods := [], twist := 0, imbalanceRun := 0, unwind := none,
    antiTangle := 0, limitReached := false }

/-- The Moisture Sense Unit at RESET_PART (R119, R137): the calibration in force and the last attempt are kept. -/
def Moisture.resetPart (m : Moisture) : Moisture :=
  { m with calibration := none, window := none, estimate := none, lastReading := none, sequence := 0 }

/-- A pocket's heat state at RESET_PART (R173). -/
def PocketHeat.resetPart (_h : PocketHeat) : PocketHeat := PocketHeat.powerOn

/-- Everything of a pocket at RESET_PART, before faults are latched again (R204). -/
def PocketUnit.resetPart (u : PocketUnit) : PocketUnit where
  seq        := u.seq.resetPart
  drum       := u.drum.resetPart
  moist      := u.moist.resetPart
  heat       := u.heat.resetPart
  faults     := FaultSet.none
  notices    := NoticeSet.none
  noticeMark := false
  pins       := u.pins

/-- The Trend Buffer at RESET_PART (R194): mode and threshold are kept. -/
def TrendBuffer.resetPart (t : TrendBuffer) : TrendBuffer := { t with bankA := [], bankB := [], fill := .a, halted := false }

/-- The faults of a pocket whose conditions stand are latched again (R185). -/
def State.relatch (p : Pocket) (s : State) : State :=
  let a := if s.sensorStands p then s.onUnit p (PocketUnit.latch .sensor) else s
  if a.overheatStands p then a.onUnit p (PocketUnit.latch .overheat) else a

/-- A slot after RESET_PART (R23): ACTIVE becomes LOADED. -/
def Slot.deactivated : Slot → Slot
  | .active _ r => .loaded r
  | x => x

/-- The step of RESET_PART on the whole part (R204). -/
def State.resetPart (s : State) : State :=
  State.relatch .upper <| State.relatch .lower
    { s with
      pool   := s.pool.map Slot.deactivated
      lower  := s.lower.resetPart
      upper  := s.upper.resetPart
      device := DeviceNotices.none
      trend  := s.trend.resetPart }

/-- RESET_PART as the whole part carries it out (R204). -/
def reqResetPart (s : State) : State :=
  if s.lower.seq.run.engaged || s.upper.seq.run.engaged then s.reply 0x30 .busy [] else s.resetPart.reply 0x30 .ok []

/-- RESET_PART. -/
def execResetPart (s : State) : Host.Outcome State Fault Refusal := .next (reqResetPart s)

/-! ## POWER_ON (R205) -/

/-- Power-on of everything but the input pins' levels, the free counter and the queue, which are not the part's state. -/
def State.atPowerOn (s : State) : State :=
  { State.reset with
    lower := { PocketUnit.powerOn with pins := s.lower.pins }
    upper := { PocketUnit.powerOn with pins := s.upper.pins }
    free := s.free
    pending := s.pending }

/-- A cutout input found not asserted at the release of RESET_N is reported as an opening (R147, R185). -/
def State.reportOpenCutout (p : Pocket) (s : State) : State :=
  if (s.unit p).pins.cutout then s else s.reportTo p .overheat

/-- POWER_ON: RESET_N is asserted and released (00, Resets; R205). -/
def execPowerOn (s : State) : Host.Outcome State Fault Refusal :=
  .next (State.reportOpenCutout .upper (State.reportOpenCutout .lower s.atPowerOn))

end Sys2Proof.Machine
end

