-- ==== Sys2Proof/Machine/LinkFrames.lean ====
section
/-! DEFINITION. The commands of the Link Port: reception (R195 to R198), the taking of a frame and its reply (R199, R200),
transmission (R201, R202) and the silence timer (R203). -/

namespace Sys2Proof.Machine

/-! ## Reception (R196, R198) -/

/-- The judgement of a good byte in HUNT (R196). -/
def huntByte (b : Byte) : Assembler := if b = 0xB5 then .length else .hunt

/-- A complete frame from its length, the kind and payload bytes, and its check byte (R197). A frame has a kind byte, its
length being at least 1. -/
def frameFrom (length : Nat) (gathered : List Byte) (check : Byte) : InFrame where
  kind    := gathered.headD 0
  payload := gathered.tail
  good    := decide (check = crc (byteOf length :: gathered))

/-- A good byte on the assembler: its next state, and the frame it completes, if it does (R196). -/
def Assembler.take (b : Byte) : Assembler → Assembler × Option InFrame
  | .hunt => (huntByte b, none)
  | .length => if 1 ≤ b.toNat ∧ b.toNat ≤ 64 then (.body b.toNat [], none) else (huntByte b, none)
  | .body n gathered =>
    if n ≤ gathered.length + 1 then (.check n (gathered ++ [b]), none) else (.body n (gathered ++ [b]), none)
  | .check n gathered => (.hunt, some (frameFrom n gathered b))

/-- The room of the inbound queue (R198). -/
def inboundRoom : Nat := 2

/-- A complete frame reaches the queue: a good check restarts the silence timer; the frame is queued, or discarded with the
overrun mark (R198). -/
def LinkPort.complete (f : InFrame) (l : LinkPort) : LinkPort :=
  let restarted := if f.good then { l with silence := 0, silenceExpired := false } else l
  if l.inbound.length < inboundRoom then { restarted with inbound := l.inbound ++ [f] } else { restarted with overrun := true }

/-- The assembler as a byte whose stop bit ends now finds it: the byte's start bit came a byte time ago, and a start bit that
came more than 10 ms after the end of the last byte finds the frame in progress discarded (R196, entry 17). -/
def LinkPort.atStartBit (l : LinkPort) : Assembler :=
  if byteSilenceLimit + byteTime < l.byteSilence then .hunt else l.assembler

/-- A byte received on RXD (R196): a bad byte discards a frame in progress. -/
def LinkPort.receive (b : Byte) (stopBitGood : Bool) (l : LinkPort) : LinkPort :=
  if stopBitGood then
    match l.atStartBit.take b with
    | (a, none) => { l with assembler := a, byteSilence := 0 }
    | (a, some f) => LinkPort.complete f { l with assembler := a, byteSilence := 0 }
  else { l with assembler := .hunt, byteSilence := 0 }

/-- RECEIVE_BYTE: a byte has been received on RXD, with its stop bit found good or not (R195 to R198). -/
def execReceiveByte (byte : Byte) (stopBitGood : Bool) (s : State) : Host.Outcome State Fault Refusal :=
  .next { s with link := s.link.receive byte stopBitGood }

/-- Whether 10 ms of silence end a frame in progress (R196). -/
def LinkPort.byteSilenceDue (l : LinkPort) : Bool := decide (l.assembler ≠ .hunt) && decide (byteSilenceLimit ≤ l.byteSilence)

/-- Whether the partial frame is discarded by the clock: 10 ms have passed, and so has the time of a byte whose start bit could
have come within them (R196, entry 17). -/
def LinkPort.byteSilenceOver (l : LinkPort) : Bool :=
  decide (l.assembler ≠ .hunt) && decide (byteSilenceLimit + byteTime ≤ l.byteSilence)

/-- RECEIVE_SILENCE_TIMEOUT: 10 ms have passed since the last byte without a start bit, and the partial frame is discarded
(R196). -/
def execReceiveSilenceTimeout (s : State) : Host.Outcome State Fault Refusal :=
  if s.link.byteSilenceDue then .next { s with link := { s.link with assembler := .hunt } } else .next s

/-! ## The taking of a frame (R198 to R200) -/

/-- A request as its owner carries it out (R200). Commands that are no requests do not come from frames. -/
def runRequest (i : Instr) (s : State) : State :=
  match i with
  | .configure fields => reqConfigure fields s
  | .setTempCal channel cLo tLo cHi tHi => reqSetTempCal channel cLo tLo cHi tHi s
  | .calMoisture pocket => reqCalMoisture pocket s
  | .setDefaults pocket mask groups => reqSetDefaults pocket mask groups s
  | .putMotion pocket index direction speed duration => reqPutMotion pocket index direction speed duration s
  | .putPhase slot kind next maxTime segFirst segLast quals mask groups =>
    reqPutPhase slot kind next maxTime segFirst segLast quals mask groups s
  | .erasePhase slot => reqErasePhase slot s
  | .getPhase slot => reqGetPhase slot s
  | .setSafe pocket slot => reqSetSafe pocket slot s
  | .start pocket slot => reqStart pocket slot s
  | .pause pocket => reqPause pocket s
  | .resume pocket => reqResume pocket s
  | .advance pocket => reqAdvance pocket s
  | .abort pocket => reqAbort pocket s
  | .backstep pocket k => reqBackstep pocket k s
  | .clearFault pocket faults => reqClearFault pocket faults s
  | .getStatus target => reqGetStatus target s
  | .getHistory pocket => reqGetHistory pocket s
  | .getTemps => reqGetTemps s
  | .readTrend => reqReadTrend s
  | .flushTrend => reqFlushTrend s
  | .trendMode mode threshold => reqTrendMode mode threshold s
  | .resetPart => reqResetPart s
  | .powerOn | .receiveByte _ _ | .receiveSilenceTimeout | .frameTaken | .replyTransmissionBegin | .noticeFrameBegin
  | .transmissionEnd | .silenceTimerExpiry | .doorOpening _ | .doorClosing _ | .phaseTimerExpiry _ | .unattendedResume _
  | .fanRunOnExpiry _ | .tachEdge _ | .tachoCaptureOverflow _ | .unwindBoundExpiry _ | .loosenDwellExpiry _
  | .stopConfirmed _ | .standstillExpiry _ | .entryDurationExpiry _ | .startTimeout _ | .speedLossTimeout _
  | .stopTimeout _ | .mpulseEdge _ | .forcedOpenPeriod _ | .calIsolatedPartEnd _ | .calComplete _ | .windowEnd _
  | .channelConversion _ _ | .cutoutOpening _ | .zeroCross | .mainsLoss | .airfDeasserted _ | .airfAsserted _
  | .airflowTimeout _ | .cutoutClosing _ => s

/-- The FRAME_ERROR reply: kind 0xFF, the status byte alone (R199). -/
def frameErrorReply : Reply := { kind := 0xFF, result := none, data := [] }

/-- The answer to a frame taken from the queue, the reply slot being empty (R199). -/
def State.answerFrame (f : InFrame) (s : State) : State :=
  if f.good then
    match requestOf f.kind f.payload with
    | .unknownKind => s.reply f.kind .unknown []
    | .badLength => s.reply f.kind .badRequest []
    | .request i => runRequest i s
  else { s with link := { s.link with answer := some frameErrorReply, replySlot := some frameErrorReply } }

/-- FRAME_TAKEN: with the reply slot empty, the oldest frame is removed from the queue and answered (R198 to R200). -/
def execFrameTaken (s : State) : Host.Outcome State Fault Refusal :=
  match s.link.replySlot, s.link.inbound with
  | none, f :: rest => .next (State.answerFrame f { s with link := { s.link with inbound := rest } })
  | _, _ => .next s

/-! ## Transmission (R199, R201, R202) -/

/-- The kind and payload bytes of a reply with its status byte (R199). -/
def Reply.body (status : Byte) (r : Reply) : List Byte :=
  match r.result with
  | some c => r.kind :: resultCode c :: status :: r.data
  | none => [r.kind, status]

/-- REPLY_TRANSMISSION_BEGIN: with TXD idle, the waiting reply begins; its status byte is formed and the overrun mark is
cleared (R201). -/
def execReplyTransmissionBegin (s : State) : Host.Outcome State Fault Refusal :=
  match s.link.tx, s.link.replySlot with
  | .idle, some r =>
    .next { s with link := { s.link with tx := .sending true (frameBytes (r.body s.statusByte)) 0, overrun := false } }
  | _, _ => .next s

/-- A target of notices (R182). -/
inductive Target where
  | pocket (p : Pocket)
  | device
  deriving DecidableEq, Repr

/-- The first target whose pending-notice mark is set (R201). -/
def State.markedTarget (s : State) : Option Target :=
  if s.lower.noticeMark then some (.pocket .lower)
  else if s.upper.noticeMark then some (.pocket .upper)
  else if s.device.mark then some .device
  else none

/-- A NOTICE frame's kind and payload (R202). -/
def State.noticeBody (s : State) : Target → List Byte
  | .pocket p => [0x70, pocketCode p, (s.unit p).notices.byte]
  | .device => [0x70, 0x02, s.device.byte]

/-- A target's pending-notice mark cleared (R202). -/
def State.clearMark (s : State) : Target → State
  | .pocket p => s.onUnit p fun u => { u with noticeMark := false }
  | .device => { s with device := { s.device with mark := false } }

/-- A NOTICE frame for a target begins (R201, R202). -/
def State.beginNotice (t : Target) (s : State) : State :=
  { s.clearMark t with link := { s.link with tx := .sending false (frameBytes (s.noticeBody t)) 0 } }

/-- NOTICE_FRAME_BEGIN: with TXD idle and no reply waiting, the NOTICE frame of the first marked target begins (R201,
R202). -/
def execNoticeFrameBegin (s : State) : Host.Outcome State Fault Refusal :=
  match s.link.tx, s.link.replySlot, s.markedTarget with
  | .idle, none, some t => .next (s.beginNotice t)
  | _, _, _ => .next s

/-- The end of the frame being sent: a reply's slot empties (R198, R201). -/
def LinkPort.endFrame (isReply : Bool) (l : LinkPort) : LinkPort :=
  { l with tx := .idle, replySlot := if isReply then none else l.replySlot }

/-- The bits of a byte on the line in the order in which they are sent: the start bit at the space level, the data bits with the
least significant first, no parity bit, the stop bit at the mark level (R195). -/
def byteLine (b : Byte) : List Bool := false :: ((List.range 8).map fun i => b.getLsbD i) ++ [true]

/-- The level of TXD, true for the mark level: mark while idle; while a frame is sent, the bit whose time it is, the bytes
of the frame back to back at 38,400 bits a second (R195). -/
def LinkPort.txd (l : LinkPort) : Bool :=
  match l.tx with
  | .idle => true
  | .sending _ frame elapsed => (frame.flatMap byteLine).getD (elapsed * 38400 / 1000000) true

/-- Whether a frame of these bytes has been sent after `elapsed` microseconds: ten bits a byte at 38,400 baud (R195). -/
def sentWhole (frame : List Byte) (elapsed : Nat) : Bool := decide (frame.length * 10 * 1000000 ≤ elapsed * 38400)

/-- TRANSMISSION_END: the last byte of the frame being sent has gone (R198, R201). -/
def execTransmissionEnd (s : State) : Host.Outcome State Fault Refusal :=
  match s.link.tx with
  | .sending isReply frame elapsed =>
    if sentWhole frame elapsed then .next { s with link := s.link.endFrame isReply } else .next s
  | .idle => .next s

/-! ## The silence timer (R203) -/

/-- Whether the silence timer has reached the timeout in force (R203). -/
def State.silenceDue (s : State) : Bool :=
  !s.link.silenceExpired && decide (s.supply.config.silence * second ≤ s.link.silence)

/-- A LINK_LOST report to a pocket that is RUNNING, HELD or PAUSED (R203). -/
def State.reportSilence (p : Pocket) (s : State) : State :=
  if (s.unit p).seq.run.linkWatched then s.reportTo p .linkLost else s

/-- The timer expired, and the reports of the expiry; which pocket is reported first is a free value (R203, entry 7). -/
def State.expireSilence (s : State) : State :=
  let e := ({ s with link := { s.link with silenceExpired := true } } : State).spendFree
  if Config.upperFirst s.free then State.reportSilence .lower (State.reportSilence .upper e)
  else State.reportSilence .upper (State.reportSilence .lower e)

/-- SILENCE_TIMER_EXPIRY: the silence timer has reached the configured timeout (R203). -/
def execSilenceTimerExpiry (s : State) : Host.Outcome State Fault Refusal :=
  if s.silenceDue then .next s.expireSilence else .next s

end Sys2Proof.Machine
end

