-- ==== Sys2Proof/Machine/Dispatch.lean ====
section
/-! DEFINITION. The dispatch: each command to its meaning. -/

namespace Sys2Proof.Machine

/-- The effect of a command on everything but the queue. -/
def exec (i : Instr) (s : State) : Host.Outcome State Fault Refusal :=
  match i with
  | .configure fields => Sys2Proof.Machine.execConfigure fields s
  | .setTempCal channel cLo tLo cHi tHi => Sys2Proof.Machine.execSetTempCal channel cLo tLo cHi tHi s
  | .calMoisture pocket => Sys2Proof.Machine.execCalMoisture pocket s
  | .setDefaults pocket mask groups => Sys2Proof.Machine.execSetDefaults pocket mask groups s
  | .putMotion pocket index direction speed duration => Sys2Proof.Machine.execPutMotion pocket index direction speed duration s
  | .putPhase slot kind next maxTime segFirst segLast quals mask groups => Sys2Proof.Machine.execPutPhase slot kind next maxTime segFirst segLast quals mask groups s
  | .erasePhase slot => Sys2Proof.Machine.execErasePhase slot s
  | .getPhase slot => Sys2Proof.Machine.execGetPhase slot s
  | .setSafe pocket slot => Sys2Proof.Machine.execSetSafe pocket slot s
  | .start pocket slot => Sys2Proof.Machine.execStart pocket slot s
  | .pause pocket => Sys2Proof.Machine.execPause pocket s
  | .resume pocket => Sys2Proof.Machine.execResume pocket s
  | .advance pocket => Sys2Proof.Machine.execAdvance pocket s
  | .abort pocket => Sys2Proof.Machine.execAbort pocket s
  | .backstep pocket k => Sys2Proof.Machine.execBackstep pocket k s
  | .clearFault pocket faults => Sys2Proof.Machine.execClearFault pocket faults s
  | .getStatus target => Sys2Proof.Machine.execGetStatus target s
  | .getHistory pocket => Sys2Proof.Machine.execGetHistory pocket s
  | .getTemps => Sys2Proof.Machine.execGetTemps s
  | .readTrend => Sys2Proof.Machine.execReadTrend s
  | .flushTrend => Sys2Proof.Machine.execFlushTrend s
  | .trendMode mode threshold => Sys2Proof.Machine.execTrendMode mode threshold s
  | .resetPart => Sys2Proof.Machine.execResetPart s
  | .powerOn => Sys2Proof.Machine.execPowerOn s
  | .receiveByte byte stopBitGood => Sys2Proof.Machine.execReceiveByte byte stopBitGood s
  | .receiveSilenceTimeout => Sys2Proof.Machine.execReceiveSilenceTimeout s
  | .frameTaken => Sys2Proof.Machine.execFrameTaken s
  | .replyTransmissionBegin => Sys2Proof.Machine.execReplyTransmissionBegin s
  | .noticeFrameBegin => Sys2Proof.Machine.execNoticeFrameBegin s
  | .transmissionEnd => Sys2Proof.Machine.execTransmissionEnd s
  | .silenceTimerExpiry => Sys2Proof.Machine.execSilenceTimerExpiry s
  | .doorOpening p => Sys2Proof.Machine.execDoorOpening p s
  | .doorClosing p => Sys2Proof.Machine.execDoorClosing p s
  | .phaseTimerExpiry p => Sys2Proof.Machine.execPhaseTimerExpiry p s
  | .unattendedResume p => Sys2Proof.Machine.execUnattendedResume p s
  | .fanRunOnExpiry p => Sys2Proof.Machine.execFanRunOnExpiry p s
  | .tachEdge p => Sys2Proof.Machine.execTachEdge p s
  | .tachoCaptureOverflow p => Sys2Proof.Machine.execTachoCaptureOverflow p s
  | .unwindBoundExpiry p => Sys2Proof.Machine.execUnwindBoundExpiry p s
  | .loosenDwellExpiry p => Sys2Proof.Machine.execLoosenDwellExpiry p s
  | .stopConfirmed p => Sys2Proof.Machine.execStopConfirmed p s
  | .standstillExpiry p => Sys2Proof.Machine.execStandstillExpiry p s
  | .entryDurationExpiry p => Sys2Proof.Machine.execEntryDurationExpiry p s
  | .startTimeout p => Sys2Proof.Machine.execStartTimeout p s
  | .speedLossTimeout p => Sys2Proof.Machine.execSpeedLossTimeout p s
  | .stopTimeout p => Sys2Proof.Machine.execStopTimeout p s
  | .mpulseEdge p => Sys2Proof.Machine.execMpulseEdge p s
  | .forcedOpenPeriod p => Sys2Proof.Machine.execForcedOpenPeriod p s
  | .calIsolatedPartEnd p => Sys2Proof.Machine.execCalIsolatedPartEnd p s
  | .calComplete p => Sys2Proof.Machine.execCalComplete p s
  | .windowEnd p => Sys2Proof.Machine.execWindowEnd p s
  | .channelConversion channel count => Sys2Proof.Machine.execChannelConversion channel count s
  | .cutoutOpening p => Sys2Proof.Machine.execCutoutOpening p s
  | .zeroCross => Sys2Proof.Machine.execZeroCross s
  | .mainsLoss => Sys2Proof.Machine.execMainsLoss s
  | .airfDeasserted p => Sys2Proof.Machine.execAirfDeasserted p s
  | .airfAsserted p => Sys2Proof.Machine.execAirfAsserted p s
  | .airflowTimeout p => Sys2Proof.Machine.execAirflowTimeout p s
  | .cutoutClosing p => Sys2Proof.Machine.execCutoutClosing p s

end Sys2Proof.Machine
end

