-- ==== Sys2Proof/Machine/Tick.lean ====
section
/-! DEFINITION. The clock, which no row of the table commands: what one microsecond does to every timer, and which events of
the table are due by what the timers and the queues of the part hold (entries 2 and 3). -/

namespace Sys2Proof.Machine

/-! ## One microsecond -/

/-- A timer that runs counts on; a discarded one stays discarded. -/
def tickTimer (t : Option Nat) : Option Nat := t.map (· + 1)

/-- The fan run-on counts down in whole seconds (R53); its last second ends by FAN_RUN_ON_EXPIRY. -/
def Sequencer.tickFan (q : Sequencer) : Sequencer :=
  if q.fanRunOn = 0 then q
  else if q.fanFraction + 1 < second ∨ q.fanRunOn = 1 then { q with fanFraction := q.fanFraction + 1 }
  else { q with fanRunOn := q.fanRunOn - 1, fanFraction := 0 }

/-- The sequencer's timers: the phase timer of an open phase in RUNNING or SAFE (R25, R28), the pause timer in PAUSED (R24,
entry 12), the unattended door-closed count (R46). -/
def Sequencer.tick (door : Bool) (q : Sequencer) : Sequencer :=
  Sequencer.tickFan { q with
    phaseTimer    := if q.run.evaluates && q.phaseOpen then q.phaseTimer + 1 else q.phaseTimer
    pauseTimer    := if q.run = .paused then bump pauseTimerMax q.pauseTimer else q.pauseTimer
    doorClosedFor := if q.run = .paused ∧ q.unattended = true ∧ door = true then q.doorClosedFor + 1 else q.doorClosedFor }

/-- The time of an unwind step: the loosen dwell, or the run from its assertion (R103, R104). -/
def Unwind.tick (w : Unwind) : Unwind :=
  match w.stage with
  | .stop => w
  | .loosen => { w with timer := w.timer + 1 }
  | .run => if w.asserted then { w with timer := w.timer + 1 } else w

/-- The drum's timers (R75, R82, R84, R85, R89, R90); `tach` says that the 100 kHz reference ticks too (R74). -/
def Drum.tick (tach : Bool) (d : Drum) : Drum :=
  { d with
    entryTime      := tickTimer d.entryTime
    tachCount      := if tach then bump (captureLimit + 1) d.tachCount else d.tachCount
    quiet          := bump stopQuiet d.quiet
    startTimer     := tickTimer d.startTimer
    speedLossTimer := tickTimer d.speedLossTimer
    stopTimer      := tickTimer d.stopTimer
    settleTimer    := d.settleTimer.map (bump standstill)
    unwind         := d.unwind.map Unwind.tick }

/-- A calibration part's time (R117, R118). -/
def Calibration.tick (c : Calibration) : Calibration := { c with elapsed := c.elapsed + 1 }

/-- A window's time, and its turning time while the pocket turns (R121, R125). -/
def SenseWindow.tick (turning : Bool) (w : SenseWindow) : SenseWindow :=
  { w with elapsed := w.elapsed + 1, turning := if turning then w.turning + 1 else w.turning }

/-- The moisture capture and its times (R112, R117, R121). -/
def Moisture.tick (turning : Bool) (m : Moisture) : Moisture :=
  { m with
    capture     := bump captureLimit m.capture
    calibration := m.calibration.map Calibration.tick
    window      := m.window.map (SenseWindow.tick turning) }

/-- The demand-without-airflow timer, which holds while mains is lost (R155, R171). -/
def PocketHeat.tick (mains : Bool) (h : PocketHeat) : PocketHeat :=
  { h with airTimer := if mains then tickTimer h.airTimer else h.airTimer }

/-- Every timer of a pocket. -/
def PocketUnit.tick (tach mains : Bool) (u : PocketUnit) : PocketUnit :=
  { u with
    seq   := u.seq.tick u.pins.door
    drum  := u.drum.tick tach
    moist := u.moist.tick u.drum.isTurning
    heat  := u.heat.tick mains }

/-- The time since the last zero-cross, measured while mains is present (R155). -/
def Supply.tick (x : Supply) : Supply :=
  if x.mainsPresent then { x with zcElapsed := bump mainsLossTime x.zcElapsed } else x

/-- The frame being sent (R195). -/
def Transmitter.tick : Transmitter → Transmitter
  | .idle => .idle
  | .sending isReply frame elapsed => .sending isReply frame (elapsed + 1)

/-- The link's timers (R195, R196, R203). -/
def LinkPort.tick (l : LinkPort) : LinkPort :=
  { l with
    byteSilence := if l.assembler = .hunt then l.byteSilence else bump (byteSilenceLimit + byteTime + 1) l.byteSilence
    tx          := l.tx.tick
    silence     := if l.silenceExpired then l.silence else l.silence + 1 }

/-- Whether the 100 kHz reference ticks with this microsecond: every tenth (entry 2). -/
def State.tachTicks (s : State) : Bool := decide (9 ≤ s.prescale)

/-- One microsecond passes (entry 2). -/
def State.tick (s : State) : State :=
  { s with
    lower    := s.lower.tick s.tachTicks s.supply.mainsPresent
    upper    := s.upper.tick s.tachTicks s.supply.mainsPresent
    supply   := s.supply.tick
    link     := s.link.tick
    prescale := if s.tachTicks then 0 else s.prescale + 1 }

/-! ## The events that are due -/

/-- An event, if it is due. -/
def whenDue (due : Bool) (i : Instr) : List Instr := if due then [i] else []

/-- Whether a window has reached its length (R121). -/
def Moisture.windowDue (m : Moisture) : Bool :=
  match m.window with
  | some w => decide (w.length ≤ w.elapsed)
  | none => false

/-- Whether the first calibration part is over (R117). -/
def Moisture.isolatedDue (m : Moisture) : Bool :=
  match m.calibration with
  | some c => c.isolatedDue
  | none => false

/-- Whether the second calibration part is over (R118). -/
def Moisture.completeDue (m : Moisture) : Bool :=
  match m.calibration with
  | some c => c.referenceDue.isSome
  | none => false

/-- The events of pocket `p` that are due. -/
def PocketUnit.dueEvents (p : Pocket) (u : PocketUnit) : List Instr :=
  whenDue u.phaseDue (.phaseTimerExpiry p) ++ whenDue u.unattendedDue (.unattendedResume p)
    ++ whenDue u.seq.fanDue (.fanRunOnExpiry p) ++ whenDue u.drum.overflowDue (.tachoCaptureOverflow p)
    ++ whenDue u.drum.unwindBoundDue (.unwindBoundExpiry p) ++ whenDue u.loosenDue (.loosenDwellExpiry p)
    ++ whenDue u.drum.stopDue (.stopConfirmed p) ++ whenDue u.drum.standstillDue (.standstillExpiry p)
    ++ whenDue u.drum.entryDue (.entryDurationExpiry p) ++ whenDue u.drum.startDue (.startTimeout p)
    ++ whenDue u.drum.speedLossDue (.speedLossTimeout p) ++ whenDue u.drum.stopLimitDue (.stopTimeout p)
    ++ whenDue u.moist.forcedDue (.forcedOpenPeriod p) ++ whenDue u.moist.isolatedDue (.calIsolatedPartEnd p)
    ++ whenDue u.moist.completeDue (.calComplete p) ++ whenDue u.moist.windowDue (.windowEnd p)
    ++ whenDue u.heat.airflowDue (.airflowTimeout p)

/-- Whether the Link Port may take a frame (R198). -/
def LinkPort.takeDue (l : LinkPort) : Bool := l.replySlot.isNone && !l.inbound.isEmpty

/-- Whether a reply may begin (R201). -/
def LinkPort.replyDue (l : LinkPort) : Bool := decide (l.tx = .idle) && l.replySlot.isSome

/-- Whether a NOTICE frame may begin (R201). -/
def State.noticeDue (s : State) : Bool := decide (s.link.tx = .idle) && s.link.replySlot.isNone && s.markedTarget.isSome

/-- Whether the frame being sent has ended (R195). -/
def LinkPort.endDue (l : LinkPort) : Bool :=
  match l.tx with
  | .sending _ frame elapsed => sentWhole frame elapsed
  | .idle => false

/-- The events of the whole part that are due. -/
def State.dueEvents (s : State) : List Instr :=
  s.lower.dueEvents .lower ++ s.upper.dueEvents .upper
    ++ whenDue s.supply.lossDue .mainsLoss ++ whenDue s.link.byteSilenceOver .receiveSilenceTimeout
    ++ whenDue s.link.takeDue .frameTaken ++ whenDue s.link.replyDue .replyTransmissionBegin
    ++ whenDue s.noticeDue .noticeFrameBegin ++ whenDue s.link.endDue .transmissionEnd
    ++ whenDue s.silenceDue .silenceTimerExpiry

/-- The due event that is taken, with the state it is taken in: of several, the one a free value picks (entry 3). -/
def State.nextDue (s : State) : Option (Instr × State) :=
  match s.dueEvents with
  | [] => none
  | [e] => some (e, s)
  | e :: rest => some ((e :: rest).getD (Config.dueChoice s.free % (rest.length + 1)) e, s.spendFree)

end Sys2Proof.Machine
end

