-- ==== Sys2Proof/Machine/Step.lean ====
section
/-! DEFINITION. The step: the command at the front of the queue, or, with an empty queue, the clock. -/

namespace Sys2Proof.Machine

/-- A step with an empty queue: a due event is taken, or one microsecond passes (entries 2 and 3). -/
def idle (s : State) : Host.Outcome State Fault Refusal :=
  match s.nextDue with
  | some (e, t) => exec e t
  | none => .next s.tick

/-- The step: the command at the front of the queue is carried out with the queue's rest; an empty queue idles. -/
def step (s : State) : Host.Outcome State Fault Refusal :=
  match s.pending with
  | c :: rest => exec c { s with pending := rest }
  | [] => idle s

/-- The state with the command that a word spells put at the front of its queue, unchanged where the word spells none. -/
def State.withFetchWord (s : State) (nbits w : Nat) : State :=
  match Sys2Proof.decodeTableWord nbits w with
  | some c => { s with pending := c :: s.pending }
  | none => s

end Sys2Proof.Machine
end

