-- ==== Sys2Proof/Safety.lean ====
section
/-! DEFINITION. What counts as a safe run, as predicates on the state that statements use: the guards on heat and on the drum,
the ownership of slots, the open phase, and the ranges of the counters. Each cites the rule that gives it. -/

namespace Sys2Proof.Machine

/-! ## Frames -/

/-- Two states that differ at most in pocket `p`, the pool, the link, and the model's own free counter and note of a raced
write: the other pocket and every shared block are the same (R24). -/
def State.SameElsewhere (s t : State) (p : Pocket) : Prop :=
  t.unit (otherPocket p) = s.unit (otherPocket p) ∧ t.temps = s.temps ∧ t.supply = s.supply ∧ t.device = s.device ∧
    t.trend = s.trend ∧ t.prescale = s.prescale ∧ t.pending = s.pending

/-- Two states that have the same pool but in slot `i`. -/
def State.SameSlotsBut (s t : State) (i : SlotNo) : Prop := ∀ j : SlotNo, j ≠ i → t.pool[j] = s.pool[j]

/-- The drum of a pocket after a stop of its pattern: RUN off, speed 0, DIR kept, order STOP, no unwind step. -/
def Drum.StoppedFrom (d e : Drum) : Prop :=
  e.runOutput = false ∧ e.speedReference = 0 ∧ e.dir = d.dir ∧ e.order = .stop ∧ e.unwind = none ∧ e.table = d.table ∧
    e.twist = d.twist

/-- A pocket's heat is off: no demand, no on-count, no accumulator, no output, no airflow timer (R158). -/
def PocketHeat.IsOff (h : PocketHeat) : Prop :=
  h.demand = 0 ∧ h.airTimer = none ∧
    ∀ j : Fin 3, h.elements[j].onCount = 0 ∧ h.elements[j].accumulator = 0 ∧ h.elements[j].output = false

/-- Whether a result says that the request was carried out: OK, OK_CLAMPED, and the STILL_PRESENT of CLEAR_FAULT (00, Requests
and results; R180). -/
def ResultCode.carriedOut : ResultCode → Bool
  | .ok | .okClamped | .stillPresent => true
  | .busy | .inUse | .notReady | .notAvailable | .faulted | .doorOpen | .badRequest | .unknown => false

/-! ## Heat (R157, R158, R165, R171) -/

/-- An element output is on only with heat permission, airflow proven and mains present (R155, R165, R167). -/
def PocketUnit.HeatGuarded (mains : Bool) (u : PocketUnit) : Prop :=
  ∀ j : Fin 3, u.heat.elements[j].output = true → u.hasPermission = true ∧ u.pins.airf = true ∧ mains = true

/-- Without heat permission a pocket has no demand, no on-count, no accumulator and no airflow timer (R158). -/
def PocketUnit.HeatWithdrawn (u : PocketUnit) : Prop :=
  u.hasPermission = false →
    u.heat.demand = 0 ∧ u.heat.airTimer = none ∧
      ∀ j : Fin 3, u.heat.elements[j].onCount = 0 ∧ u.heat.elements[j].accumulator = 0

/-- Both pockets' heat is guarded. -/
def State.HeatGuarded (s : State) : Prop :=
  s.lower.HeatGuarded s.supply.mainsPresent ∧ s.upper.HeatGuarded s.supply.mainsPresent

/-- Both pockets' heat is withdrawn where there is no permission. -/
def State.HeatWithdrawn (s : State) : Prop := s.lower.HeatWithdrawn ∧ s.upper.HeatWithdrawn

/-! ## The drum (R25, R39, R72, R76) -/

/-- The drum is driven, waits to be driven or unwinds only in RUNNING, SAFE and HELD; a pocket in one of these has its door
closed (R25, R26, R39, R41, R46, R72, R86, R88). A pending direction exists only in STOPPING and SETTLE (R76). -/
def PocketUnit.DriveGuarded (u : PocketUnit) : Prop :=
  (u.drum.order = .runSegment ↔ u.seq.run.drives = true) ∧
    (u.drum.unwind.isSome = true → u.seq.run.drives = true) ∧
    (u.drum.pendingDir.isSome = true → u.seq.run.drives = true ∧ (u.drum.state = .stopping ∨ u.drum.state = .settle)) ∧
    (u.drum.runOutput = true → u.seq.run.drives = true) ∧
    (u.seq.run.drives = true → u.pins.door = true)

/-- Both drums are driven only behind a closed door, in a state that drives them. -/
def State.DriveGuarded (s : State) : Prop := s.lower.DriveGuarded ∧ s.upper.DriveGuarded

/-- The drive order is RUN SEGMENT exactly in RUNNING, SAFE and HELD, and a segment is held exactly in these and PAUSED
(R72). -/
def PocketUnit.OrderMatches (u : PocketUnit) : Prop :=
  (u.drum.order = .runSegment ↔ u.seq.run.drives = true) ∧ (u.drum.segment.isSome = true ↔ u.seq.run.engaged = true)

/-- Both drums' orders follow their pockets' run states. -/
def State.OrderMatches (s : State) : Prop := s.lower.OrderMatches ∧ s.upper.OrderMatches

/-- The commanded speed is 0 while RUN is off, and a pending direction exists only in STOPPING and SETTLE, where it is the
direction that is not asserted (R76, R83). Its wait is bounded: by the stop timer in STOPPING (R90, entry 18), and by the
standstill in SETTLE, where there always is one (R76, R82). -/
def Drum.OutputsMatch (d : Drum) : Prop :=
  (d.runOutput = false → d.commanded = 0) ∧
    (∀ dir : Dir, d.pendingDir = some dir → (d.state = .stopping ∨ d.state = .settle) ∧ dir = d.dir.opposite ∧
      (d.state = .stopping → d.stopTimer.isSome = true)) ∧
    (d.state = .settle → d.pendingDir.isSome = true ∧ d.settleTimer.isSome = true)

/-- Both drums' outputs follow their states. -/
def State.OutputsMatch (s : State) : Prop := s.lower.drum.OutputsMatch ∧ s.upper.drum.OutputsMatch

/-! ## Slots and phases (R9, R13, R59) -/

/-- A slot is ACTIVE in a pocket exactly when it is the pocket's active slot (R9). -/
def State.SlotsOwned (s : State) : Prop :=
  ∀ (p : Pocket) (i : SlotNo), s.pool[i].activeIn p = true ↔ (s.unit p).seq.work.active = some i

/-- A pocket that is RUNNING, PAUSED, HELD or SAFE holds the slot of its newest checkpoint; in any other state it holds none
(R25, R59). -/
def Sequencer.HoldsNewest (q : Sequencer) : Prop :=
  if q.run.engaged then ∃ c : Checkpoint, q.newest = some c ∧ q.work.active = some c.slot else q.work.active = none

/-- The slots are owned as the pockets hold them. -/
def State.Ownership (s : State) : Prop := s.SlotsOwned ∧ s.lower.seq.HoldsNewest ∧ s.upper.seq.HoldsNewest

/-- The two safe anchors are never the same slot while both are set (R13). -/
def State.AnchorsApart (s : State) : Prop := ∀ i : SlotNo, ¬(s.lower.seq.anchor = some i ∧ s.upper.seq.anchor = some i)

/-- Whether every entry of a history has its outcome, but for the newest (R59). -/
def olderClosed : List Checkpoint → Bool
  | [] => true
  | [_] => true
  | c :: rest => c.outcome.isSome && olderClosed rest

/-- The newest phase is open or closed as the run state and the marks of PAUSED say (R25, R33, R37, R47, R49, R59). -/
def Sequencer.OpenAsRun (q : Sequencer) : Prop :=
  match q.run with
  | .running => q.phaseOpen = true ∧ q.safeBegun = false
  | .safe => q.phaseOpen = true ∧ q.safeBegun = true
  | .held => q.phaseOpen = false ∧ q.safeBegun = false
  | .paused =>
    match q.resumeTarget with
    | .running => q.phaseOpen = !q.held ∧ q.safeBegun = false
    | .safe => q.held = false ∧ q.phaseOpen = q.safeBegun
  | .idle | .halted | .done => q.phaseOpen = false

/-- Only the newest entry of a history can lack an outcome, and it does as the run state says (R59). -/
def Sequencer.PhaseMatches (q : Sequencer) : Prop := olderClosed q.history = true ∧ q.OpenAsRun

/-- Both pockets' phases match their run states. -/
def State.PhasesMatch (s : State) : Prop := s.lower.seq.PhaseMatches ∧ s.upper.seq.PhaseMatches

/-! ## Ranges -/

/-- The twist counter and the twist of every checkpoint lie within -999..999 (R56, R97). -/
def PocketUnit.TwistInRange (u : PocketUnit) : Prop :=
  (-999 ≤ u.drum.twist ∧ u.drum.twist ≤ 999) ∧ ∀ c ∈ u.seq.history, -999 ≤ c.twistStart ∧ c.twistStart ≤ 999

/-- Both pockets' twists are in range. -/
def State.TwistInRange (s : State) : Prop := s.lower.TwistInRange ∧ s.upper.TwistInRange

/-- Every element accumulator lies within 0..2F - 1, F is at least 10, and the frame position is below F (R151, R154, R164). -/
def State.AccumulatorsInRange (s : State) : Prop :=
  10 ≤ s.supply.config.frame ∧ s.supply.framePos < s.supply.config.frame ∧
    ∀ (p : Pocket) (j : Fin 3), (s.unit p).heat.elements[j].accumulator ≤ 2 * s.supply.config.frame - 1

/-- The histories hold at most 8 entries, the inbound queue 2 frames, the trend banks 64 records (R56, R188, R198). -/
def State.BuffersBounded (s : State) : Prop :=
  s.lower.seq.history.length ≤ 8 ∧ s.upper.seq.history.length ≤ 8 ∧ s.link.inbound.length ≤ 2 ∧
    s.trend.bankA.length ≤ 64 ∧ s.trend.bankB.length ≤ 64

end Sys2Proof.Machine
end

