-- ==== Sys2Proof/WellFormed.lean ====
section
/-! DEFINITION. Which commands can be written on the link at all. A request's payload is at most 63 bytes, its length byte
being at most 64 (R196). Every field of the other commands admits all its values: a field that a rule refuses or clamps is
still a command, with a result of its own. -/

namespace Sys2Proof

/-- The greatest payload of a frame: L is at most 64 and counts the kind byte (R196). -/
def maxPayload : Nat := 63

/-- Whether a command can be sent: only the two requests of open length can fail. -/
def Instr.wellFormed : Instr → Bool
  | .setDefaults _ _ groups => decide (2 + groups.length ≤ maxPayload)
  | .putPhase _ _ _ _ _ _ _ _ groups => decide (9 + groups.length ≤ maxPayload)
  | .configure _ | .setTempCal _ _ _ _ _ | .calMoisture _ | .putMotion _ _ _ _ _ | .erasePhase _ | .getPhase _
  | .setSafe _ _ | .start _ _ | .pause _ | .resume _ | .advance _ | .abort _ | .backstep _ _ | .clearFault _ _
  | .getStatus _ | .getHistory _ | .getTemps | .readTrend | .flushTrend | .trendMode _ _ | .resetPart | .powerOn
  | .receiveByte _ _ | .receiveSilenceTimeout | .frameTaken | .replyTransmissionBegin | .noticeFrameBegin
  | .transmissionEnd | .silenceTimerExpiry | .doorOpening _ | .doorClosing _ | .phaseTimerExpiry _ | .unattendedResume _
  | .fanRunOnExpiry _ | .tachEdge _ | .tachoCaptureOverflow _ | .unwindBoundExpiry _ | .loosenDwellExpiry _
  | .stopConfirmed _ | .standstillExpiry _ | .entryDurationExpiry _ | .startTimeout _ | .speedLossTimeout _
  | .stopTimeout _ | .mpulseEdge _ | .forcedOpenPeriod _ | .calIsolatedPartEnd _ | .calComplete _ | .windowEnd _
  | .channelConversion _ _ | .cutoutOpening _ | .zeroCross | .mainsLoss | .airfDeasserted _ | .airfAsserted _
  | .airflowTimeout _ | .cutoutClosing _ => true

end Sys2Proof
end

