-- ==== Sys2Proof/Certificates/Slice0/Obligations.lean ====
section
/-! DEFINITION. The statements for the provers. Each is about the machine, not about a run of it. -/

open Sys2Proof Sys2Proof.Machine

/-! ## The machine -/

/-- Step of a state with a command at the front of its queue is exec of that command with the queue's rest (the model's
queue, entry 1). With an empty queue it is exec of the event that is due, of one of them where several are, whichever the free
value picks, or the passing of one microsecond where none is (the model's clock, entries 2 and 3). -/
def Obligations.StepTakesFrontCommand : Prop :=
  (∀ (c : Instr) (q : List Instr) (s : State), s.pending = c :: q → step s = exec c { s with pending := q }) ∧
  (∀ s : State, s.pending = [] → s.dueEvents = [] → step s = .next s.tick) ∧
  (∀ (e : Instr) (s : State), s.pending = [] → s.dueEvents = [e] → step s = exec e s) ∧
  (∀ s : State, s.pending = [] → 2 ≤ s.dueEvents.length →
    ∃ e ∈ s.dueEvents, step s = exec e { s with free := s.free + 1 })

/-- The values the spec gives at power-on, which State.reset holds (1.7, 2.11, 3.5, 4.8, 5.8, 6.7, 7.6, 8.1, 8.10, 9.4,
10.5, 11.7). That the queue of waiting commands is empty is the model's choice (entry 1). -/
def Obligations.ResetHoldsPowerOnValues : Prop :=
  State.reset.pending = [] ∧ (∀ i : SlotNo, State.reset.pool[i] = .empty) ∧
    (∀ p : Pocket,
      let u := State.reset.unit p
      u.seq.run = .idle ∧ u.seq.work.active = none ∧ u.seq.anchor = none ∧ u.seq.history = [] ∧ u.seq.activations = 0 ∧
      u.seq.phaseTimer = 0 ∧ u.seq.confirm = 0 ∧ u.seq.pauseTimer = 0 ∧ u.seq.resumeTarget = .running ∧ u.seq.fanRunOn = 0 ∧
      u.seq.held = false ∧ u.seq.restored = false ∧ u.seq.safeBegun = false ∧ u.seq.unattended = false ∧
      u.seq.doorClosedFor = 0 ∧ u.seq.work.quals = Quals.none ∧
      u.seq.profile.heat = ⟨800, 100, 700, 0, 50⟩ ∧ u.seq.profile.dry = ⟨200, 3, 2, 20, 300⟩ ∧
      u.seq.profile.cool = ⟨450⟩ ∧ u.seq.profile.tangle = ⟨40, 64, 3, 3, 5, 6⟩ ∧
      u.drum.order = .stop ∧ u.drum.segment = none ∧ u.drum.state = .stopping ∧ u.drum.dir = .fwd ∧ u.drum.stopTimer = some 0 ∧
      u.drum.quiet = 0 ∧ u.drum.speed = 0 ∧ u.drum.twist = 0 ∧ u.drum.unwind = none ∧ u.drum.antiTangle = 0 ∧
      u.drum.limitReached = false ∧ (∀ j : EntryNo, u.drum.table[j].written = false) ∧
      u.drum.runOutput = false ∧ u.drum.commanded = 0 ∧ u.drum.pendingDir = none ∧ u.drum.tachCount = 0 ∧
      u.drum.startTimer = none ∧ u.drum.speedLossTimer = none ∧ u.drum.revPulse = 0 ∧ u.drum.revNumber = 0 ∧
      u.drum.revPeriods = [] ∧ u.drum.imbalanceRun = 0 ∧
      u.moist.valid = false ∧ u.moist.gOpen = 0 ∧ u.moist.gRef = 0 ∧ u.moist.calibration = none ∧ u.moist.window = none ∧
      u.moist.estimate = none ∧ u.moist.lastReading = none ∧ u.moist.sequence = 0 ∧ u.moist.lastAttempt = none ∧
      u.heat.IsOff ∧ u.heat.reserve = 0 ∧ u.heat.grantedNow = 0 ∧ u.heat.grantedLast = 0 ∧
      u.faults = FaultSet.none ∧ u.notices = NoticeSet.none ∧ u.noticeMark = false) ∧
    (∀ c : Channel, State.reset.temps.channel c = ⟨⟨800, 200, 3200, 1700⟩, none, none, [], none, 0⟩) ∧
    State.reset.temps.healthy = false ∧
    State.reset.supply.config = ⟨0, Vector.replicate 6 0, 25, 0, 0, 1200, 5, 60, 50000⟩ ∧
    State.reset.supply.configured = false ∧ State.reset.supply.framePos = 0 ∧ State.reset.supply.pointer = 0 ∧
    State.reset.supply.mainsPresent = false ∧ State.reset.device.byte = 0 ∧ State.reset.device.mark = false ∧
    State.reset.trend = ⟨[], [], .a, .swap, 32, false⟩ ∧
    State.reset.link.assembler = .hunt ∧ State.reset.link.inbound = [] ∧ State.reset.link.overrun = false ∧
    State.reset.link.replySlot = none ∧ State.reset.link.tx = .idle ∧ State.reset.link.silence = 0 ∧
    State.reset.link.silenceExpired = false ∧ State.reset.link.txd = true

/-- Every command, in every state, answers a next state and leaves the queue of waiting commands as it is. -/
def Obligations.EveryCommandCompletes : Prop :=
  ∀ (c : Instr) (s : State), ∃ t : State, exec c s = .next t ∧ t.pending = s.pending

/-- A request that is not carried out changes nothing but the link, where its reply is (00, Requests and results). -/
def Obligations.RefusedRequestChangesNothing : Prop :=
  ∀ (i : Instr) (k : Byte) (pl : List Byte) (s t : State) (a : Reply) (r : ResultCode),
    requestFrame i = some (k, pl) → exec i s = .next t → t.link.answer = some a → a.result = some r →
    r.carriedOut = false → t = { s with link := t.link } ∧ a.kind = k + 0x80 ∧ a.data = []

/-! ## The record pool (chapter 1) -/

/-- A clamped group has every field clamped into its range, so it lies in range, and a group already in range is unchanged
(1.1; 00, Arithmetic). -/
def Obligations.ClampedGroupsLieInRange : Prop :=
  (∀ g : HeatGroup,
    g.clamped =
      { setpoint := max 300 (min 1400 g.setpoint), band := max 10 (min 500 g.band),
        exhaustLimit := max 300 (min 1400 g.exhaustLimit), pauseCeiling := min 100 g.pauseCeiling,
        tangleCeiling := min 100 g.tangleCeiling } ∧
    (300 ≤ g.clamped.setpoint ∧ g.clamped.setpoint ≤ 1400) ∧ (10 ≤ g.clamped.band ∧ g.clamped.band ≤ 500) ∧
    (300 ≤ g.clamped.exhaustLimit ∧ g.clamped.exhaustLimit ≤ 1400) ∧ g.clamped.pauseCeiling ≤ 100 ∧
    g.clamped.tangleCeiling ≤ 100 ∧
    ((300 ≤ g.setpoint ∧ g.setpoint ≤ 1400) → (10 ≤ g.band ∧ g.band ≤ 500) →
      (300 ≤ g.exhaustLimit ∧ g.exhaustLimit ≤ 1400) → g.pauseCeiling ≤ 100 → g.tangleCeiling ≤ 100 → g.clamped = g)) ∧
  (∀ g : DryGroup,
    g.clamped =
      { target := min 2047 g.target, confirm := max 1 (min 15 g.confirm), k := max 1 (min 6 g.k),
        window := max 5 (min 100 g.window), minTime := min 3600 g.minTime } ∧
    g.clamped.target ≤ 2047 ∧ (1 ≤ g.clamped.confirm ∧ g.clamped.confirm ≤ 15) ∧ (1 ≤ g.clamped.k ∧ g.clamped.k ≤ 6) ∧
    (5 ≤ g.clamped.window ∧ g.clamped.window ≤ 100) ∧ g.clamped.minTime ≤ 3600 ∧
    (g.target ≤ 2047 → (1 ≤ g.confirm ∧ g.confirm ≤ 15) → (1 ≤ g.k ∧ g.k ≤ 6) → (5 ≤ g.window ∧ g.window ≤ 100) →
      g.minTime ≤ 3600 → g.clamped = g)) ∧
  (∀ g : CoolGroup,
    g.clamped = { endTemp := max 200 (min 900 g.endTemp) } ∧ 200 ≤ g.clamped.endTemp ∧ g.clamped.endTemp ≤ 900 ∧
    (200 ≤ g.endTemp → g.endTemp ≤ 900 → g.clamped = g)) ∧
  (∀ g : TangleGroup,
    g.clamped =
      { twistLimit := min 250 g.twistLimit, imbalanceThreshold := min 255 g.imbalanceThreshold,
        imbalanceRevs := max 1 (min 15 g.imbalanceRevs), unwindRevs := max 1 (min 15 g.unwindRevs),
        loosenDwell := min 30 g.loosenDwell, antiTangleLimit := max 1 (min 255 g.antiTangleLimit) } ∧
    g.clamped.twistLimit ≤ 250 ∧ g.clamped.imbalanceThreshold ≤ 255 ∧
    (1 ≤ g.clamped.imbalanceRevs ∧ g.clamped.imbalanceRevs ≤ 15) ∧
    (1 ≤ g.clamped.unwindRevs ∧ g.clamped.unwindRevs ≤ 15) ∧ g.clamped.loosenDwell ≤ 30 ∧
    (1 ≤ g.clamped.antiTangleLimit ∧ g.clamped.antiTangleLimit ≤ 255) ∧
    (g.twistLimit ≤ 250 → g.imbalanceThreshold ≤ 255 → (1 ≤ g.imbalanceRevs ∧ g.imbalanceRevs ≤ 15) →
      (1 ≤ g.unwindRevs ∧ g.unwindRevs ≤ 15) → g.loosenDwell ≤ 30 →
      (1 ≤ g.antiTangleLimit ∧ g.antiTangleLimit ≤ 255) → g.clamped = g))

/-- The number of bytes of the groups that a mask names: heat 8, dry 7, cool 2, tangle 6 (11.9). -/
def Sys2Proof.Machine.groupsLength (mask : Byte) : Nat :=
  (if mask.getLsbD 0 then 8 else 0) + (if mask.getLsbD 1 then 7 else 0) + (if mask.getLsbD 2 then 2 else 0) +
    (if mask.getLsbD 3 then 6 else 0)

/-- SET_DEFAULTS in every case: it replaces the carried groups of one profile, clamped, and nothing else, in every pocket
state; a wrong pocket, mask or length is refused (1.2). -/
def Obligations.SetDefaultsReplacesCarriedGroups : Prop :=
  (∀ (b mask : Byte) (groups : List Byte) (p : Pocket) (g : Groups) (s : State),
    pocketOf b = some p → groupsOf mask groups = some g →
    exec (.setDefaults b mask groups) s = .next
      ((s.onUnit p fun u => { u with seq := { u.seq with profile := {
          heat := (g.heat.map HeatGroup.clamped).getD u.seq.profile.heat
          dry := (g.dry.map DryGroup.clamped).getD u.seq.profile.dry
          cool := (g.cool.map CoolGroup.clamped).getD u.seq.profile.cool
          tangle := (g.tangle.map TangleGroup.clamped).getD u.seq.profile.tangle } } }).reply 0x04
        (if g.clamped = g then .ok else .okClamped) [])) ∧
  (∀ (mask : Byte) (groups : List Byte),
    (groupsOf mask groups).isSome = true ↔ mask.toNat < 16 ∧ groups.length = groupsLength mask) ∧
  (∀ (mask : Byte) (groups : List Byte) (g : Groups), groupsOf mask groups = some g →
    (g.heat.isSome = mask.getLsbD 0 ∧ g.dry.isSome = mask.getLsbD 1 ∧ g.cool.isSome = mask.getLsbD 2 ∧
      g.tangle.isSome = mask.getLsbD 3)) ∧
  (∀ (b mask : Byte) (groups : List Byte) (s : State),
    2 ≤ b.toNat ∨ 16 ≤ mask.toNat ∨ groups.length ≠ groupsLength mask →
    exec (.setDefaults b mask groups) s = .next (s.reply 0x04 .badRequest []))

/-- PUT_PHASE in every case, in the order of its checks: it stores the whole record, clamped, in a slot that is not ACTIVE,
and changes no other slot; one whose write was carried out inside an activation (1.6) is answered, and the note of it goes
(1.4, 1.6). How such a write is carried is the model's choice (entry 19). -/
def Obligations.PutPhaseStoresClampedRecord : Prop :=
  (∀ (slot kind next segFirst segLast quals mask : Byte) (maxTime : Half) (groups : List Byte) (i : SlotNo) (r : PhaseRecord)
    (s : State),
    slotOf slot = some i → recordOf kind next maxTime segFirst segLast quals mask groups = some r →
    s.raced ≠ some (.putPhase slot kind next maxTime segFirst segLast quals mask groups) → s.pool[i].isActive = false →
    exec (.putPhase slot kind next maxTime segFirst segLast quals mask groups) s = .next
      (({ s with pool := s.pool.set i (.loaded
            { r with
              maxTime := max 10 (min 28800 r.maxTime)
              heat := r.heat.map HeatGroup.clamped
              dry := r.dry.map DryGroup.clamped
              cool := r.cool.map CoolGroup.clamped
              tangle := r.tangle.map TangleGroup.clamped }) } : State).reply 0x06
        (if r.clamped = r then .ok else .okClamped) [])) ∧
  (∀ (slot kind next segFirst segLast quals mask : Byte) (maxTime : Half) (groups : List Byte) (i : SlotNo) (r : PhaseRecord)
    (s : State),
    slotOf slot = some i → recordOf kind next maxTime segFirst segLast quals mask groups = some r →
    s.raced ≠ some (.putPhase slot kind next maxTime segFirst segLast quals mask groups) → s.pool[i].isActive = true →
    exec (.putPhase slot kind next maxTime segFirst segLast quals mask groups) s = .next (s.reply 0x06 .inUse [])) ∧
  (∀ (slot kind next segFirst segLast quals mask : Byte) (maxTime : Half) (groups : List Byte) (i : SlotNo) (r : PhaseRecord)
    (s : State),
    slotOf slot = some i → recordOf kind next maxTime segFirst segLast quals mask groups = some r →
    s.raced = some (.putPhase slot kind next maxTime segFirst segLast quals mask groups) →
    exec (.putPhase slot kind next maxTime segFirst segLast quals mask groups) s = .next
      (({ s with raced := none } : State).reply 0x06 (if r.clamped = r then .ok else .okClamped) [])) ∧
  (∀ (slot kind next segFirst segLast quals mask : Byte) (maxTime : Half) (groups : List Byte) (s : State),
    48 ≤ slot.toNat ∨ 4 ≤ kind.toNat ∨ (48 ≤ next.toNat ∧ next ≠ 0xFF) ∨ 32 ≤ segFirst.toNat ∨ 32 ≤ segLast.toNat ∨
      8 ≤ quals.toNat ∨ 16 ≤ mask.toNat ∨ groups.length ≠ groupsLength mask →
    exec (.putPhase slot kind next maxTime segFirst segLast quals mask groups) s = .next (s.reply 0x06 .badRequest [])) ∧
  (∀ (kind next segFirst segLast quals mask : Byte) (maxTime : Half) (groups : List Byte),
    kind.toNat < 4 → (next.toNat < 48 ∨ next = 0xFF) → segFirst.toNat < 32 → segLast.toNat < 32 → quals.toNat < 8 →
    mask.toNat < 16 → groups.length = groupsLength mask →
    ∃ r : PhaseRecord, recordOf kind next maxTime segFirst segLast quals mask groups = some r ∧
      kindCode r.kind = kind ∧ slotRefCode r.next = next ∧ r.maxTime = maxTime.toNat ∧ r.segFirst.val = segFirst.toNat ∧
      r.segLast.val = segLast.toNat ∧ r.quals.byte = quals ∧ r.maskByte = mask)

/-- ERASE_PHASE in every case: a slot above 47, an erase that was carried out inside an activation (1.6), a slot ACTIVE or
anchored, and any other (1.4, 1.6). How an erase inside an activation is carried is the model's choice (entry 19). -/
def Obligations.ErasePhaseByCases : Prop :=
  ∀ (slot : Byte) (s : State), exec (.erasePhase slot) s = .next
    (if h : slot.toNat < 48 then
      let i : SlotNo := ⟨slot.toNat, h⟩
      if s.raced = some (.erasePhase slot) then ({ s with raced := none } : State).reply 0x07 .ok []
      else if s.pool[i].isActive = true ∨ s.lower.seq.anchor = some i ∨ s.upper.seq.anchor = some i then
        s.reply 0x07 .inUse []
      else ({ s with pool := s.pool.set i .empty } : State).reply 0x07 .ok []
    else s.reply 0x07 .badRequest [])

/-- GET_PHASE answers the slot's state, its pocket, the anchor marks and the record as stored, and changes nothing; a slot
above 47 is refused (1.4, 11.10). -/
def Obligations.GetPhaseReportsSlot : Prop :=
  (∀ (slot : Byte) (s : State), 48 ≤ slot.toNat → exec (.getPhase slot) s = .next (s.reply 0x08 .badRequest [])) ∧
  ∀ (slot : Byte) (i : SlotNo) (s : State), slotOf slot = some i →
    exec (.getPhase slot) s = .next (s.reply 0x08 .ok (s.phaseData i)) ∧
    (s.pool[i] = .empty → (s.phaseData i).length = 1) ∧
    (∀ r : PhaseRecord, s.pool[i].record? = some r →
      s.phaseData i = (s.phaseData i).headD 0 ::
        (kindCode r.kind :: slotRefCode r.next :: (le16 r.maxTime ++ [byteOf r.segFirst.val, byteOf r.segLast.val,
          r.quals.byte, r.maskByte] ++ (r.heat.map heatBytes).getD [] ++ (r.dry.map dryBytes).getD [] ++
          (r.cool.map coolBytes).getD [] ++ (r.tangle.map tangleBytes).getD []))) ∧
    ((s.phaseData i).headD 0).toNat =
      (match s.pool[i] with
        | .empty => 0
        | .loaded _ => 1
        | .active .lower _ => 2
        | .active .upper _ => 6) +
      (if s.lower.seq.anchor = some i then 8 else 0) + (if s.upper.seq.anchor = some i then 16 else 0)

/-- SET_SAFE in every case, in the order of its checks (1.4). -/
def Obligations.SetSafeByCases : Prop :=
  ∀ (pocket slot : Byte) (s : State),
    (∀ p : Pocket, pocketOf pocket = some p → ∀ a : Option SlotNo, slotRefOf slot = some a →
      exec (.setSafe pocket slot) s = .next
        (if (s.unit p).seq.run = .safe then s.reply 0x09 .busy []
        else if a ≠ none ∧ (s.unit (otherPocket p)).seq.anchor = a then s.reply 0x09 .inUse []
        else (s.onUnit p fun u => { u with seq := { u.seq with anchor := a } }).reply 0x09 .ok [])) ∧
    (2 ≤ pocket.toNat ∨ (48 ≤ slot.toNat ∧ slot ≠ 0xFF) →
      exec (.setSafe pocket slot) s = .next (s.reply 0x09 .badRequest []))

/-- The activation check passes exactly when the slot is LOADED, its segment is in order, and every entry of the segment is
written in the pocket's own table; the working set is then taken group by group, each group whole from the record or the
profile (1.5). A PUT_PHASE or an ERASE_PHASE of the slot that an event both releases and re-activates is carried out between
the release and the check, or not there, as a free value has it (1.6; entry 19). -/
def Obligations.ActivationCheckAndWorkingSet : Prop :=
  (∀ (v : PocketView) (i : SlotNo) (r : PhaseRecord),
    v.check i = .ok r ↔
      v.pool[i] = .loaded r ∧ r.segFirst ≤ r.segLast ∧
        ∀ j : EntryNo, r.segFirst ≤ j → j ≤ r.segLast → v.unit.drum.table[j].written = true) ∧
  (∀ (i : SlotNo) (r : PhaseRecord) (u : PocketUnit),
    let w := (u.takeWork i r).seq.work
    w.active = some i ∧ w.kind = r.kind ∧ w.next = r.next ∧ w.maxTime = r.maxTime ∧ w.segFirst = r.segFirst ∧
    w.segLast = r.segLast ∧ w.quals = r.quals ∧
    (w.heat = match r.heat with | some g => g | none => u.seq.profile.heat) ∧
    (w.dry = match r.dry with | some g => g | none => u.seq.profile.dry) ∧
    (w.cool = match r.cool with | some g => g | none => u.seq.profile.cool) ∧
    (w.tangle = match r.tangle with | some g => g | none => u.seq.profile.tangle) ∧
    (w.timedOnly = true ↔ r.kind = .dry ∧ u.moist.valid = false) ∧
    ((u.takeWork i r).notices.noDryness = true ↔
      u.notices.noDryness = true ∨ (r.kind = .dry ∧ u.moist.valid = false))) ∧
  (∀ (env : Env) (i : SlotNo) (r : PhaseRecord) (x : Slot) (v : PocketView),
    v.unit.seq.work.active = some i → v.pool[i] = .active env.pocket r → v.raced = false →
    (env.racing = none → ((v.activate env i).2 = none ↔ segmentUsable r v.unit.drum = true)) ∧
    (env.racing = some (i, x) → (v.activate env i).1.raced = true ∧
      (x = .empty → (v.activate env i).2 = some .slotEmpty ∧ (v.activate env i).1.pool[i] = .empty) ∧
      (∀ q : PhaseRecord, x = .loaded q → segmentUsable q v.unit.drum = true →
        (v.activate env i).2 = none ∧ (v.activate env i).1.pool[i] = .active env.pocket q ∧
          (v.activate env i).1.unit.seq.work = workFrom i q v.unit.seq.profile v.unit.moist.valid))) ∧
  (∀ (slot kind next segFirst segLast quals mask : Byte) (maxTime : Half) (groups : List Byte) (i : SlotNo) (r : PhaseRecord)
    (q : List Instr) (p : Pocket) (s : State),
    slotOf slot = some i → recordOf kind next maxTime segFirst segLast quals mask groups = some r →
    s.pending = .putPhase slot kind next maxTime segFirst segLast quals mask groups :: q → s.raced = none →
    (s.unit p).seq.work.active = some i →
    (s.eventEnv p).racing = none ∨ (s.eventEnv p).racing = some (i, .loaded r.clamped))

/-! ## The Pocket Sequencer (chapters 2 and 3) -/

/-- An accepted START: the head slot is ACTIVE, the run begins with one checkpoint and twist 0, and the pocket is RUNNING
(2.2). A drum that still coasts the other way waits for its stop under the stop timer, which runs on or starts (4.4, 4.7;
that it starts where it was discarded: the model's choice, entry 18). The host is not silent: the silence timer has not
expired. -/
def Obligations.StartEntersRunning : Prop :=
  ∀ (pb sb : Byte) (p : Pocket) (i : SlotNo) (r : PhaseRecord) (s : State),
    pocketOf pb = some p → slotOf sb = some i →
    ((s.unit p).seq.run = .idle ∨ (s.unit p).seq.run = .done) → (s.unit p).seq.work.active = none →
    s.supply.configured = true → (s.unit p).seq.anchor ≠ none → (s.unit p).faults = FaultSet.none →
    (s.unit p).pins.door = true → (s.unit p).moist.calibration = none → (s.view p).check i = .ok r →
    s.link.silenceExpired = false →
    ∃ t : State, exec (.start pb sb) s = .next t ∧ s.SameElsewhere t p ∧ s.SameSlotsBut t i ∧
      t.link = (s.reply 0x10 .ok []).link ∧ t.pool[i] = .active p r ∧
      (t.unit p).seq.run = .running ∧ (t.unit p).seq.work.active = some i ∧
      (t.unit p).seq.history = [{ slot := i, ordinal := 1, twistStart := 0, outcome := none,
                                  eStart := if r.quals.keepEstimate then (s.unit p).moist.estimate else none }] ∧
      (t.unit p).seq.activations = 1 ∧ (t.unit p).seq.phaseTimer = 0 ∧ (t.unit p).seq.confirm = 0 ∧
      (t.unit p).seq.pauseTimer = 0 ∧ (t.unit p).seq.resumeTarget = .running ∧ (t.unit p).seq.held = false ∧
      (t.unit p).seq.restored = false ∧ (t.unit p).seq.safeBegun = false ∧ (t.unit p).seq.unattended = false ∧
      (t.unit p).drum.twist = 0 ∧ (t.unit p).drum.antiTangle = 0 ∧ (t.unit p).drum.limitReached = false ∧
      (t.unit p).drum.order = .runSegment ∧
      (t.unit p).drum.segment = some { first := r.segFirst, last := r.segLast, cursor := r.segFirst } ∧
      (t.unit p).moist.window.isSome = true ∧
      (t.unit p).moist.estimate = (if r.quals.keepEstimate then (s.unit p).moist.estimate else none) ∧
      (t.unit p).seq.profile = (s.unit p).seq.profile ∧ (t.unit p).seq.anchor = (s.unit p).seq.anchor ∧
      (t.unit p).drum.table = (s.unit p).drum.table ∧ (t.unit p).drum.dir = (s.unit p).drum.dir ∧
      (∀ dir : Dir, (s.unit p).drum.state = .stopping → (s.unit p).drum.table[r.segFirst].motion = .run dir →
        dir ≠ (s.unit p).drum.dir →
        (t.unit p).drum.state = .stopping ∧ (t.unit p).drum.pendingDir = some dir ∧ (t.unit p).drum.entryTime = none ∧
        (t.unit p).drum.stopTimer = some ((s.unit p).drum.stopTimer.getD 0)) ∧
      (t.unit p).faults = (s.unit p).faults ∧ (t.unit p).pins = (s.unit p).pins

/-- What every entry into PAUSED by PAUSE or the door leaves, from a pocket `u` (2.6; 2.5). -/
def Sys2Proof.Machine.PocketUnit.PausedFrom (u v : PocketUnit) : Prop :=
  v.seq.run = .paused ∧ v.seq.resumeTarget = (if u.seq.run = .safe then .safe else .running) ∧
  (v.seq.held = true ↔ u.seq.run = .held) ∧ v.seq.restored = false ∧ v.seq.pauseTimer = 0 ∧
  v.seq.phaseTimer = u.seq.phaseTimer ∧ v.seq.confirm = u.seq.confirm ∧ v.seq.work = u.seq.work ∧
  v.seq.history = u.seq.history ∧ v.seq.activations = u.seq.activations ∧ v.seq.safeBegun = u.seq.safeBegun ∧
  v.seq.anchor = u.seq.anchor ∧ v.seq.profile = u.seq.profile ∧
  u.drum.StoppedFrom v.drum ∧ v.drum.antiTangle = u.drum.antiTangle ∧ v.heat.IsOff ∧
  v.moist = { u.moist with window := none } ∧ v.faults = u.faults ∧ v.notices = u.notices ∧ v.noticeMark = u.noticeMark

/-- PAUSE of a RUNNING, HELD or SAFE pocket, the silence timer not expired, and a door opening, which pauses such a pocket
in the same way; in PAUSED a door opening sets the unattended count to 0; a door closing changes the input alone (2.5, 2.6). -/
def Obligations.PauseAndDoorEnterPaused : Prop :=
  (∀ (b : Byte) (p : Pocket) (s : State), pocketOf b = some p → (s.unit p).seq.run.drives = true →
    s.link.silenceExpired = false →
    ∃ t : State, exec (.pause b) s = .next t ∧ s.SameElsewhere t p ∧ t.pool = s.pool ∧
      t.link = (s.reply 0x11 .ok []).link ∧ (s.unit p).PausedFrom (t.unit p) ∧ (t.unit p).pins = (s.unit p).pins) ∧
  (∀ (p : Pocket) (s : State), (s.unit p).pins.door = true → (s.unit p).seq.run.drives = true →
    s.link.silenceExpired = false →
    ∃ t : State, exec (.doorOpening p) s = .next t ∧ s.SameElsewhere t p ∧ t.pool = s.pool ∧ t.link = s.link ∧
      (s.unit p).PausedFrom (t.unit p) ∧ (t.unit p).pins = { (s.unit p).pins with door := false } ∧
      (t.unit p).fanOutput = false) ∧
  (∀ (p : Pocket) (s : State), (s.unit p).pins.door = true → (s.unit p).seq.run = .paused →
    exec (.doorOpening p) s = .next (s.onUnit p fun u =>
      { u with pins := { u.pins with door := false }, seq := { u.seq with doorClosedFor := 0 } })) ∧
  (∀ (p : Pocket) (s : State), (s.unit p).pins.door = true → (s.unit p).seq.run.engaged = false →
    exec (.doorOpening p) s = .next (s.onUnit p fun u => { u with pins := { u.pins with door := false } })) ∧
  (∀ (p : Pocket) (s : State),
    exec (.doorClosing p) s = .next (s.onUnit p fun u => { u with pins := { u.pins with door := true } }))

/-- A RESUME that continues the phase, or returns to HELD (2.7): the state held at the pause goes on, the drum's pattern
runs again from the suspended entry, and a window is aligned. With resume target SAFE it returns to the safe phase if the safe
chain has begun, and otherwise enters SAFE at the anchor, or halts with CHAIN where there is no anchor or its activation
fails (2.7, 2.8). The limit is compared in whole seconds (the model's reading, entry 11). -/
def Obligations.ResumeContinues : Prop :=
  (∀ (b : Byte) (p : Pocket) (s : State), pocketOf b = some p → (s.unit p).seq.run = .paused →
    (s.unit p).pins.door = true → (s.unit p).seq.resumeTarget = .safe →
    ((s.unit p).seq.safeBegun = true →
      ∃ t : State, exec (.resume b) s = .next t ∧ s.SameElsewhere t p ∧ t.pool = s.pool ∧
        t.link = (s.reply 0x12 .ok []).link ∧ (t.unit p).seq.run = .safe ∧ (t.unit p).seq.unattended = false ∧
        (t.unit p).seq.safeBegun = true ∧ (t.unit p).seq.work = (s.unit p).seq.work ∧
        (t.unit p).seq.phaseTimer = (s.unit p).seq.phaseTimer ∧ (t.unit p).seq.confirm = (s.unit p).seq.confirm ∧
        (t.unit p).seq.history = (s.unit p).seq.history ∧ (t.unit p).drum.order = .runSegment ∧
        (t.unit p).drum.segment = (s.unit p).drum.segment ∧
        (t.unit p).moist.window = some { length := (s.unit p).seq.work.dry.window * 100000, elapsed := 0, turning := 0,
                                         totalTicks := 0, weighted := 0 } ∧
        (t.unit p).faults = (s.unit p).faults) ∧
    ((s.unit p).seq.safeBegun = false →
      (∀ (a : SlotNo) (r : PhaseRecord), (s.unit p).seq.anchor = some a → ((s.view p).release p).check a = .ok r →
        ∃ t : State, exec (.resume b) s = .next t ∧ s.SameElsewhere t p ∧ t.link = (s.reply 0x12 .ok []).link ∧
          (t.unit p).seq.run = .safe ∧ (t.unit p).seq.safeBegun = true ∧ (t.unit p).seq.unattended = false ∧
          (t.unit p).seq.work.active = some a ∧ t.pool[a] = .active p r ∧ (t.unit p).seq.phaseTimer = 0 ∧
          (t.unit p).heat.IsOff ∧ (t.unit p).faults = (s.unit p).faults) ∧
      ((s.unit p).seq.anchor = none ∨ (∃ (a : SlotNo) (e : ActivationFailure), (s.unit p).seq.anchor = some a ∧
          ((s.view p).release p).check a = .error e) →
        ∃ t : State, exec (.resume b) s = .next t ∧ s.SameElsewhere t p ∧ t.link = (s.reply 0x12 .ok []).link ∧
          (t.unit p).seq.run = .halted ∧ (t.unit p).faults = (s.unit p).faults.put .chain true ∧
          (t.unit p).seq.work.active = none ∧ (t.unit p).heat.IsOff ∧
          (s.unit p).drum.StoppedFrom (t.unit p).drum))) ∧
  ∀ (b : Byte) (p : Pocket) (s : State), pocketOf b = some p → (s.unit p).seq.run = .paused →
    (s.unit p).pins.door = true → (s.unit p).seq.resumeTarget = .running → s.link.silenceExpired = false →
    ((s.unit p).seq.held = true ∨ (s.unit p).seq.restored = true ∨
      (s.unit p).seq.pauseTimer / 1000000 ≤ s.supply.config.resumeLimit) →
    ∃ t : State, exec (.resume b) s = .next t ∧ s.SameElsewhere t p ∧ t.pool = s.pool ∧
      t.link = (s.reply 0x12 .ok []).link ∧
      (t.unit p).seq.run = (if (s.unit p).seq.held then .held else .running) ∧ (t.unit p).seq.held = false ∧
      ((s.unit p).seq.held = false → (t.unit p).seq.restored = false) ∧ (t.unit p).seq.unattended = false ∧
      (t.unit p).seq.work = (s.unit p).seq.work ∧ (t.unit p).seq.phaseTimer = (s.unit p).seq.phaseTimer ∧
      (t.unit p).seq.confirm = (s.unit p).seq.confirm ∧ (t.unit p).seq.history = (s.unit p).seq.history ∧
      (t.unit p).seq.pauseTimer = (s.unit p).seq.pauseTimer ∧ (t.unit p).moist.estimate = (s.unit p).moist.estimate ∧
      (t.unit p).drum.order = .runSegment ∧ (t.unit p).drum.segment = (s.unit p).drum.segment ∧
      (t.unit p).drum.twist = (s.unit p).drum.twist ∧ (t.unit p).drum.dir = (s.unit p).drum.dir ∧
      (t.unit p).moist.window = some { length := (s.unit p).seq.work.dry.window * 100000, elapsed := 0, turning := 0,
                                       totalTicks := 0, weighted := 0 } ∧
      (t.unit p).faults = (s.unit p).faults

/-- What the close of a phase with outcome `o`, whose open checkpoint is `c`, leaves at an advance along a next field that
names slot `i`, in surroundings `env`. Where the slot's activation passes, the pocket is RUNNING in it, or SAFE within the
safe chain. Where it fails, CHAIN is latched; from a normal chain the anchor is entered, and without one, where its
activation fails too, and within the safe chain the pocket halts (1.5, 2.4, 2.8; a write that races with it, entry 19; none
is taken between a failed activation and the anchor's, entry 23). -/
def Sys2Proof.Machine.State.AdvancedTo (s t : State) (p : Pocket) (env : Env) (o : PhaseOutcome) (c : Checkpoint) (i : SlotNo)
    (estimate : Option Nat) : Prop :=
  let v := (s.view p).vacate env i
  let u := s.unit p
  let w := t.unit p
  { c with outcome := some o } ∈ w.seq.history ∧ w.notices.phaseEnd = true ∧ w.drum.twist = u.drum.twist ∧
  (∀ r : PhaseRecord, v.check i = .ok r →
    t.pool[i] = .active p r ∧ w.seq.run = (if u.seq.run = .safe then .safe else .running) ∧
    w.seq.work = workFrom i r u.seq.profile u.moist.valid ∧ w.seq.phaseTimer = 0 ∧ w.seq.confirm = 0 ∧
    w.seq.activations = min 65535 (u.seq.activations + 1) ∧
    w.seq.newest = some
      { slot := i, ordinal := min 65535 (u.seq.activations + 1), eStart := if r.quals.keepEstimate then estimate else none,
        twistStart := u.drum.twist, outcome := none } ∧
    w.drum.order = .runSegment ∧ w.drum.segment = some { first := r.segFirst, last := r.segLast, cursor := r.segFirst } ∧
    w.moist.window.isSome = true ∧ w.faults = u.faults) ∧
  (∀ e : ActivationFailure, v.check i = .error e →
    w.faults = u.faults.put .chain true ∧ (u.faults.chain = false → w.notices.faultLatched = true) ∧ w.heat.IsOff ∧
    (∀ (a : SlotNo) (r : PhaseRecord), u.seq.run ≠ .safe → u.seq.anchor = some a → v.check a = .ok r →
      w.seq.run = .safe ∧ w.seq.safeBegun = true ∧ w.seq.work.active = some a ∧ t.pool[a] = .active p r) ∧
    (u.seq.run = .safe ∨ u.seq.anchor = none ∨
        (∃ (a : SlotNo) (e' : ActivationFailure), u.seq.anchor = some a ∧ v.check a = .error e') →
      w.seq.run = .halted ∧ w.seq.safeBegun = false ∧ w.seq.work.active = none ∧ w.seq.fanRunOn = 120 ∧
      w.seq.newest = some { c with outcome := some o }))

/-- What an entry into SAFE from `s`, in surroundings `env`, leaves with the faults `f` latched. Where the anchor's activation
passes, the pocket is SAFE in it. Where there is no anchor or its activation fails, CHAIN is latched and the pocket halts
(2.8, 2.9; a write that races with it, entry 19). -/
def Sys2Proof.Machine.State.EnteredSafe (s t : State) (p : Pocket) (env : Env) (f : FaultSet) : Prop :=
  let check (a : SlotNo) := ((s.view p).vacate env a).check a
  let u := s.unit p
  let w := t.unit p
  w.heat.IsOff ∧ w.drum.twist = u.drum.twist ∧
  (∀ (a : SlotNo) (r : PhaseRecord), u.seq.anchor = some a → check a = .ok r →
    w.seq.run = .safe ∧ w.seq.safeBegun = true ∧ w.seq.work.active = some a ∧ t.pool[a] = .active p r ∧ w.faults = f) ∧
  (u.seq.anchor = none ∨ (∃ (a : SlotNo) (e : ActivationFailure), u.seq.anchor = some a ∧ check a = .error e) →
    w.seq.run = .halted ∧ w.seq.safeBegun = false ∧ w.seq.work.active = none ∧ w.seq.fanRunOn = 120 ∧
    u.drum.StoppedFrom w.drum ∧ w.faults = f.put .chain true ∧ (f.chain = false → w.notices.faultLatched = true))

/-- An entry into SAFE that closed the phase FAULTED, whose checkpoint was `c` (2.8, 2.4). -/
def Sys2Proof.Machine.State.FaultedIntoSafe (s t : State) (p : Pocket) (env : Env) (c : Checkpoint) (f : FaultSet) : Prop :=
  s.EnteredSafe t p env f ∧ { c with outcome := some .faulted } ∈ (t.unit p).seq.history ∧
    (t.unit p).notices.phaseEnd = true ∧ (t.unit p).notices.faultLatched = true ∧
    ((t.unit p).seq.run = .halted → (t.unit p).seq.newest = some { c with outcome := some .faulted })

/-- What a report of OVERHEAT or SENSOR to pocket `p` leaves. One already latched changes nothing but heat without permission. A
new one is latched with its notice: a RUNNING or HELD pocket closes its phase and enters SAFE, a PAUSED one with resume target
RUNNING closes it and is turned to SAFE, and any other runs on (9.1, 2.8). -/
def Sys2Proof.Machine.State.SafeOrderReported (s t : State) (p : Pocket) (f : PocketFault) : Prop :=
  let u := s.unit p
  let w := t.unit p
  w.faults.has f = true ∧ w.heat.IsOff ∧
  (u.faults.has f = true → w.seq = u.seq ∧ w.drum = u.drum ∧ w.moist = u.moist ∧ w.faults = u.faults ∧
    w.notices = u.notices ∧ t.pool = s.pool) ∧
  (u.faults.has f = false →
    w.notices.faultLatched = true ∧
    (u.seq.run.engaged = false ∨ u.seq.run = .safe ∨ (u.seq.run = .paused ∧ u.seq.resumeTarget = .safe) →
      w.seq = u.seq ∧ w.drum = u.drum ∧ w.moist = u.moist ∧ w.faults = u.faults.put f true ∧ t.pool = s.pool) ∧
    (∀ c : Checkpoint, u.seq.newest = some c →
      (u.seq.run = .paused → u.seq.resumeTarget = .running → (c.outcome = none ∨ u.seq.held = true) →
        w.seq.run = .paused ∧ w.seq.resumeTarget = .safe ∧ w.seq.held = false ∧ w.seq.restored = false ∧
        w.seq.newest = some { c with outcome := some .faulted } ∧ w.notices.phaseEnd = true ∧
        w.faults = u.faults.put f true ∧ w.drum = u.drum ∧ t.pool = s.pool) ∧
      (u.seq.run = .running ∨ u.seq.run = .held → (c.outcome = none ∨ u.seq.run = .held) →
        s.FaultedIntoSafe t p (s.eventEnv p) c (u.faults.put f true))))

/-- A RESUME after a pause longer than the resume limit: with RETRY_ALLOWED the phase is restored to its newest checkpoint
and the pocket is RUNNING; without, the phase is closed ABANDONED and the chain advances, to DONE at its end, and along next to
the slot it names, whose activation passes or fails (2.7, 3.3, 2.4, 1.5, 2.8). The silence timer has not expired. The limit is
compared in whole seconds (the model's reading, entry 11). -/
def Obligations.ResumeRetriesOrAbandons : Prop :=
  (∀ (b : Byte) (p : Pocket) (c : Checkpoint) (r : PhaseRecord) (s : State), pocketOf b = some p →
    (s.unit p).seq.run = .paused → (s.unit p).pins.door = true → (s.unit p).seq.resumeTarget = .running →
    (s.unit p).seq.held = false → (s.unit p).seq.restored = false →
    s.supply.config.resumeLimit < (s.unit p).seq.pauseTimer / 1000000 → (s.unit p).seq.work.quals.retryAllowed = true →
    (s.unit p).seq.newest = some c → s.pool[c.slot].record? = some r → s.link.silenceExpired = false →
    (s.unit p).drum.isTurning = false →
    ∃ t : State, exec (.resume b) s = .next t ∧ s.SameElsewhere t p ∧ t.pool = s.pool ∧
      t.link = (s.reply 0x12 .ok []).link ∧ (t.unit p).seq.run = .running ∧
      (t.unit p).seq.work = workFrom c.slot r (s.unit p).seq.profile (s.unit p).moist.valid ∧
      (t.unit p).seq.phaseTimer = 0 ∧ (t.unit p).seq.confirm = 0 ∧ (t.unit p).seq.activations = (s.unit p).seq.activations ∧
      (t.unit p).seq.newest = some { c with outcome := none } ∧
      (t.unit p).seq.history.length = (s.unit p).seq.history.length ∧
      (t.unit p).moist.estimate = c.eStart ∧ (t.unit p).drum.twist = c.twistStart ∧ (t.unit p).drum.antiTangle = 0 ∧
      (t.unit p).drum.limitReached = false ∧ (t.unit p).drum.order = .runSegment ∧
      (t.unit p).drum.segment = some { first := r.segFirst, last := r.segLast, cursor := r.segFirst } ∧
      (t.unit p).drum.unwind = none ∧ (t.unit p).moist.lastReading = (s.unit p).moist.lastReading) ∧
  (∀ (b : Byte) (p : Pocket) (c : Checkpoint) (s : State), pocketOf b = some p →
    (s.unit p).seq.run = .paused → (s.unit p).pins.door = true → (s.unit p).seq.resumeTarget = .running →
    (s.unit p).seq.held = false → (s.unit p).seq.restored = false →
    s.supply.config.resumeLimit < (s.unit p).seq.pauseTimer / 1000000 → (s.unit p).seq.work.quals.retryAllowed = false →
    (s.unit p).seq.newest = some c → c.outcome = none → (s.unit p).seq.work.next = none →
    ∃ t : State, exec (.resume b) s = .next t ∧ s.SameElsewhere t p ∧ t.link = (s.reply 0x12 .ok []).link ∧
      (t.unit p).seq.run = .done ∧ (t.unit p).seq.newest = some { c with outcome := some .abandoned } ∧
      (t.unit p).notices.phaseEnd = true ∧ (t.unit p).notices.chainDone = true ∧ (t.unit p).seq.work.active = none) ∧
  (∀ (b : Byte) (p : Pocket) (c : Checkpoint) (i : SlotNo) (s : State), pocketOf b = some p →
    (s.unit p).seq.run = .paused → (s.unit p).pins.door = true → (s.unit p).seq.resumeTarget = .running →
    (s.unit p).seq.held = false → (s.unit p).seq.restored = false →
    s.supply.config.resumeLimit < (s.unit p).seq.pauseTimer / 1000000 → (s.unit p).seq.work.quals.retryAllowed = false →
    (s.unit p).seq.newest = some c → c.outcome = none → (s.unit p).seq.work.next = some i → s.link.silenceExpired = false →
    ∃ t : State, exec (.resume b) s = .next t ∧ s.SameElsewhere t p ∧ t.link = (s.reply 0x12 .ok []).link ∧
      (t.unit p).seq.unattended = false ∧ s.AdvancedTo t p (s.env p) .abandoned c i (s.unit p).moist.estimate)

/-- ADVANCE with next END, from RUNNING, HELD or SAFE: the slot is released and the pocket is DONE (2.4, 2.5). -/
def Obligations.AdvanceAtEndEntersDone : Prop :=
  ∀ (b : Byte) (p : Pocket) (i : SlotNo) (r : PhaseRecord) (c : Checkpoint) (s : State), pocketOf b = some p →
    (s.unit p).seq.run.drives = true → (s.unit p).seq.work.next = none → (s.unit p).seq.work.active = some i →
    s.pool[i] = .active p r → (s.unit p).seq.newest = some c →
    ∃ t : State, exec (.advance b) s = .next t ∧ s.SameElsewhere t p ∧ s.SameSlotsBut t i ∧ t.pool[i] = .loaded r ∧
      t.link = (s.reply 0x13 .ok []).link ∧ (t.unit p).seq.run = .done ∧ (t.unit p).seq.work.active = none ∧
      (t.unit p).seq.work.quals = Quals.none ∧ (t.unit p).seq.safeBegun = false ∧
      (t.unit p).notices.chainDone = true ∧ ((s.unit p).seq.run ≠ .held → c.outcome = none →
        (t.unit p).seq.newest = some { c with outcome := some .skipped } ∧ (t.unit p).notices.phaseEnd = true) ∧
      ((s.unit p).seq.run = .held → (t.unit p).seq.history = (s.unit p).seq.history) ∧
      (s.unit p).drum.StoppedFrom (t.unit p).drum ∧ (t.unit p).drum.segment = none ∧ (t.unit p).heat.IsOff ∧
      (t.unit p).moist.window = none ∧ (t.unit p).faults = (s.unit p).faults

/-- ADVANCE along a next field that names a usable slot: that slot is activated, and the pocket is RUNNING, or SAFE within
the safe chain; the silence timer has not expired, or the pocket was not HELD. Where the activation fails, CHAIN is latched
and a pocket of a normal chain enters SAFE at its anchor; it halts without an anchor, where the anchor's activation fails
too, and within the safe chain (2.4, 2.5, 1.5, 2.8). -/
def Obligations.AdvanceActivatesNextSlot : Prop :=
  (∀ (b : Byte) (p : Pocket) (i : SlotNo) (e : ActivationFailure) (s : State), pocketOf b = some p →
    (s.unit p).seq.run.drives = true → (s.unit p).seq.work.next = some i → ((s.view p).release p).check i = .error e →
    ((s.unit p).seq.run ≠ .safe →
      ∀ (a : SlotNo) (r : PhaseRecord), (s.unit p).seq.anchor = some a → ((s.view p).release p).check a = .ok r →
        ∃ t : State, exec (.advance b) s = .next t ∧ s.SameElsewhere t p ∧ t.link = (s.reply 0x13 .ok []).link ∧
          (t.unit p).seq.run = .safe ∧ (t.unit p).seq.safeBegun = true ∧ (t.unit p).seq.work.active = some a ∧
          t.pool[a] = .active p r ∧ (t.unit p).faults = (s.unit p).faults.put .chain true ∧
          ((s.unit p).faults.chain = false → (t.unit p).notices.faultLatched = true) ∧ (t.unit p).heat.IsOff ∧
          (t.unit p).drum.twist = (s.unit p).drum.twist) ∧
    ((s.unit p).seq.run = .safe ∨ (s.unit p).seq.anchor = none ∨
        (∃ (a : SlotNo) (e' : ActivationFailure), (s.unit p).seq.anchor = some a ∧
          ((s.view p).release p).check a = .error e') →
      ∃ t : State, exec (.advance b) s = .next t ∧ s.SameElsewhere t p ∧ t.link = (s.reply 0x13 .ok []).link ∧
        (t.unit p).seq.run = .halted ∧ (t.unit p).seq.safeBegun = false ∧ (t.unit p).seq.work.active = none ∧
        (t.unit p).faults = (s.unit p).faults.put .chain true ∧
        ((s.unit p).faults.chain = false → (t.unit p).notices.faultLatched = true) ∧ (t.unit p).seq.fanRunOn = 120 ∧
        (s.unit p).drum.StoppedFrom (t.unit p).drum ∧ (t.unit p).heat.IsOff ∧
        (t.unit p).seq.activations = (s.unit p).seq.activations)) ∧
  ∀ (b : Byte) (p : Pocket) (i : SlotNo) (r : PhaseRecord) (s : State), pocketOf b = some p →
    (s.unit p).seq.run.drives = true → (s.unit p).seq.work.next = some i → ((s.view p).release p).check i = .ok r →
    (s.link.silenceExpired = false ∨ (s.unit p).seq.run ≠ .held) →
    ∃ t : State, exec (.advance b) s = .next t ∧ s.SameElsewhere t p ∧ t.link = (s.reply 0x13 .ok []).link ∧
      t.pool[i] = .active p r ∧
      (t.unit p).seq.run = (if (s.unit p).seq.run = .safe then .safe else .running) ∧
      (t.unit p).seq.work = workFrom i r (s.unit p).seq.profile (s.unit p).moist.valid ∧
      (t.unit p).seq.phaseTimer = 0 ∧ (t.unit p).seq.confirm = 0 ∧
      (t.unit p).seq.activations = min 65535 ((s.unit p).seq.activations + 1) ∧
      (t.unit p).seq.newest = some
        { slot := i, ordinal := min 65535 ((s.unit p).seq.activations + 1),
          eStart := if r.quals.keepEstimate then (s.unit p).moist.estimate else none,
          twistStart := (s.unit p).drum.twist, outcome := none } ∧
      (t.unit p).drum.order = .runSegment ∧ (t.unit p).drum.twist = (s.unit p).drum.twist ∧
      (t.unit p).drum.segment = some { first := r.segFirst, last := r.segLast, cursor := r.segFirst } ∧
      (t.unit p).moist.window.isSome = true ∧ (t.unit p).faults = (s.unit p).faults ∧
      (t.unit p).drum.dir = (s.unit p).drum.dir

/-- ABORT of a RUNNING or HELD pocket: the phase is closed ABORTED and the safe anchor is activated, or, with no anchor or
an anchor whose activation fails, CHAIN is latched and the pocket halts; ABORT of a PAUSED pocket with resume target RUNNING
closes the phase and sets the target to SAFE (2.5, 2.8). -/
def Obligations.AbortEntersSafeOrHalts : Prop :=
  (∀ (b : Byte) (p : Pocket) (c : Checkpoint) (s : State), pocketOf b = some p →
    ((s.unit p).seq.run = .running ∨ (s.unit p).seq.run = .held) → (s.unit p).seq.newest = some c →
    (c.outcome = none ∨ (s.unit p).seq.run = .held) →
    (∀ (a : SlotNo) (r : PhaseRecord), (s.unit p).seq.anchor = some a → ((s.view p).release p).check a = .ok r →
      ∃ t : State, exec (.abort b) s = .next t ∧ s.SameElsewhere t p ∧ t.link = (s.reply 0x15 .ok []).link ∧
        (t.unit p).seq.run = .safe ∧ (t.unit p).seq.safeBegun = true ∧ (t.unit p).seq.work.active = some a ∧
        t.pool[a] = .active p r ∧ (t.unit p).notices.phaseEnd = true ∧
        { c with outcome := some .aborted } ∈ (t.unit p).seq.history ∧ (t.unit p).heat.IsOff ∧
        (t.unit p).faults = (s.unit p).faults ∧ (t.unit p).drum.twist = (s.unit p).drum.twist) ∧
    ((s.unit p).seq.anchor = none ∨ (∃ (a : SlotNo) (e : ActivationFailure), (s.unit p).seq.anchor = some a ∧
        ((s.view p).release p).check a = .error e) →
      ∃ t : State, exec (.abort b) s = .next t ∧ s.SameElsewhere t p ∧ t.link = (s.reply 0x15 .ok []).link ∧
        (t.unit p).seq.run = .halted ∧ (t.unit p).faults.chain = true ∧ (t.unit p).seq.work.active = none ∧
        (t.unit p).seq.newest = some { c with outcome := some .aborted } ∧ (t.unit p).seq.fanRunOn = 120 ∧
        (s.unit p).drum.StoppedFrom (t.unit p).drum ∧ (t.unit p).heat.IsOff)) ∧
  (∀ (b : Byte) (p : Pocket) (c : Checkpoint) (s : State), pocketOf b = some p → (s.unit p).seq.run = .paused →
    (s.unit p).seq.resumeTarget = .running → (s.unit p).seq.newest = some c →
    (c.outcome = none ∨ (s.unit p).seq.held = true) →
    ∃ t : State, exec (.abort b) s = .next t ∧ s.SameElsewhere t p ∧ t.pool = s.pool ∧
      t.link = (s.reply 0x15 .ok []).link ∧ (t.unit p).seq.run = .paused ∧ (t.unit p).seq.resumeTarget = .safe ∧
      (t.unit p).seq.held = false ∧ (t.unit p).seq.restored = false ∧
      (t.unit p).seq.newest = some { c with outcome := some .aborted } ∧ (t.unit p).notices.phaseEnd = true ∧
      (t.unit p).seq.work = (s.unit p).seq.work ∧ (t.unit p).drum = (s.unit p).drum)

/-- A BACKSTEP that passes its checks: newer entries are dropped, the pocket is restored to the target and stands PAUSED
with the restored mark (3.3, 3.4). The silence timer has not expired, or the pocket was PAUSED. That the retake of the
working set makes no twist check is the model's choice (entry 21). -/
def Obligations.BackstepRestoresCheckpoint : Prop :=
  ∀ (b k : Byte) (p : Pocket) (c : Checkpoint) (r : PhaseRecord) (s : State), pocketOf b = some p → k.toNat ≤ 7 →
    ((s.unit p).seq.run = .held ∨ ((s.unit p).seq.run = .paused ∧ (s.unit p).seq.resumeTarget = .running)) →
    (s.unit p).seq.history.reverse[k.toNat]? = some c →
    ((s.pool[c.slot] = .loaded r ∧ (s.unit p).seq.work.active ≠ some c.slot) ∨ s.pool[c.slot] = .active p r) →
    r.segFirst ≤ r.segLast →
    (∀ j : EntryNo, r.segFirst ≤ j → j ≤ r.segLast → (s.unit p).drum.table[j].written = true) →
    (s.link.silenceExpired = false ∨ (s.unit p).seq.run = .paused) →
    ∃ t : State, exec (.backstep b k) s = .next t ∧ s.SameElsewhere t p ∧ t.link = (s.reply 0x14 .ok []).link ∧
      t.pool[c.slot] = .active p r ∧ (t.unit p).seq.run = .paused ∧ (t.unit p).seq.resumeTarget = .running ∧
      (t.unit p).seq.held = false ∧ (t.unit p).seq.restored = true ∧
      (t.unit p).seq.work = workFrom c.slot r (s.unit p).seq.profile (s.unit p).moist.valid ∧
      (t.unit p).seq.newest = some { c with outcome := none } ∧
      (t.unit p).seq.history.length = (s.unit p).seq.history.length - k.toNat ∧
      (t.unit p).seq.activations = (s.unit p).seq.activations ∧ (t.unit p).seq.phaseTimer = 0 ∧
      (t.unit p).seq.confirm = 0 ∧
      (t.unit p).seq.pauseTimer = (if (s.unit p).seq.run = .held then 0 else (s.unit p).seq.pauseTimer) ∧
      (t.unit p).moist.estimate = c.eStart ∧ (t.unit p).moist.window = none ∧ (t.unit p).drum.twist = c.twistStart ∧
      (t.unit p).drum.antiTangle = 0 ∧ (t.unit p).drum.limitReached = false ∧ (t.unit p).drum.unwind = none ∧
      (t.unit p).drum.order = .stop ∧ (t.unit p).drum.runOutput = false ∧
      (t.unit p).drum.segment = some { first := r.segFirst, last := r.segLast, cursor := r.segFirst } ∧
      (t.unit p).heat.IsOff ∧ (t.unit p).notices.phaseEnd = (s.unit p).notices.phaseEnd

/-- The phase timer's expiry: the phase closes with the outcome of its kind; in RUNNING with HOLD_AT_END the pocket is HELD
(the silence timer has not expired), and without it, or in SAFE, the chain advances, to DONE at its end, and along next to
the slot it names, whose activation passes or fails (2.3, 2.4, 1.5, 2.8). A write that races with the activation is taken as
log entry 19 has it, and none between a failed activation and the anchor's (entry 23). -/
def Obligations.PhaseTimerExpiryEndsPhase : Prop :=
  (∀ (p : Pocket) (c : Checkpoint) (s : State), (s.unit p).seq.run = .running → (s.unit p).seq.newest = some c →
    c.outcome = none → (s.unit p).seq.work.maxTime * 1000000 ≤ (s.unit p).seq.phaseTimer →
    (s.unit p).seq.work.quals.holdAtEnd = true → s.link.silenceExpired = false →
    ∃ t : State, exec (.phaseTimerExpiry p) s = .next t ∧ s.SameElsewhere t p ∧ t.pool = s.pool ∧ t.link = s.link ∧
      (t.unit p).seq.run = .held ∧ (t.unit p).seq.work = (s.unit p).seq.work ∧
      (t.unit p).seq.newest = some { c with outcome := some (match (s.unit p).seq.work.kind with
        | .dry => if (s.unit p).seq.work.timedOnly then .time else .timeout
        | .timed => .time
        | .tumble => .time
        | .cool => .timeout) } ∧
      (t.unit p).notices.phaseEnd = true ∧ (t.unit p).notices.held = true ∧
      (t.unit p).seq.phaseTimer = (s.unit p).seq.phaseTimer ∧ (t.unit p).seq.confirm = (s.unit p).seq.confirm ∧
      (t.unit p).drum.order = (s.unit p).drum.order ∧
      ((s.unit p).drum.unwind = none → (t.unit p).drum = (s.unit p).drum) ∧ (t.unit p).heat.IsOff ∧
      (t.unit p).moist.window.isSome = true ∧ (t.unit p).faults = (s.unit p).faults) ∧
  (∀ (p : Pocket) (c : Checkpoint) (s : State),
    ((s.unit p).seq.run = .running ∧ (s.unit p).seq.work.quals.holdAtEnd = false ∨ (s.unit p).seq.run = .safe) →
    (s.unit p).seq.newest = some c → c.outcome = none →
    (s.unit p).seq.work.maxTime * 1000000 ≤ (s.unit p).seq.phaseTimer → (s.unit p).seq.work.next = none →
    ∃ t : State, exec (.phaseTimerExpiry p) s = .next t ∧ s.SameElsewhere t p ∧ t.link = s.link ∧
      (t.unit p).seq.run = .done ∧ (t.unit p).seq.work.active = none ∧ (t.unit p).notices.phaseEnd = true ∧
      (t.unit p).notices.chainDone = true ∧ (t.unit p).notices.held = (s.unit p).notices.held ∧
      (t.unit p).seq.newest = some { c with outcome := some (s.unit p).seq.work.expiryOutcome }) ∧
  (∀ (p : Pocket) (c : Checkpoint) (i : SlotNo) (s : State),
    ((s.unit p).seq.run = .running ∧ (s.unit p).seq.work.quals.holdAtEnd = false ∨ (s.unit p).seq.run = .safe) →
    (s.unit p).seq.newest = some c → c.outcome = none →
    (s.unit p).seq.work.maxTime * 1000000 ≤ (s.unit p).seq.phaseTimer → (s.unit p).seq.work.next = some i →
    ∃ t : State, exec (.phaseTimerExpiry p) s = .next t ∧ s.SameElsewhere t p ∧ t.link = s.link ∧
      s.AdvancedTo t p (s.eventEnv p) (s.unit p).seq.work.expiryOutcome c i (s.unit p).moist.estimate)

/-- The unattended count complete: the pocket goes back to its safe phase if the safe chain has begun, and otherwise enters
SAFE at its anchor, or halts with CHAIN latched where there is no anchor or its activation fails (2.7, 2.8). A write that races
with the activation is taken as log entry 19 has it. -/
def Obligations.UnattendedResumeEntersSafe : Prop :=
  (∀ (p : Pocket) (s : State), (s.unit p).seq.run = .paused → (s.unit p).seq.unattended = true →
    (s.unit p).pins.door = true → 10000000 ≤ (s.unit p).seq.doorClosedFor → (s.unit p).seq.safeBegun = true →
    ∃ t : State, exec (.unattendedResume p) s = .next t ∧ s.SameElsewhere t p ∧ t.pool = s.pool ∧ t.link = s.link ∧
      (t.unit p).seq.run = .safe ∧ (t.unit p).seq.unattended = false ∧ (t.unit p).seq.work = (s.unit p).seq.work ∧
      (t.unit p).seq.phaseTimer = (s.unit p).seq.phaseTimer ∧ (t.unit p).seq.confirm = (s.unit p).seq.confirm ∧
      (t.unit p).drum.order = .runSegment ∧ (t.unit p).moist.window.isSome = true ∧
      (t.unit p).faults = (s.unit p).faults) ∧
  (∀ (p : Pocket) (s : State), (s.unit p).seq.run = .paused → (s.unit p).seq.unattended = true →
    (s.unit p).pins.door = true → 10000000 ≤ (s.unit p).seq.doorClosedFor → (s.unit p).seq.safeBegun = false →
    ∃ t : State, exec (.unattendedResume p) s = .next t ∧ s.SameElsewhere t p ∧ t.link = s.link ∧
      (t.unit p).seq.unattended = false ∧ s.EnteredSafe t p (s.eventEnv p) (s.unit p).faults)

/-- When an event of the table is due by what the timers and the queues of the part hold; an event that waits for no timer is
never due of itself. -/
def Sys2Proof.Machine.State.Due (s : State) : Instr → Prop
  | .phaseTimerExpiry p => ((s.unit p).seq.run = .running ∨ (s.unit p).seq.run = .safe) ∧
      (∃ c : Checkpoint, (s.unit p).seq.newest = some c ∧ c.outcome = none) ∧
      (s.unit p).seq.work.maxTime * 1000000 ≤ (s.unit p).seq.phaseTimer
  | .unattendedResume p => (s.unit p).seq.run = .paused ∧ (s.unit p).seq.unattended = true ∧ (s.unit p).pins.door = true ∧
      10000000 ≤ (s.unit p).seq.doorClosedFor
  | .fanRunOnExpiry p => (s.unit p).seq.fanRunOn = 1 ∧ 1000000 ≤ (s.unit p).seq.fanFraction
  | .tachoCaptureOverflow p => 65535 < (s.unit p).drum.tachCount ∧ (s.unit p).drum.tachPassed = false
  | .unwindBoundExpiry p => ∃ w : Unwind, (s.unit p).drum.unwind = some w ∧ w.stage = .run ∧ w.asserted = true ∧
      120000000 ≤ w.timer
  | .loosenDwellExpiry p => ∃ w : Unwind, (s.unit p).drum.unwind = some w ∧ w.stage = .loosen ∧
      (s.unit p).seq.work.tangle.loosenDwell * 1000000 ≤ w.timer
  | .stopConfirmed p => (s.unit p).drum.state = .stopping ∧ 800000 ≤ (s.unit p).drum.quiet
  | .standstillExpiry p => (s.unit p).drum.state = .settle ∧ (s.unit p).drum.pendingDir ≠ none ∧
      ∃ n : Nat, (s.unit p).drum.settleTimer = some n ∧ 300000 ≤ n
  | .entryDurationExpiry p => (s.unit p).drum.order = .runSegment ∧ (s.unit p).drum.unwind = none ∧
      ∃ (g : Segment) (n : Nat), (s.unit p).drum.segment = some g ∧ (s.unit p).drum.entryTime = some n ∧
        (s.unit p).drum.table[g.cursor].duration * 500000 ≤ n
  | .startTimeout p => (s.unit p).drum.state = .starting ∧
      ∃ n : Nat, (s.unit p).drum.startTimer = some n ∧ 10000000 ≤ n
  | .speedLossTimeout p => (s.unit p).drum.state = .turning ∧
      ∃ n : Nat, (s.unit p).drum.speedLossTimer = some n ∧ 5000000 ≤ n
  | .stopTimeout p => (s.unit p).drum.state = .stopping ∧
      ∃ n : Nat, (s.unit p).drum.stopTimer = some n ∧ 15000000 ≤ n
  | .forcedOpenPeriod p => 65535 ≤ (s.unit p).moist.capture
  | .calIsolatedPartEnd p => ∃ c : Calibration, (s.unit p).moist.calibration = some c ∧ c.part = .isolated ∧
      1000000 ≤ c.elapsed
  | .calComplete p => ∃ (c : Calibration) (g : Nat), (s.unit p).moist.calibration = some c ∧ c.part = .reference g ∧
      1000000 ≤ c.elapsed
  | .windowEnd p => ∃ w : SenseWindow, (s.unit p).moist.window = some w ∧ w.length ≤ w.elapsed
  | .airflowTimeout p => ∃ n : Nat, (s.unit p).heat.airTimer = some n ∧ 5000000 ≤ n
  | .mainsLoss => s.supply.mainsPresent = true ∧ 60000 ≤ s.supply.zcElapsed
  | .receiveSilenceTimeout => s.link.assembler ≠ .hunt ∧ 10261 ≤ s.link.byteSilence
  | .frameTaken => s.link.replySlot = none ∧ s.link.inbound ≠ []
  | .replyTransmissionBegin => s.link.tx = .idle ∧ s.link.replySlot ≠ none
  | .noticeFrameBegin => s.link.tx = .idle ∧ s.link.replySlot = none ∧
      (s.lower.noticeMark = true ∨ s.upper.noticeMark = true ∨ s.device.mark = true)
  | .transmissionEnd => ∃ (isReply : Bool) (frame : List Byte) (n : Nat), s.link.tx = .sending isReply frame n ∧
      frame.length * 10000000 ≤ n * 38400
  | .silenceTimerExpiry => s.link.silenceExpired = false ∧ s.supply.config.silence * 1000000 ≤ s.link.silence
  | _ => False

/-- Time. One microsecond moves every timer that runs by one and holds every other, and changes nothing else: the phase
timer of an open phase in RUNNING and SAFE, the pause timer in PAUSED, the unattended count with the door closed, the fan
run-on, the tacho count at every tenth microsecond, the quiet time, the drum's timers, the moisture capture, the calibration
part, the window with its turning time, the airflow timer while mains is present, the watch on mains, and the link's times.
The events that are due are those whose times or queues say so. At the last second of the fan run-on the count is 0, and FAN
goes off in IDLE, DONE and HALTED (2.1, 2.3, 2.7, 2.10, 4.3 to 4.7, 5.5, 6.1 to 6.3, 8.2, 8.9, 11.1, 11.6). That time passes
in microseconds (entry 2), what the pause timer counts (entry 12), how long the clock waits for a start bit (entry 17) and
that a STOPPED drum counts its standstill (entry 20) are the model's choices. -/
def Obligations.TimePassesInEveryTimer : Prop :=
  (∀ (p : Pocket) (s : State),
    let u := s.unit p
    let v := s.tick.unit p
    v = { u with seq := v.seq, drum := v.drum, moist := v.moist, heat := v.heat } ∧
    v.seq = { u.seq with
      phaseTimer := v.seq.phaseTimer, pauseTimer := v.seq.pauseTimer, doorClosedFor := v.seq.doorClosedFor,
      fanRunOn := v.seq.fanRunOn, fanFraction := v.seq.fanFraction } ∧
    ((u.seq.run = .running ∨ u.seq.run = .safe) ∧ (∃ c : Checkpoint, u.seq.newest = some c ∧ c.outcome = none) →
      v.seq.phaseTimer = u.seq.phaseTimer + 1) ∧
    ((u.seq.run ≠ .running ∧ u.seq.run ≠ .safe) ∨ (∀ c : Checkpoint, u.seq.newest = some c → c.outcome ≠ none) →
      v.seq.phaseTimer = u.seq.phaseTimer) ∧
    v.seq.pauseTimer = (if u.seq.run = .paused then min 65535000000 (u.seq.pauseTimer + 1) else u.seq.pauseTimer) ∧
    v.seq.doorClosedFor = (if u.seq.run = .paused ∧ u.seq.unattended = true ∧ u.pins.door = true then
      u.seq.doorClosedFor + 1 else u.seq.doorClosedFor) ∧
    (v.seq.fanRunOn, v.seq.fanFraction) =
      (if u.seq.fanRunOn = 0 then (u.seq.fanRunOn, u.seq.fanFraction)
      else if u.seq.fanFraction + 1 < 1000000 ∨ u.seq.fanRunOn = 1 then (u.seq.fanRunOn, u.seq.fanFraction + 1)
      else (u.seq.fanRunOn - 1, 0)) ∧
    v.drum = { u.drum with
      entryTime := u.drum.entryTime.map (· + 1)
      tachCount := if 9 ≤ s.prescale then min 65536 (u.drum.tachCount + 1) else u.drum.tachCount
      quiet := min 800000 (u.drum.quiet + 1)
      startTimer := u.drum.startTimer.map (· + 1)
      speedLossTimer := u.drum.speedLossTimer.map (· + 1)
      stopTimer := u.drum.stopTimer.map (· + 1)
      settleTimer := u.drum.settleTimer.map fun n => min 300000 (n + 1)
      unwind := u.drum.unwind.map fun w =>
        if w.stage = .loosen ∨ (w.stage = .run ∧ w.asserted = true) then { w with timer := w.timer + 1 } else w } ∧
    v.moist = { u.moist with
      capture := min 65535 (u.moist.capture + 1)
      calibration := u.moist.calibration.map fun c => { c with elapsed := c.elapsed + 1 }
      window := u.moist.window.map fun w =>
        { w with elapsed := w.elapsed + 1, turning := if u.drum.state = .turning then w.turning + 1 else w.turning } } ∧
    v.heat = { u.heat with
      airTimer := if s.supply.mainsPresent then u.heat.airTimer.map (· + 1) else u.heat.airTimer }) ∧
  (∀ s : State,
    s.tick = { s with
      lower := s.tick.lower
      upper := s.tick.upper
      supply := { s.supply with
        zcElapsed := if s.supply.mainsPresent then min 60000 (s.supply.zcElapsed + 1) else s.supply.zcElapsed }
      link := { s.link with
        byteSilence := if s.link.assembler = .hunt then s.link.byteSilence else min 10262 (s.link.byteSilence + 1)
        silence := if s.link.silenceExpired then s.link.silence else s.link.silence + 1
        tx := match s.link.tx with
          | .idle => .idle
          | .sending isReply frame n => .sending isReply frame (n + 1) }
      prescale := if 9 ≤ s.prescale then 0 else s.prescale + 1 }) ∧
  (∀ (s : State) (e : Instr), e ∈ s.dueEvents ↔ s.Due e) ∧
  ∀ (p : Pocket) (s : State), (s.unit p).seq.fanRunOn = 1 → 1000000 ≤ (s.unit p).seq.fanFraction →
    ∃ t : State, exec (.fanRunOnExpiry p) s = .next t ∧
      t = (s.onUnit p fun u => { u with seq := { u.seq with fanRunOn := 0, fanFraction := 0 } }) ∧
      ((s.unit p).seq.run.engaged = false → (t.unit p).fanOutput = false)

/-! ## The Drum Motion Unit (chapters 4 and 5) -/

/-- PUT_MOTION in every case, in the order of its checks: the entry is replaced whole and marked written (4.1). -/
def Obligations.PutMotionByCases : Prop :=
  ∀ (b idx dir sp du : Byte) (s : State),
    (∀ (p : Pocket) (j : EntryNo) (m : Motion), pocketOf b = some p → entryOf idx = some j → motionOf dir = some m →
      exec (.putMotion b idx dir sp du) s = .next
        (if (s.unit p).executingEntry = some j then s.reply 0x05 .inUse []
        else
          let speed := match m with
            | .run _ => max 15 (min 60 sp.toNat)
            | .dwell => 0
          let duration := max 1 (min 240 du.toNat)
          let entry : MotionEntry := { motion := m, speed := speed, duration := duration, written := true }
          (s.onUnit p fun u => { u with drum := { u.drum with table := u.drum.table.set j entry } }).reply 0x05
            (if duration = du.toNat ∧ (m = .dwell ∨ speed = sp.toNat) then .ok else .okClamped) [])) ∧
    (2 ≤ b.toNat ∨ 32 ≤ idx.toNat ∨ 3 ≤ dir.toNat →
      exec (.putMotion b idx dir sp du) s = .next (s.reply 0x05 .badRequest []))

/-- A rising edge on TACH measures the speed, restarts capture and quiet time, and counts the twist at every twelfth edge,
by the asserted direction, saturating (4.3, 5.2). A STARTING drum measured at half the commanded speed or above is TURNING,
or interrupted at once where its entry adds to a twist at the limit; below half it stays STARTING. A TURNING drum, no
revolution being completed, starts its speed-loss timer below half and discards it otherwise (4.4, 4.7, 5.4). The speed at a
count of 0 is the model's free value (entry 5), and the order within the edge its reading (entry 14). -/
def Obligations.TachEdgeMeasuresAndCounts : Prop :=
  ∀ (p : Pocket) (s : State), ∃ t : State, exec (.tachEdge p) s = .next t ∧ s.SameElsewhere t p ∧ t.pool = s.pool ∧
    t.link = s.link ∧ (t.unit p).drum.tachCount = 0 ∧ (t.unit p).drum.tachPassed = false ∧ (t.unit p).drum.quiet = 0 ∧
    ((s.unit p).drum.tachPassed = false → 1 ≤ (s.unit p).drum.tachCount → (s.unit p).drum.tachCount ≤ 65535 →
      (t.unit p).drum.speed = 500000 / (s.unit p).drum.tachCount) ∧
    ((s.unit p).drum.tachPassed = true ∨ 65535 < (s.unit p).drum.tachCount → (t.unit p).drum.speed = 0) ∧
    ((s.unit p).drum.tachPassed = false → (s.unit p).drum.tachCount = 0 →
      (t.unit p).drum.speed = 0 ∨ (7 ≤ (t.unit p).drum.speed ∧ (t.unit p).drum.speed ≤ 500000)) ∧
    (t.unit p).drum.twist =
      (if (s.unit p).drum.revPulse = 11 then
        match (s.unit p).drum.dir with
        | .fwd => min 999 ((s.unit p).drum.twist + 1)
        | .rev => max (-999) ((s.unit p).drum.twist - 1)
      else (s.unit p).drum.twist) ∧
    ((s.unit p).drum.state = .starting → ((s.unit p).drum.unwind = none ∨ (s.unit p).drum.revPulse ≠ 11) →
      ((t.unit p).drum.speed * 2 < (s.unit p).drum.commanded →
        (t.unit p).drum.state = .starting ∧ (t.unit p).drum.startTimer = (s.unit p).drum.startTimer ∧
        (t.unit p).drum.unwind = (s.unit p).drum.unwind) ∧
      ((s.unit p).drum.commanded ≤ (t.unit p).drum.speed * 2 →
        (t.unit p).drum.startTimer = none ∧ (t.unit p).drum.speedLossTimer = none ∧
        (let twists : Prop := (s.unit p).drum.order = .runSegment ∧ (s.unit p).drum.unwind = none ∧
          (s.unit p).seq.work.tangle.twistLimit ≠ 0 ∧
          (s.unit p).seq.work.tangle.twistLimit ≤ (t.unit p).drum.twist.natAbs ∧
          ∃ g : Segment, (s.unit p).drum.segment = some g ∧
            ((s.unit p).drum.table[g.cursor].motion = .run .fwd ∧ 0 < (t.unit p).drum.twist ∨
              (s.unit p).drum.table[g.cursor].motion = .run .rev ∧ (t.unit p).drum.twist < 0)
        (¬twists → (t.unit p).drum.state = .turning ∧ (t.unit p).drum.unwind = (s.unit p).drum.unwind) ∧
        (twists → (t.unit p).drum.state = .stopping ∧ (t.unit p).drum.runOutput = false ∧
          ∃ w : Unwind, (t.unit p).drum.unwind = some w ∧ w.trigger = .twist ∧ w.stage = .stop)))) ∧
    ((s.unit p).drum.state = .turning → (s.unit p).drum.revPulse ≠ 11 →
      (t.unit p).drum.state = .turning ∧ (t.unit p).drum.unwind = (s.unit p).drum.unwind ∧
      (t.unit p).drum.speedLossTimer =
        (if (t.unit p).drum.speed * 2 < (s.unit p).drum.commanded then some ((s.unit p).drum.speedLossTimer.getD 0)
        else none)) ∧
    (t.unit p).drum.dir = (s.unit p).drum.dir ∧ (t.unit p).drum.table = (s.unit p).drum.table ∧
    (t.unit p).seq = (s.unit p).seq ∧ (t.unit p).moist = (s.unit p).moist ∧ (t.unit p).faults = (s.unit p).faults ∧
    (t.unit p).pins = (s.unit p).pins

/-- What a trigger of kind `k` on entry `e` of direction `dir` at the segment's cursor leaves of a pocket `u`, the twist
having become `twist` (5.5, 5.6). -/
def Sys2Proof.Machine.PocketUnit.InterruptedBy (k : TriggerKind) (g : Segment) (e : MotionEntry) (dir : Dir) (twist : Int)
    (u v : PocketUnit) : Prop :=
  v.drum.state = .stopping ∧ v.drum.runOutput = false ∧
  v.drum.unwind = some
    { stage := .stop, dir := dir.opposite, speed := e.speed,
      required := max u.seq.work.tangle.unwindRevs twist.natAbs,
      completed := 0, interrupted := g.cursor, trigger := k, asserted := false, timer := 0 } ∧
  v.drum.segment = some g ∧ v.drum.imbalanceRun = 0 ∧ v.drum.antiTangle = min 255 (u.drum.antiTangle + 1) ∧
  (u.seq.work.tangle.antiTangleLimit ≤ v.drum.antiTangle →
    v.drum.limitReached = true ∧ (u.drum.limitReached = false → v.notices.tangleLimit = true)) ∧
  v.executingEntry = none ∧ v.drum.pendingDir = none ∧ v.drum.stopTimer = some 0

/-- The triggers at a completed revolution of a drum TURNING in a run entry. The imbalance monitor measures a counted
revolution; a measure above the threshold adds to the run, and the run that reaches R inserts one unwind step of the
imbalance kind and stops the drum, whatever the twist; a measure at or below it ends the run, and a revolution that is not
counted leaves it. Where the imbalance does not fire, a twist at the limit in an entry that adds to it inserts one unwind
step of the twist kind (5.3, 5.4, 5.5, 5.6). -/
def Obligations.TriggersInsertUnwind : Prop :=
  ∀ (p : Pocket) (g : Segment) (e : MotionEntry) (dir : Dir) (s : State),
    let d := (s.unit p).drum
    let g' := (s.unit p).seq.work.tangle
    let twist := twistStep d.dir d.twist
    let periods : List Nat := d.revPeriods.filterMap EdgeRecord.period ++ [d.tachCount]
    let mean := periods.sum / 12
    let twists : Prop := g'.twistLimit ≠ 0 ∧ g'.twistLimit ≤ twist.natAbs ∧
      (dir = .fwd ∧ 0 < twist ∨ dir = .rev ∧ twist < 0)
    let counted : Prop := g'.imbalanceThreshold ≠ 0 ∧ 1 ≤ d.revNumber ∧
      (∀ x ∈ d.revPeriods, x.counted = true ∧ x.period ≠ none) ∧ d.tachPassed = false ∧ d.tachCount ≤ 65535
    (s.unit p).seq.run.drives = true → d.state = .turning → d.order = .runSegment → d.unwind = none →
    d.segment = some g → d.table[g.cursor] = e → e.motion = .run dir → d.revPulse = 11 →
    ∃ t : State, exec (.tachEdge p) s = .next t ∧ s.SameElsewhere t p ∧ t.pool = s.pool ∧ t.link = s.link ∧
      (t.unit p).drum.twist = twist ∧ (t.unit p).drum.revPulse = 0 ∧ (t.unit p).drum.revPeriods = [] ∧
      (t.unit p).drum.revNumber = min 65535 (d.revNumber + 1) ∧
      (∀ hi lo : Nat, counted → d.revPeriods.length = 11 → (∀ x ∈ periods, 1 ≤ x ∧ x ≤ 65535) →
        hi ∈ periods → lo ∈ periods → (∀ x ∈ periods, lo ≤ x ∧ x ≤ hi) →
        let u := min 1023 ((hi - lo) * 256 / mean)
        (g'.imbalanceThreshold < u → d.imbalanceRun + 1 = g'.imbalanceRevs →
          (s.unit p).InterruptedBy .imbalance g e dir twist (t.unit p)) ∧
        (g'.imbalanceThreshold < u → d.imbalanceRun + 1 ≠ g'.imbalanceRevs → ¬twists →
          (t.unit p).drum.imbalanceRun = d.imbalanceRun + 1 ∧ (t.unit p).drum.unwind = none ∧
          (t.unit p).drum.state = .turning) ∧
        (u ≤ g'.imbalanceThreshold → ¬twists →
          (t.unit p).drum.imbalanceRun = 0 ∧ (t.unit p).drum.unwind = none ∧ (t.unit p).drum.state = .turning) ∧
        ((u ≤ g'.imbalanceThreshold ∨ d.imbalanceRun + 1 ≠ g'.imbalanceRevs) → twists →
          (s.unit p).InterruptedBy .twist g e dir twist (t.unit p))) ∧
      (¬counted → ¬twists →
        (t.unit p).drum.imbalanceRun = d.imbalanceRun ∧ (t.unit p).drum.unwind = none ∧
        (t.unit p).drum.state = .turning) ∧
      (¬counted → twists → (s.unit p).InterruptedBy .twist g e dir twist (t.unit p))

/-- The capture count passing 65,535: the speed is 0, a drum TURNING at a commanded speed keeps TURNING with its speed-loss
timer running, and a STARTING one stays STARTING (4.3, 4.4). -/
def Obligations.CaptureOverflowZeroesSpeed : Prop :=
  ∀ (p : Pocket) (s : State), 65535 < (s.unit p).drum.tachCount → (s.unit p).drum.tachPassed = false →
    ∃ t : State, exec (.tachoCaptureOverflow p) s = .next t ∧ s.SameElsewhere t p ∧ t.pool = s.pool ∧ t.link = s.link ∧
      (t.unit p).drum.speed = 0 ∧ (t.unit p).drum.tachPassed = true ∧
      (0 < (s.unit p).drum.commanded → (t.unit p).drum.state = (s.unit p).drum.state) ∧
      ((s.unit p).drum.state = .turning → 0 < (s.unit p).drum.commanded →
        (t.unit p).drum.speedLossTimer = some ((s.unit p).drum.speedLossTimer.getD 0)) ∧
      (t.unit p).drum.dir = (s.unit p).drum.dir ∧ (t.unit p).drum.twist = (s.unit p).drum.twist ∧
      (t.unit p).drum.quiet = (s.unit p).drum.quiet ∧ (t.unit p).seq = (s.unit p).seq ∧
      (t.unit p).moist = (s.unit p).moist ∧ (t.unit p).heat = (s.unit p).heat

/-- The end of an unwind step: a revolution completed since its assertion is counted, and one before is not; at its required
revolutions, or at 120 s from its assertion, the step ends and the cursor moves to the entry after the interrupted one, a new
step following only from a twist trigger; at the end of the loosen dwell a STOPPED drum settles for the unwind's direction, with
the time it has stood (5.5; the time stood: the model's choice, entry 20). -/
def Obligations.UnwindStepEnds : Prop :=
  (∀ (p : Pocket) (w : Unwind) (g : Segment) (s : State), (s.unit p).drum.unwind = some w → (s.unit p).drum.revPulse = 11 →
    (s.unit p).drum.segment = some g →
    ∃ t : State, exec (.tachEdge p) s = .next t ∧ s.SameElsewhere t p ∧ t.pool = s.pool ∧ t.link = s.link ∧
      (t.unit p).drum.twist = twistStep (s.unit p).drum.dir (s.unit p).drum.twist ∧ (t.unit p).seq = (s.unit p).seq ∧
      (w.asserted = false → (t.unit p).drum.unwind = some w ∧ (t.unit p).drum.segment = some g) ∧
      (w.asserted = true → w.completed + 1 < w.required →
        (t.unit p).drum.unwind = some { w with completed := w.completed + 1 } ∧ (t.unit p).drum.segment = some g) ∧
      (w.asserted = true → w.required ≤ w.completed + 1 →
        (t.unit p).drum.segment =
          some { g with cursor := if g.cursor = g.last then g.first else g.cursor + 1 } ∧
        (t.unit p).drum.imbalanceRun = 0 ∧
        ((t.unit p).drum.unwind = none ∨ ∃ w' : Unwind, (t.unit p).drum.unwind = some w' ∧ w'.trigger = .twist ∧
          w'.stage = .stop ∧ some w'.interrupted = (t.unit p).drum.segment.map Segment.cursor))) ∧
  (∀ (p : Pocket) (w : Unwind) (g : Segment) (s : State), (s.unit p).drum.unwind = some w → w.stage = .run →
    w.asserted = true → 120000000 ≤ w.timer → (s.unit p).drum.segment = some g →
    ∃ t : State, exec (.unwindBoundExpiry p) s = .next t ∧ s.SameElsewhere t p ∧ t.pool = s.pool ∧ t.link = s.link ∧
      (t.unit p).drum.segment =
        some { g with cursor := if g.cursor = g.last then g.first else g.cursor + 1 } ∧
      (t.unit p).drum.imbalanceRun = 0 ∧
      ((t.unit p).drum.unwind = none ∨ ∃ w' : Unwind, (t.unit p).drum.unwind = some w' ∧ w'.trigger = .twist ∧
        w'.stage = .stop ∧ some w'.interrupted = (t.unit p).drum.segment.map Segment.cursor) ∧
      (t.unit p).drum.twist = (s.unit p).drum.twist ∧ (t.unit p).seq = (s.unit p).seq) ∧
  (∀ (p : Pocket) (w : Unwind) (s : State), (s.unit p).drum.unwind = some w → w.stage = .loosen →
    (s.unit p).seq.work.tangle.loosenDwell * 1000000 ≤ w.timer → (s.unit p).drum.state = .stopped →
    (s.unit p).drum.dir ≠ w.dir →
    ∃ t : State, exec (.loosenDwellExpiry p) s = .next t ∧ s.SameElsewhere t p ∧ t.pool = s.pool ∧ t.link = s.link ∧
      (t.unit p).drum.unwind = some { w with stage := .run } ∧ (t.unit p).drum.state = .settle ∧
      (t.unit p).drum.pendingDir = some w.dir ∧ (t.unit p).drum.settleTimer = some ((s.unit p).drum.settleTimer.getD 0) ∧
      (t.unit p).drum.dir = (s.unit p).drum.dir ∧ (t.unit p).seq = (s.unit p).seq ∧
      (t.unit p).heat = (s.unit p).heat)

/-- The confirmation of a stop at 800 ms of quiet: SETTLE with a pending direction, STOPPED without; an unwind step that
waited for it goes on to its dwell, or to the standstill before its run. A later edge on the drum at rest puts it back to
STOPPING with the stop timer from 0, a pending direction being kept (4.4, 5.5). That a drum which
enters STOPPING already quiet is confirmed at once is the model's reading (entry 15), and so is that the standstill counts from
the confirmation in STOPPED too (entry 20). -/
def Obligations.StopConfirmedAndDisturbed : Prop :=
  (∀ (p : Pocket) (s : State), (s.unit p).drum.state = .stopping → 800000 ≤ (s.unit p).drum.quiet →
    ∃ t : State, exec (.stopConfirmed p) s = .next t ∧ s.SameElsewhere t p ∧ t.pool = s.pool ∧ t.link = s.link ∧
      (t.unit p).drum.stopTimer = none ∧ (t.unit p).drum.dir = (s.unit p).drum.dir ∧
      (t.unit p).drum.twist = (s.unit p).drum.twist ∧ (t.unit p).seq = (s.unit p).seq ∧
      (∀ d : Dir, (s.unit p).drum.pendingDir = some d → (t.unit p).drum.state = .settle ∧
        (t.unit p).drum.settleTimer = some 0 ∧ (t.unit p).drum.pendingDir = some d) ∧
      ((s.unit p).drum.pendingDir = none → (s.unit p).drum.unwind = none →
        (t.unit p).drum.state = .stopped ∧ (t.unit p).drum.settleTimer = some 0) ∧
      (∀ w : Unwind, (s.unit p).drum.pendingDir = none → (s.unit p).drum.unwind = some w → w.stage = .stop →
        if w.trigger = .imbalance ∧ (s.unit p).seq.work.tangle.loosenDwell ≠ 0 then
          (t.unit p).drum.state = .stopped ∧ (t.unit p).drum.unwind = some { w with stage := .loosen, timer := 0 }
        else w.dir ≠ (s.unit p).drum.dir → (t.unit p).drum.state = .settle ∧
          (t.unit p).drum.pendingDir = some w.dir ∧ (t.unit p).drum.unwind = some { w with stage := .run })) ∧
  (∀ (p : Pocket) (s : State), ((s.unit p).drum.state = .stopped ∨ (s.unit p).drum.state = .settle) →
    (∀ w : Unwind, (s.unit p).drum.unwind = some w → w.asserted = false) →
    ∃ t : State, exec (.tachEdge p) s = .next t ∧ (t.unit p).drum.state = .stopping ∧
      (t.unit p).drum.stopTimer = some 0 ∧ (t.unit p).drum.pendingDir = (s.unit p).drum.pendingDir ∧
      (t.unit p).drum.runOutput = false ∧ ((s.unit p).drum.state = .settle → (t.unit p).drum.settleTimer = none))

/-- The expiry of the standstill: DIR takes the pending direction and a direction assertion is made for the run that waits
(4.4, 8.7). That the start reserve opens with the start reserve cycles of a CONFIGURE before its first zero-cross too is the
model's choice (entry 24). -/
def Obligations.StandstillExpiryAssertsDirection : Prop :=
  ∀ (p : Pocket) (dir : Dir) (n : Nat) (s : State), (s.unit p).drum.state = .settle →
    (s.unit p).drum.pendingDir = some dir → (s.unit p).drum.settleTimer = some n → 300000 ≤ n →
    ∃ t : State, exec (.standstillExpiry p) s = .next t ∧ s.SameElsewhere t p ∧ t.pool = s.pool ∧ t.link = s.link ∧
      (t.unit p).drum.dir = dir ∧ (t.unit p).drum.state = .starting ∧ (t.unit p).drum.pendingDir = none ∧
      (t.unit p).drum.startTimer = some 0 ∧ (t.unit p).drum.settleTimer = none ∧
      (t.unit p).heat.reserve = s.supply.config.reserveCycles ∧ (t.unit p).drum.revPulse = 0 ∧
      (t.unit p).drum.revNumber = 0 ∧ (t.unit p).drum.revPeriods = [] ∧ (t.unit p).drum.imbalanceRun = 0 ∧
      (t.unit p).drum.twist = (s.unit p).drum.twist ∧ (t.unit p).seq = (s.unit p).seq ∧
      (∀ (g : Segment) (e : MotionEntry), (s.unit p).drum.unwind = none → (s.unit p).drum.segment = some g →
        (s.unit p).drum.table[g.cursor] = e →
        (t.unit p).drum.speedReference = e.speed ∧ (t.unit p).drum.entryTime = some 0) ∧
      (∀ w : Unwind, (s.unit p).drum.unwind = some w →
        (t.unit p).drum.speedReference = w.speed ∧
        (t.unit p).drum.unwind = some { w with asserted := true, completed := 0, timer := 0 })

/-- The expiry of an entry's duration: the cursor moves to the next entry, from the last back to the first, which begins
with the drum as it stands. A DWELL stops the drum. A run entry of the asserted direction goes on at the new speed in
STARTING and TURNING, or is interrupted there by its twist, and is asserted in the other states; one of the other direction
stops the drum and waits for the reversal, or settles (4.2, 4.4, 4.5, 5.4). A wait in STOPPING is bounded by the stop timer
(4.7); that it starts one where there is none is the model's choice (entry 18), and so is that a STOPPED drum settles with
the time it has stood (entry 20), and that an assertion opens the start reserve with the start reserve cycles of a CONFIGURE
before its first zero-cross too (entry 24). -/
def Obligations.EntryExpiryMovesCursor : Prop :=
  ∀ (p : Pocket) (g : Segment) (n : Nat) (s : State), (s.unit p).drum.order = .runSegment →
    (s.unit p).drum.unwind = none → (s.unit p).drum.segment = some g → (s.unit p).drum.entryTime = some n →
    (s.unit p).drum.table[g.cursor].duration * 500000 ≤ n →
    let d := (s.unit p).drum
    let next : EntryNo := if g.cursor = g.last then g.first else g.cursor + 1
    let e := d.table[next]
    ∃ t : State, exec (.entryDurationExpiry p) s = .next t ∧ s.SameElsewhere t p ∧ t.pool = s.pool ∧ t.link = s.link ∧
      (t.unit p).drum.segment = some { g with cursor := next } ∧
      (t.unit p).drum.dir = d.dir ∧ (t.unit p).drum.twist = d.twist ∧
      (t.unit p).drum.table = d.table ∧ (t.unit p).seq = (s.unit p).seq ∧
      (t.unit p).moist = (s.unit p).moist ∧
      (e.motion = .dwell → (t.unit p).drum.runOutput = false ∧ (t.unit p).drum.entryTime = some 0 ∧
        (t.unit p).drum.state = (if d.state = .settle ∨ d.state = .stopped then .stopped else .stopping) ∧
        (d.state ≠ .stopped → (t.unit p).drum.pendingDir = none)) ∧
      (∀ dir : Dir, e.motion = .run dir →
        let twists : Prop := d.state = .turning ∧ (s.unit p).seq.work.tangle.twistLimit ≠ 0 ∧
          (s.unit p).seq.work.tangle.twistLimit ≤ d.twist.natAbs ∧ (dir = .fwd ∧ 0 < d.twist ∨ dir = .rev ∧ d.twist < 0)
        ((d.state = .starting ∨ d.state = .turning) → dir = d.dir →
          (¬twists → (t.unit p).drum.state = d.state ∧ (t.unit p).drum.commanded = e.speed ∧
            (t.unit p).drum.speedReference = e.speed ∧ (t.unit p).drum.entryTime = some 0 ∧
            (t.unit p).drum.startTimer = d.startTimer ∧ (t.unit p).drum.revPulse = d.revPulse ∧
            (t.unit p).drum.unwind = none ∧ (t.unit p).heat = (s.unit p).heat) ∧
          (twists → (t.unit p).drum.state = .stopping ∧ (t.unit p).drum.runOutput = false ∧
            ∃ w : Unwind, (t.unit p).drum.unwind = some w ∧ w.trigger = .twist ∧ w.interrupted = next ∧
              w.dir = dir.opposite ∧ w.speed = e.speed ∧ w.stage = .stop)) ∧
        ((d.state = .starting ∨ d.state = .turning) → dir ≠ d.dir →
          (t.unit p).drum.state = .stopping ∧ (t.unit p).drum.pendingDir = some dir ∧
          (t.unit p).drum.runOutput = false ∧ (t.unit p).drum.entryTime = none ∧ (t.unit p).drum.stopTimer = some 0 ∧
          (t.unit p).drum.unwind = none) ∧
        ((d.state = .stopping ∨ d.state = .stopped ∨ d.state = .settle) → dir = d.dir →
          (t.unit p).drum.state = .starting ∧ (t.unit p).drum.speedReference = e.speed ∧
          (t.unit p).drum.pendingDir = none ∧ (t.unit p).drum.startTimer = some 0 ∧
          (t.unit p).drum.entryTime = some 0 ∧ (t.unit p).heat.reserve = s.supply.config.reserveCycles ∧
          (t.unit p).drum.revPulse = 0 ∧ (t.unit p).drum.unwind = none) ∧
        (d.state = .stopping → dir ≠ d.dir →
          (t.unit p).drum.state = .stopping ∧ (t.unit p).drum.pendingDir = some dir ∧
          (t.unit p).drum.entryTime = none ∧ (t.unit p).drum.stopTimer = some (d.stopTimer.getD 0)) ∧
        (d.state = .stopped → dir ≠ d.dir →
          (t.unit p).drum.state = .settle ∧ (t.unit p).drum.pendingDir = some dir ∧
          (t.unit p).drum.settleTimer = some (d.settleTimer.getD 0) ∧ (t.unit p).drum.entryTime = none) ∧
        (d.state = .settle → dir ≠ d.dir →
          (t.unit p).drum.state = .settle ∧ (t.unit p).drum.pendingDir = some dir ∧
          (t.unit p).drum.settleTimer = d.settleTimer ∧ (t.unit p).drum.entryTime = none))

/-- A DRIVE condition that is met: in RUNNING, HELD, SAFE and PAUSED the drum is stopped, DRIVE is latched and the pocket
halts; in any other state its timer alone is discarded (4.7, 2.9, 9.1). -/
def Obligations.DriveConditionHaltsPocket : Prop :=
  ∀ (p : Pocket) (c : Instr) (s : State),
    ((c = .startTimeout p ∧ (s.unit p).drum.startDue = true) ∨
      (c = .speedLossTimeout p ∧ (s.unit p).drum.speedLossDue = true) ∨
      (c = .stopTimeout p ∧ (s.unit p).drum.stopLimitDue = true)) →
    ((s.unit p).seq.run.engaged = true → (s.unit p).faults.drive = false →
      ∃ t : State, exec c s = .next t ∧ s.SameElsewhere t p ∧ t.link = s.link ∧
        (t.unit p).seq.run = .halted ∧ (t.unit p).faults = (s.unit p).faults.put .drive true ∧
        (t.unit p).notices.faultLatched = true ∧ (t.unit p).seq.work.active = none ∧
        (t.unit p).seq.work.quals = Quals.none ∧ (t.unit p).seq.held = false ∧ (t.unit p).seq.restored = false ∧
        (t.unit p).seq.unattended = false ∧ (t.unit p).seq.safeBegun = false ∧ (t.unit p).seq.fanRunOn = 120 ∧
        (s.unit p).drum.StoppedFrom (t.unit p).drum ∧ (t.unit p).drum.segment = none ∧ (t.unit p).heat.IsOff ∧
        (t.unit p).moist.window = none ∧
        (∀ k : Checkpoint, (s.unit p).seq.newest = some k → k.outcome = none →
          (t.unit p).seq.newest = some { k with outcome := some .faulted } ∧ (t.unit p).notices.phaseEnd = true)) ∧
    ((s.unit p).seq.run.engaged = false →
      ∃ t : State, exec c s = .next t ∧ s.SameElsewhere t p ∧ t.pool = s.pool ∧ t.link = s.link ∧
        (t.unit p).seq = (s.unit p).seq ∧ (t.unit p).faults = (s.unit p).faults ∧
        (t.unit p).notices = (s.unit p).notices ∧ (t.unit p).drum.state = (s.unit p).drum.state ∧
        (c = .startTimeout p → (t.unit p).drum.startTimer = none) ∧
        (c = .speedLossTimeout p → (t.unit p).drum.speedLossTimer = none) ∧
        (c = .stopTimeout p → (t.unit p).drum.stopTimer = none))

/-- The DIR output of a drum changes only in SETTLE, at the expiry of the 300 ms standstill, when it takes the pending
direction; power-on sets it to FWD (4.4). The passing of a microsecond (entry 2) never changes it. -/
def Obligations.DirChangesOnlyAtStandstill : Prop :=
  (∀ (c : Instr) (p : Pocket) (s t : State), exec c s = .next t → (t.unit p).drum.dir ≠ (s.unit p).drum.dir →
    (c = .standstillExpiry p ∧ (s.unit p).drum.state = .settle ∧ (s.unit p).drum.pendingDir = some (t.unit p).drum.dir ∧
      ∃ n : Nat, (s.unit p).drum.settleTimer = some n ∧ 300000 ≤ n) ∨
    c = .powerOn) ∧
  (∀ (p : Pocket) (s t : State), exec .powerOn s = .next t → (t.unit p).drum.dir = .fwd) ∧
  (∀ (p : Pocket) (s : State), (s.tick.unit p).drum.dir = (s.unit p).drum.dir)

/-! ## The Moisture Sense Unit (chapter 6) -/

/-- CAL_MOISTURE in every case, in the order of its checks: the first part starts with the capture restarted (6.2). -/
def Obligations.CalMoistureByCases : Prop :=
  ∀ (b : Byte) (s : State),
    (∀ p : Pocket, pocketOf b = some p →
      exec (.calMoisture b) s = .next
        (if (s.unit p).seq.run ≠ .idle ∧ (s.unit p).seq.run ≠ .done ∧ (s.unit p).seq.run ≠ .halted then
          s.reply 0x03 .busy []
        else if (s.unit p).moist.calibration ≠ none then s.reply 0x03 .busy []
        else (s.onUnit p fun u => { u with moist := { u.moist with
            capture := 0, calibration := some { part := .isolated, elapsed := 0, edges := 0, ticks := 0 } } }).reply 0x03
          .ok [])) ∧
    (2 ≤ b.toNat → exec (.calMoisture b) s = .next (s.reply 0x03 .badRequest []))

/-- A period that ends, by an edge with the count at 1 or more or by the count reaching 65,535, is delivered to the
calibration part or to the window, and the capture restarts; an edge at count 0 does nothing (6.1, 6.3). -/
def Obligations.MoisturePeriodsDelivered : Prop :=
  ∀ (p : Pocket) (n : Nat) (s : State), (s.unit p).moist.capture = n →
    (n = 0 → exec (.mpulseEdge p) s = .next s) ∧
    (∀ w : SenseWindow, 1 ≤ n → (s.unit p).moist.calibration = none → (s.unit p).moist.window = some w →
      exec (.mpulseEdge p) s = .next (s.onUnit p fun u => { u with moist := { u.moist with
        capture := 0
        window := some { w with
          totalTicks := w.totalTicks + n
          weighted := w.weighted +
            (if (s.unit p).moist.valid = true ∧ n < s.supply.config.openLimit then
              (if 1000000 / max n 250 ≤ (s.unit p).moist.gOpen then 0
              else min 2047 ((1000000 / max n 250 - (s.unit p).moist.gOpen) * 1024 /
                ((s.unit p).moist.gRef - (s.unit p).moist.gOpen))) * n
            else 0) } } })) ∧
    (∀ c : Calibration, 1 ≤ n → (s.unit p).moist.calibration = some c →
      exec (.mpulseEdge p) s = .next (s.onUnit p fun u => { u with moist := { u.moist with
        capture := 0, calibration := some { c with ticks := c.ticks + n, edges := c.edges + 1 } } })) ∧
    (∀ w : SenseWindow, n = 65535 → (s.unit p).moist.calibration = none → (s.unit p).moist.window = some w →
      exec (.forcedOpenPeriod p) s = .next (s.onUnit p fun u => { u with moist := { u.moist with
        capture := 0, window := some { w with totalTicks := w.totalTicks + 65535 } } })) ∧
    (∀ c : Calibration, n = 65535 → (s.unit p).moist.calibration = some c →
      exec (.forcedOpenPeriod p) s = .next (s.onUnit p fun u => { u with moist := { u.moist with
        capture := 0, calibration := some { c with ticks := c.ticks + 65535 } } })) ∧
    ((s.unit p).moist.calibration = none → (s.unit p).moist.window = none →
      (1 ≤ n → exec (.mpulseEdge p) s = .next (s.onUnit p fun u => { u with moist := { u.moist with capture := 0 } })) ∧
      (n = 65535 →
        exec (.forcedOpenPeriod p) s = .next (s.onUnit p fun u => { u with moist := { u.moist with capture := 0 } })))

/-- The ends of the two calibration parts: the first part's rate is kept and the second starts; at the second's end the pair
is put in force with CAL_DONE if it passes, and CAL_FAIL is raised if not. The period still in progress is not counted, and
one that has reached 65,535 ticks has ended and is: with the periods counted following one another from the part's start, at
least 934,466 ticks are gathered (6.1, 6.2). -/
def Obligations.CalibrationPartsEnd : Prop :=
  (∀ (p : Pocket) (c : Calibration) (s : State), (s.unit p).moist.calibration = some c → c.part = .isolated →
    1000000 ≤ c.elapsed → (s.unit p).moist.capture = 65535 →
    exec (.calIsolatedPartEnd p) s = .next (s.onUnit p fun u => { u with moist := { u.moist with
      capture := 0
      calibration := some { part := .reference (1000000 * c.edges / (c.ticks + 65535)), elapsed := 0, edges := 0,
                            ticks := 0 } } })) ∧
  (∀ (p : Pocket) (c : Calibration) (s : State), (s.unit p).moist.calibration = some c → c.elapsed = 1000000 →
    c.ticks + (s.unit p).moist.capture = c.elapsed → (s.unit p).moist.capture ≤ 65535 →
    ∃ c' : Calibration, ((s.unit p).moist.settled s.supply.config.openLimit).calibration = some c' ∧
      c'.edges = c.edges ∧ 934466 ≤ c'.ticks ∧ c'.ticks ≤ 1000000) ∧
  (∀ (p : Pocket) (c : Calibration) (s : State), (s.unit p).moist.calibration = some c → c.part = .isolated →
    1000000 ≤ c.elapsed → (s.unit p).moist.capture < 65535 →
    exec (.calIsolatedPartEnd p) s = .next (s.onUnit p fun u => { u with moist := { u.moist with
      capture := 0
      calibration := some { part := .reference (1000000 * c.edges / c.ticks), elapsed := 0, edges := 0, ticks := 0 } } })) ∧
  (∀ (p : Pocket) (c : Calibration) (g h : Nat) (s : State), (s.unit p).moist.calibration = some c →
    c.part = .reference g → 1000000 ≤ c.elapsed → (s.unit p).moist.capture ≤ 65535 →
    1000000 * c.edges / (if (s.unit p).moist.capture = 65535 then c.ticks + 65535 else c.ticks) = h →
    ∃ t : State, exec (.calComplete p) s = .next t ∧ s.SameElsewhere t p ∧ t.pool = s.pool ∧ t.link = s.link ∧
      (t.unit p).moist.calibration = none ∧
      (t.unit p).moist.lineA = false ∧ (t.unit p).moist.lineB = false ∧
      (t.unit p).moist.estimate = (s.unit p).moist.estimate ∧ (t.unit p).seq = (s.unit p).seq ∧
      (t.unit p).drum = (s.unit p).drum ∧ (t.unit p).faults = (s.unit p).faults ∧
      (if g + 100 ≤ h ∧ h ≤ 4000 then
        (t.unit p).moist.gOpen = g ∧ (t.unit p).moist.gRef = h ∧ (t.unit p).moist.valid = true ∧
        (t.unit p).moist.lastAttempt = some { gOpen := g, gRef := h, passed := true } ∧
        (t.unit p).notices = (s.unit p).notices.add .calDone
      else
        (t.unit p).moist.gOpen = (s.unit p).moist.gOpen ∧ (t.unit p).moist.gRef = (s.unit p).moist.gRef ∧
        (t.unit p).moist.valid = (s.unit p).moist.valid ∧
        (t.unit p).moist.lastAttempt = some { gOpen := g, gRef := h, passed := false } ∧
        (t.unit p).notices = (s.unit p).notices.add .calFail))

/-- The end of a window that closes no phase: reading, estimate, sequence, trend record, and the next window (6.3, 6.4,
6.7). -/
def Obligations.WindowEndUpdatesEstimate : Prop :=
  ∀ (p : Pocket) (w : SenseWindow) (s : State), (s.unit p).moist.window = some w → w.length ≤ w.elapsed →
    ((s.unit p).seq.run = .held ∨ (s.unit p).seq.work.kind ≠ .dry ∨ (s.unit p).seq.work.timedOnly = true ∨
      w.turning * 2 < w.length) →
    ∃ t : State, exec (.windowEnd p) s = .next t ∧ t.unit (otherPocket p) = s.unit (otherPocket p) ∧ t.pool = s.pool ∧
      t.temps = s.temps ∧ t.supply = s.supply ∧ t.link = s.link ∧
      (t.unit p).seq = (s.unit p).seq ∧ (t.unit p).drum = (s.unit p).drum ∧ (t.unit p).heat = (s.unit p).heat ∧
      (t.unit p).moist.sequence = ((s.unit p).moist.sequence + 1) % 65536 ∧
      (if (s.unit p).moist.valid = true ∧ w.length ≤ w.turning * 2 then
        (t.unit p).moist.lastReading = some (w.weighted / w.totalTicks) ∧
        ((s.unit p).moist.estimate = none → (t.unit p).moist.estimate = some (w.weighted / w.totalTicks * 16)) ∧
        (∀ e : Nat, (s.unit p).moist.estimate = some e →
          (t.unit p).moist.estimate = some ((e : Int) + Int.tdiv (((w.weighted / w.totalTicks : Nat) : Int) * 16 - (e : Int))
            (2 ^ (s.unit p).seq.work.dry.k : Nat)).toNat)
      else
        (t.unit p).moist.lastReading = (s.unit p).moist.lastReading ∧
        (t.unit p).moist.estimate = (s.unit p).moist.estimate) ∧
      (t.unit p).moist.window = some { length := (s.unit p).seq.work.dry.window * 100000, elapsed := 0, turning := 0,
                                       totalTicks := 0, weighted := 0 } ∧
      { buffer := t.trend, device := t.device : TrendView } =
        TrendView.write
          { pocket := p, slot := (s.unit p).seq.work.active.getD 0,
            ordinal := ((s.unit p).seq.newest.map Checkpoint.ordinal).getD 0, sequence := (t.unit p).moist.sequence,
            reading := if (s.unit p).moist.valid then
                if w.turning * 2 < w.length then .void else .measured (w.weighted / w.totalTicks)
              else .absent,
            estimate := (t.unit p).moist.estimate, inlet := (s.temps.channel (inletChannel p)).reading,
            exhaust := (s.temps.channel (exhaustChannel p)).reading, drum := (s.unit p).drum.state,
            twist := (s.unit p).drum.twist, granted := (s.unit p).heat.grantedLast }
          { buffer := s.trend, device := s.device }

/-- A window handed to the dry decision, in RUNNING and in SAFE: before the minimum time the counter stays; after it the
counter goes up or back to 0; at the confirm value the phase closes DRY, and the pocket is HELD under HOLD_AT_END in RUNNING
(the silence timer has not expired), and without it, or in SAFE, the chain advances, to DONE at its end, and along next to
the slot it names, whose activation passes or fails. The window takes its sequence number, and its trend record is formed
before the close (6.3, 6.5, 6.7, 10.1, 2.4, 1.5, 2.8). A write that races with the activation is taken as log entry 19 has it,
and none between a failed activation and the anchor's (entry 23). -/
def Obligations.DryDecisionClosesPhase : Prop :=
  ∀ (p : Pocket) (w : SenseWindow) (c : Checkpoint) (m : Nat) (E : Option Nat) (s : State),
    (s.unit p).moist.window = some w → w.length ≤ w.elapsed → w.length ≤ w.turning * 2 →
    ((s.unit p).seq.run = .running ∨ (s.unit p).seq.run = .safe) → (s.unit p).seq.newest = some c → c.outcome = none →
    (s.unit p).seq.work.kind = .dry → (s.unit p).seq.work.timedOnly = false → w.weighted / w.totalTicks = m →
    E = (if (s.unit p).moist.valid then some (nextEstimate (s.unit p).seq.work.dry.k m (s.unit p).moist.estimate)
      else (s.unit p).moist.estimate) →
    let u := s.unit p
    let past : Prop := u.seq.work.dry.minTime * 1000000 < u.seq.phaseTimer
    let met : Prop := ∃ e : Nat, E = some e ∧ e ≤ u.seq.work.dry.target * 16
    let closes : Prop := past ∧ met ∧ min 15 (u.seq.confirm + 1) = u.seq.work.dry.confirm
    let advances : Prop := (u.seq.run = .running ∧ u.seq.work.quals.holdAtEnd = false) ∨ u.seq.run = .safe
    ∃ t : State, exec (.windowEnd p) s = .next t ∧ t.unit (otherPocket p) = s.unit (otherPocket p) ∧ t.temps = s.temps ∧
      t.supply = s.supply ∧ t.link = s.link ∧
      (t.unit p).moist.sequence = (u.moist.sequence + 1) % 65536 ∧
      (t.unit p).moist.lastReading = (if u.moist.valid then some m else u.moist.lastReading) ∧
      { buffer := t.trend, device := t.device : TrendView } =
        TrendView.write
          { pocket := p, slot := u.seq.work.active.getD 0, ordinal := c.ordinal,
            sequence := (u.moist.sequence + 1) % 65536, reading := if u.moist.valid then .measured m else .absent, estimate := E,
            inlet := (s.temps.channel (inletChannel p)).reading, exhaust := (s.temps.channel (exhaustChannel p)).reading,
            drum := u.drum.state, twist := u.drum.twist, granted := u.heat.grantedLast }
          { buffer := s.trend, device := s.device } ∧
      (¬closes → t.pool = s.pool ∧ (t.unit p).drum = u.drum ∧ (t.unit p).heat = u.heat ∧ (t.unit p).faults = u.faults ∧
        (t.unit p).notices = u.notices ∧ (t.unit p).moist.estimate = E ∧
        (t.unit p).moist.window = some { length := u.seq.work.dry.window * 100000, elapsed := 0, turning := 0,
                                         totalTicks := 0, weighted := 0 } ∧
        (¬past → (t.unit p).seq = u.seq) ∧
        (past → ¬met → (t.unit p).seq = { u.seq with confirm := 0 }) ∧
        (past → met → (t.unit p).seq = { u.seq with confirm := min 15 (u.seq.confirm + 1) })) ∧
      (closes → u.seq.run = .running → u.seq.work.quals.holdAtEnd = true → s.link.silenceExpired = false →
        t.pool = s.pool ∧ (t.unit p).seq.run = .held ∧ (t.unit p).seq.confirm = u.seq.work.dry.confirm ∧
        (t.unit p).seq.newest = some { c with outcome := some .dry } ∧ (t.unit p).moist.estimate = E ∧
        (t.unit p).moist.window.isSome = true ∧ (t.unit p).notices.phaseEnd = true ∧ (t.unit p).notices.held = true ∧
        (t.unit p).heat.IsOff ∧ (t.unit p).faults = u.faults) ∧
      (closes → advances → u.seq.work.next = none →
        (t.unit p).seq.run = .done ∧ (t.unit p).seq.work.active = none ∧ (t.unit p).notices.phaseEnd = true ∧
        (t.unit p).notices.chainDone = true ∧ (t.unit p).moist.estimate = E ∧
        (t.unit p).seq.newest = some { c with outcome := some .dry }) ∧
      (∀ i : SlotNo, closes → advances → u.seq.work.next = some i → s.AdvancedTo t p (s.eventEnv p) .dry c i E)

/-! ## Requests that are refused (chapters 2 and 3) -/

/-- The results of the pocket requests that are refused: for a pocket code of 2 or more, a slot above 47, a step count above
7, by the pocket's state, by its history and the record it would run, each before any later check (2.2, 2.5 to 2.7, 3.4,
3.5, 1.5). -/
def Obligations.PocketRequestsRefusedByState : Prop :=
  (∀ (b x : Byte) (s : State), 2 ≤ b.toNat →
    exec (.start b x) s = .next (s.reply 0x10 .badRequest []) ∧ exec (.pause b) s = .next (s.reply 0x11 .badRequest []) ∧
    exec (.resume b) s = .next (s.reply 0x12 .badRequest []) ∧ exec (.advance b) s = .next (s.reply 0x13 .badRequest []) ∧
    exec (.backstep b x) s = .next (s.reply 0x14 .badRequest []) ∧
    exec (.abort b) s = .next (s.reply 0x15 .badRequest []) ∧
    exec (.getHistory b) s = .next (s.reply 0x21 .badRequest [])) ∧
  (∀ (b x : Byte) (s : State),
    (48 ≤ x.toNat → exec (.start b x) s = .next (s.reply 0x10 .badRequest [])) ∧
    (8 ≤ x.toNat → exec (.backstep b x) s = .next (s.reply 0x14 .badRequest []))) ∧
  ∀ (b x : Byte) (p : Pocket) (i : SlotNo) (s : State), pocketOf b = some p → slotOf x = some i →
    ((s.unit p).seq.run ≠ .idle ∧ (s.unit p).seq.run ≠ .done → exec (.start b x) s = .next (s.reply 0x10 .busy [])) ∧
    (((s.unit p).seq.run = .idle ∨ (s.unit p).seq.run = .done) →
      (s.supply.configured = false ∨ (s.unit p).seq.anchor = none →
        exec (.start b x) s = .next (s.reply 0x10 .notReady [])) ∧
      (s.supply.configured = true → (s.unit p).seq.anchor ≠ none →
        ((s.unit p).faults ≠ FaultSet.none → exec (.start b x) s = .next (s.reply 0x10 .faulted [])) ∧
        ((s.unit p).faults = FaultSet.none →
          ((s.unit p).pins.door = false → exec (.start b x) s = .next (s.reply 0x10 .doorOpen [])) ∧
          ((s.unit p).pins.door = true →
            ((s.unit p).moist.calibration ≠ none → exec (.start b x) s = .next (s.reply 0x10 .busy [])) ∧
            ((s.unit p).moist.calibration = none → (s.unit p).seq.work.active = none →
              (s.pool[i] = .empty → exec (.start b x) s = .next (s.reply 0x10 .badRequest [])) ∧
              (s.pool[i].isActive = true → exec (.start b x) s = .next (s.reply 0x10 .inUse [])) ∧
              (∀ r : PhaseRecord, s.pool[i] = .loaded r →
                (r.segLast < r.segFirst ∨ ∃ j : EntryNo, r.segFirst ≤ j ∧ j ≤ r.segLast ∧
                  (s.unit p).drum.table[j].written = false) →
                exec (.start b x) s = .next (s.reply 0x10 .badRequest []))))))) ∧
    ((s.unit p).seq.run = .paused → exec (.pause b) s = .next (s.reply 0x11 .busy [])) ∧
    ((s.unit p).seq.run.engaged = false → exec (.pause b) s = .next (s.reply 0x11 .notAvailable []) ∧
      exec (.abort b) s = .next (s.reply 0x15 .notAvailable [])) ∧
    ((s.unit p).seq.run ≠ .paused → exec (.resume b) s = .next (s.reply 0x12 .busy [])) ∧
    ((s.unit p).seq.run = .paused → (s.unit p).pins.door = false →
      exec (.resume b) s = .next (s.reply 0x12 .doorOpen [])) ∧
    ((s.unit p).seq.run.drives = false → exec (.advance b) s = .next (s.reply 0x13 .busy [])) ∧
    ((s.unit p).seq.run = .safe ∨ ((s.unit p).seq.run = .paused ∧ (s.unit p).seq.resumeTarget = .safe) →
      exec (.abort b) s = .next (s.reply 0x15 .busy [])) ∧
    (x.toNat ≤ 7 →
      ((s.unit p).seq.run = .running ∨ (s.unit p).seq.run = .safe ∨
          ((s.unit p).seq.run = .paused ∧ (s.unit p).seq.resumeTarget = .safe) →
        exec (.backstep b x) s = .next (s.reply 0x14 .busy [])) ∧
      ((s.unit p).seq.run.engaged = false → exec (.backstep b x) s = .next (s.reply 0x14 .notAvailable [])) ∧
      ((s.unit p).seq.run = .held ∨ ((s.unit p).seq.run = .paused ∧ (s.unit p).seq.resumeTarget = .running) →
        ((s.unit p).seq.history.length ≤ x.toNat →
          exec (.backstep b x) s = .next (s.reply 0x14 .notAvailable [])) ∧
        (∀ c : Checkpoint, (s.unit p).seq.history.reverse[x.toNat]? = some c →
          (s.pool[c.slot] = .empty ∨ (∃ r : PhaseRecord, s.pool[c.slot] = .active (otherPocket p) r) ∨
            (∃ r : PhaseRecord, s.pool[c.slot].record? = some r ∧ (r.segLast < r.segFirst ∨
              ∃ j : EntryNo, r.segFirst ≤ j ∧ j ≤ r.segLast ∧ (s.unit p).drum.table[j].written = false))) →
          exec (.backstep b x) s = .next (s.reply 0x14 .notAvailable []))))

/-! ## The Temperature Scan (chapter 7) -/

/-- SET_TEMP_CAL in every case, in the order of its checks, and GET_TEMPS, which reports the five channels in order and the
marks, and changes nothing (7.6, 11.11). -/
def Obligations.TemperatureRequestsByCases : Prop :=
  (∀ (ch : Byte) (cLo tLo cHi tHi : Half) (s : State),
    let k : TempCal :=
      { cLo := min 4095 cLo.toNat, tLo := max (-400) (min 2500 tLo.toInt), cHi := min 4095 cHi.toNat,
        tHi := max (-400) (min 2500 tHi.toInt) }
    (∀ c : Channel, channelOf ch = some c →
      exec (.setTempCal ch cLo tLo cHi tHi) s = .next
        (if k.cLo < k.cHi then
          ({ s with temps := s.temps.setChannel c { s.temps.channel c with cal := k, history := [] } } : State).reply 0x02
            (if k.cLo = cLo.toNat ∧ k.tLo = tLo.toInt ∧ k.cHi = cHi.toNat ∧ k.tHi = tHi.toInt then .ok else .okClamped) []
        else s.reply 0x02 .badRequest [])) ∧
    (5 ≤ ch.toNat → exec (.setTempCal ch cLo tLo cHi tHi) s = .next (s.reply 0x02 .badRequest []))) ∧
  (∀ s : State, ∃ data : List Byte, exec .getTemps s = .next (s.reply 0x22 .ok data) ∧ data.length = 61 ∧
    (∀ c : Channel,
      (data.drop (match c with
        | .lowerInlet => 0
        | .lowerExhaust => 12
        | .upperInlet => 24
        | .upperExhaust => 36
        | .ambient => 48)).take 12 =
        leTemp (s.temps.channel c).reading ++
        le16 ((s.temps.channel c).lastCount.getD 0 + 4096 * classCode (s.temps.channel c).lastClass +
          16384 * (s.temps.channel c).badScans) ++
        le16 (s.temps.channel c).cal.cLo ++ leInt16 (s.temps.channel c).cal.tLo ++ le16 (s.temps.channel c).cal.cHi ++
        leInt16 (s.temps.channel c).cal.tHi) ∧
    ((data.getD 60 0).toNat = (if s.temps.healthy then 1 else 0) + (if s.lower.pins.cutout then 2 else 0) +
      (if s.upper.pins.cutout then 4 else 0)))

/-- A conversion acts on its own channel alone: class, count, history, reading, bad-scan count and AMBIENT's mark; a third
bad conversion latches SENSOR, and an inlet reading above the limit latches OVERHEAT. At a conversion of the exhaust
channel, a good one or one that reports no SENSOR, the reading ends an open COOL phase COOLED if it is at or below the
threshold, and nothing is ended if it is above: the pocket is HELD under HOLD_AT_END in RUNNING (the silence timer not
expired), and without it, or in SAFE, the chain advances, to DONE at its end, and along next to the slot it names, whose
activation passes or fails. SENSOR and OVERHEAT, newly latched, send a RUNNING or HELD pocket into SAFE and turn a PAUSED
one to SAFE; where SENSOR comes with the COOL end, their order is free (7.1 to 7.5, 2.3, 2.4, 1.5, 2.8, 9.1; the order:
entry 6). A write that races with an activation is taken as log entry 19 has it, and none between two activations of one
step (entry 23). -/
def Obligations.ConversionActsOnItsChannel : Prop :=
  ∀ (c : Channel) (count : ConverterCount) (s : State), ∃ t : State,
    exec (.channelConversion c count) s = .next t ∧
    t.supply = s.supply ∧ t.trend = s.trend ∧ t.device = s.device ∧ t.link = s.link ∧
    (∀ d : Channel, d ≠ c → t.temps.channel d = s.temps.channel d) ∧
    (t.temps.channel c).cal = (s.temps.channel c).cal ∧ (t.temps.channel c).lastCount = some count.toNat ∧
    (c = .ambient → t = { s with temps := t.temps }) ∧
    (∀ p : Pocket, c ≠ inletChannel p → c ≠ exhaustChannel p → t.unit p = s.unit p) ∧
    (16 ≤ count.toNat ∧ count.toNat < 4080 →
      (t.temps.channel c).lastClass = some .good ∧ (t.temps.channel c).badScans = 0 ∧
      (t.temps.channel c).history =
        (if 4 ≤ (s.temps.channel c).history.length then (s.temps.channel c).history.tail else (s.temps.channel c).history) ++
          [max (-400) (min 2500 ((s.temps.channel c).cal.tLo +
            Int.fdiv (((count.toNat : Int) - (s.temps.channel c).cal.cLo) *
              ((s.temps.channel c).cal.tHi - (s.temps.channel c).cal.tLo))
              (((s.temps.channel c).cal.cHi : Int) - (s.temps.channel c).cal.cLo)))] ∧
      (t.temps.channel c).reading =
        some (Int.fdiv (t.temps.channel c).history.sum ((t.temps.channel c).history.length : Int)) ∧
      t.temps.healthy = (if c = .ambient then true else s.temps.healthy) ∧
      (∀ (p : Pocket) (x : Int), c = inletChannel p → (t.temps.channel c).reading = some x →
        (s.supply.config.inletHigh < x → s.SafeOrderReported t p .overheat) ∧
        (x ≤ s.supply.config.inletHigh → t = { s with temps := t.temps }))) ∧
    ((16 ≤ count.toNat ∧ count.toNat < 4080) ∨ (s.temps.channel c).badScans < 2 →
      ∀ (p : Pocket) (x : Int) (k : Checkpoint), c = exhaustChannel p → (t.temps.channel c).reading = some x →
        ((s.unit p).seq.run = .running ∨ (s.unit p).seq.run = .safe) → (s.unit p).seq.newest = some k → k.outcome = none →
        (s.unit p).seq.work.kind = .cool →
        let threshold : Int := match s.temps.healthy, s.temps.ambient.reading with
          | true, some a => max (s.unit p).seq.work.cool.endTemp (a + 50)
          | _, _ => (s.unit p).seq.work.cool.endTemp
        (threshold < x → t = { s with temps := t.temps }) ∧
        (x ≤ threshold → (s.unit p).seq.run = .running → (s.unit p).seq.work.quals.holdAtEnd = true →
          s.link.silenceExpired = false →
          (t.unit p).seq.run = .held ∧ (t.unit p).seq.newest = some { k with outcome := some .cooled } ∧
            (t.unit p).notices.phaseEnd = true ∧ (t.unit p).notices.held = true ∧ t.pool = s.pool) ∧
        (x ≤ threshold → ((s.unit p).seq.run = .running ∧ (s.unit p).seq.work.quals.holdAtEnd = false ∨
            (s.unit p).seq.run = .safe) → (s.unit p).seq.work.next = none →
          (t.unit p).seq.run = .done ∧ (t.unit p).seq.newest = some { k with outcome := some .cooled } ∧
            (t.unit p).notices.phaseEnd = true ∧ (t.unit p).notices.chainDone = true ∧
            (t.unit p).seq.work.active = none) ∧
        (∀ i : SlotNo, x ≤ threshold → ((s.unit p).seq.run = .running ∧ (s.unit p).seq.work.quals.holdAtEnd = false ∨
            (s.unit p).seq.run = .safe) → (s.unit p).seq.work.next = some i →
          s.AdvancedTo t p (s.eventEnv p) .cooled k i (s.unit p).moist.estimate)) ∧
    (count.toNat ≤ 15 ∨ 4080 ≤ count.toNat →
      (t.temps.channel c).lastClass = some (if count.toNat ≤ 15 then .sensorShort else .sensorOpen) ∧
      (t.temps.channel c).badScans = min 3 ((s.temps.channel c).badScans + 1) ∧
      (t.temps.channel c).history = (s.temps.channel c).history ∧
      (t.temps.channel c).reading = (s.temps.channel c).reading ∧
      t.temps.healthy = (if c = .ambient ∧ 2 ≤ (s.temps.channel c).badScans then false else s.temps.healthy) ∧
      (∀ p : Pocket, c = inletChannel p →
        (2 ≤ (s.temps.channel c).badScans → s.SafeOrderReported t p .sensor) ∧
        ((s.temps.channel c).badScans < 2 → t = { s with temps := t.temps })) ∧
      (∀ p : Pocket, c = exhaustChannel p → 2 ≤ (s.temps.channel c).badScans →
        let u := s.unit p
        let threshold : Int := match s.temps.healthy, s.temps.ambient.reading with
          | true, some a => max u.seq.work.cool.endTemp (a + 50)
          | _, _ => u.seq.work.cool.endTemp
        let ends : Prop := (u.seq.run = .running ∨ u.seq.run = .safe) ∧ u.seq.work.kind = .cool ∧
          (∃ k : Checkpoint, u.seq.newest = some k ∧ k.outcome = none) ∧
          ∃ x : Int, (s.temps.channel c).reading = some x ∧ x ≤ threshold
        (t.unit p).faults.sensor = true ∧
        (¬ends → ({ s with free := s.free + 1 } : State).SafeOrderReported t p .sensor) ∧
        (ends → u.faults.sensor = false → (t.unit p).heat.IsOff ∧ (t.unit p).notices.faultLatched = true ∧
          ((t.unit p).seq.run = .safe ∨ (t.unit p).seq.run = .halted ∨ (t.unit p).seq.run = .done)) ∧
        (∀ k : Checkpoint, ends → u.faults.sensor = true → u.seq.run = .safe → u.seq.newest = some k →
          (u.seq.work.next = none → (t.unit p).seq.run = .done ∧ (t.unit p).notices.chainDone = true ∧
            (t.unit p).seq.newest = some { k with outcome := some .cooled }) ∧
          (∀ i : SlotNo, u.seq.work.next = some i → ∃ n : Nat,
            s.AdvancedTo t p (({ s with free := n } : State).eventEnv p) .cooled k i u.moist.estimate))))

/-- A cutout opening reports OVERHEAT in every pocket state: the fault is latched with its notice and heat is off; a RUNNING
or HELD pocket enters SAFE, or halts with CHAIN latched where there is no anchor or its activation fails, a PAUSED one with
resume target RUNNING is turned to SAFE, and any other runs on. The cutout closing changes the input alone (7.5, 9.1, 2.8).
That an opening of an open cutout does nothing is the model's choice (entry 10), and a write that races with the activation
of the anchor is taken as log entry 19 has it. -/
def Obligations.CutoutOpeningLatchesOverheat : Prop :=
  (∀ (p : Pocket) (s : State), (s.unit p).pins.cutout = true →
    ∃ t : State, exec (.cutoutOpening p) s = .next t ∧ s.SameElsewhere t p ∧ t.link = s.link ∧
      (t.unit p).pins = { (s.unit p).pins with cutout := false } ∧ s.SafeOrderReported t p .overheat) ∧
  (∀ (p : Pocket) (s : State), (s.unit p).pins.cutout = false → exec (.cutoutOpening p) s = .next s) ∧
  (∀ (p : Pocket) (s : State),
    exec (.cutoutClosing p) s = .next (s.onUnit p fun u => { u with pins := { u.pins with cutout := true } }))

/-! ## The Heat Regulator and Supply Arbiter (chapter 8) -/

/-- CONFIGURE in every case: a payload of another length, a pocket engaged, and the step of an accepted one (8.1). That the
inlet high limit is read as signed is the model's reading (entry 13). -/
def Obligations.ConfigureByCases : Prop :=
  (∀ payload : List Byte, payload.length ≠ 17 → requestOf 0x01 payload = .badLength) ∧
  (∀ (f : ConfigureFields) (s : State), s.lower.seq.run.engaged = true ∨ s.upper.seq.run.engaged = true →
    exec (.configure f) s = .next (s.reply 0x01 .busy [])) ∧
  (∀ (f : ConfigureFields) (s : State), s.lower.seq.run.engaged = false → s.upper.seq.run.engaged = false →
    ∃ t : State, exec (.configure f) s = .next t ∧
      t.supply.config =
        { budget := min 24 f.budget.toNat
          weights := #v[min 4 f.weight0.toNat, min 4 f.weight1.toNat, min 4 f.weight2.toNat, min 4 f.weight3.toNat,
            min 4 f.weight4.toNat, min 4 f.weight5.toNat]
          frame := max 10 (min 100 f.frame.toNat)
          reserveUnits := min 24 f.reserveUnits.toNat
          reserveCycles := min 250 f.reserveCycles.toNat
          inletHigh := max 500 (min 2200 f.inletHigh.toInt)
          silence := max 1 (min 60 f.silence.toNat)
          resumeLimit := max 10 (min 600 f.resumeLimit.toNat)
          openLimit := max 2000 (min 65535 f.openLimit.toNat) } ∧
      t.supply.configured = true ∧ t.supply.framePos = 0 ∧ t.supply.pointer = s.supply.pointer ∧
      t.supply.mainsPresent = s.supply.mainsPresent ∧ t.supply.zcElapsed = s.supply.zcElapsed ∧
      t.pool = s.pool ∧ t.temps = s.temps ∧ t.device = s.device ∧ t.trend = s.trend ∧
      t.link = (s.reply 0x01 (if t.supply.config = applianceOf f then .ok else .okClamped) []).link ∧
      ∀ p : Pocket,
        (t.unit p).seq = (s.unit p).seq ∧ (t.unit p).drum = (s.unit p).drum ∧ (t.unit p).moist = (s.unit p).moist ∧
        (t.unit p).faults = (s.unit p).faults ∧ (t.unit p).notices = (s.unit p).notices ∧
        (t.unit p).pins = (s.unit p).pins ∧ (t.unit p).heat.reserve = 0 ∧ (t.unit p).heat.grantedNow = 0 ∧
        (t.unit p).heat.grantedLast = (s.unit p).heat.grantedLast ∧ (t.unit p).heat.demand = (s.unit p).heat.demand ∧
        (t.unit p).heat.airTimer = (s.unit p).heat.airTimer ∧
        ∀ j : Fin 3,
          (t.unit p).heat.elements[j].onCount = 0 ∧
          (t.unit p).heat.elements[j].output = (s.unit p).heat.elements[j].output ∧
          (t.unit p).heat.elements[j].accumulator =
            (if t.supply.config.frame = s.supply.config.frame then (s.unit p).heat.elements[j].accumulator else 0))

/-- Heat permission, and the demand and the on-counts of the frame that a zero-cross with frame position 0 begins: the
proportional demand, the exhaust cut, the two ceilings, and the split over the present elements, which adds up to the demand
(8.3, 8.4). -/
def Obligations.FrameBoundaryFormsDemand : Prop :=
  (∀ u : PocketUnit, u.hasPermission = true ↔
    u.seq.run = .running ∧ (u.seq.work.kind = .dry ∨ u.seq.work.kind = .timed) ∧ u.pins.door = true ∧
      u.faults.overheat = false ∧ u.faults.sensor = false ∧ u.faults.airflow = false ∧ u.faults.linkLost = false) ∧
  (∀ s : State, s.supply.framePos = 0 → ∃ t : State, exec .zeroCross s = .next t ∧ ∀ p : Pocket,
    let g := (s.unit p).seq.work.heat
    let dmax := s.supply.config.frame * ((List.finRange 3).filter fun j => s.supply.config.weightOf p j ≠ 0).length
    (((s.unit p).hasPermission = false ∨ (s.inlet p).reading = none ∨ (s.exhaust p).reading = none) →
      (t.unit p).heat.demand = 0) ∧
    (∀ i x : Int, (s.unit p).hasPermission = true → (s.inlet p).reading = some i → (s.exhaust p).reading = some x →
      let d0 := if g.setpoint - i ≤ 0 then 0 else min dmax ((g.setpoint - i).toNat * dmax / g.band)
      let d1 := if g.exhaustLimit < x then 0 else d0
      let d2 := if (s.unit p).drum.state = .turning then d1 else min d1 (dmax * g.pauseCeiling / 100)
      let d3 := if (s.unit p).drum.limitReached then min d2 (dmax * g.tangleCeiling / 100) else d2
      (t.unit p).heat.demand = d3) ∧
    ((t.unit p).heat.elements[(0 : Fin 3)].onCount + (t.unit p).heat.elements[(1 : Fin 3)].onCount +
      (t.unit p).heat.elements[(2 : Fin 3)].onCount = (t.unit p).heat.demand) ∧
    (∀ j : Fin 3, (t.unit p).heat.elements[j].onCount =
      if s.supply.config.weightOf p j = 0 then 0
      else min s.supply.config.frame ((t.unit p).heat.demand -
        ((List.finRange 3).filter fun k => k < j ∧ s.supply.config.weightOf p k ≠ 0).length * s.supply.config.frame)) ∧
    (t.unit p).heat.grantedLast = (s.unit p).heat.grantedNow ∧
    (t.unit p).heat.airTimer =
      (if (t.unit p).heat.demand = 0 ∨ (s.unit p).pins.airf = true then none
      else some ((s.unit p).heat.airTimer.getD 0)))

/-- A zero-cross: mains present, the frame position counts modulo F, open reserves go down by 1, and every pocket's grants
are counted; between boundaries demand and on-counts stay. It changes nothing outside the block (8.2, 8.7, 8.8). -/
def Obligations.ZeroCrossCountsCycle : Prop :=
  ∀ s : State, ∃ t : State, exec .zeroCross s = .next t ∧
    t.supply.framePos = (if s.supply.framePos + 1 < s.supply.config.frame then s.supply.framePos + 1 else 0) ∧
    t.supply.mainsPresent = true ∧ t.supply.zcElapsed = 0 ∧ t.supply.config = s.supply.config ∧
    t.supply.configured = s.supply.configured ∧ t.pool = s.pool ∧ t.temps = s.temps ∧ t.device = s.device ∧
    t.trend = s.trend ∧ t.link = s.link ∧ t.prescale = s.prescale ∧ t.free = s.free ∧
    ∀ p : Pocket,
      (t.unit p).seq = (s.unit p).seq ∧ (t.unit p).drum = (s.unit p).drum ∧ (t.unit p).moist = (s.unit p).moist ∧
      (t.unit p).faults = (s.unit p).faults ∧ (t.unit p).notices = (s.unit p).notices ∧
      (t.unit p).noticeMark = (s.unit p).noticeMark ∧ (t.unit p).pins = (s.unit p).pins ∧
      (t.unit p).heat.reserve = (s.unit p).heat.reserve - 1 ∧
      (t.unit p).heat.grantedNow = (if s.supply.framePos = 0 then 0 else (s.unit p).heat.grantedNow) +
        ((List.finRange 3).filter fun j => (t.unit p).heat.elements[j].output).length ∧
      (s.supply.framePos ≠ 0 → (t.unit p).heat.demand = (s.unit p).heat.demand ∧
        (t.unit p).heat.grantedLast = (s.unit p).heat.grantedLast ∧ (t.unit p).heat.airTimer = (s.unit p).heat.airTimer ∧
        ∀ j : Fin 3, (t.unit p).heat.elements[j].onCount = (s.unit p).heat.elements[j].onCount)

/-- The arbiter step of a zero-cross. The elements are examined from the pointer on, wrapping: each is granted exactly if it
requests and its weight is within what remains of the budget in force, so the weights of the conducting elements never
exceed it; a grant takes F from the accumulator; the pointer goes to the first element denied, or on by one (8.5, 8.6). -/
def Obligations.GrantsStayWithinBudget : Prop :=
  ∀ s : State, ∃ t : State, exec .zeroCross s = .next t ∧
    let cfg := s.supply.config
    let weight : ElementNo → Nat := fun e => cfg.weights[e]
    let reserve : Pocket → Nat := fun p => if 0 < (s.unit p).heat.reserve then cfg.reserveUnits else 0
    let budget := cfg.budget - (reserve .lower + reserve .upper)
    let spent : List ElementNo → Nat := fun l => (l.map fun e => if (t.element e).output then weight e else 0).sum
    let added : ElementNo → Nat := fun e =>
      if 0 < (t.element e).onCount then min (2 * cfg.frame - 1) ((s.element e).accumulator + (t.element e).onCount)
      else (s.element e).accumulator
    let requests : ElementNo → Prop := fun e =>
      weight e ≠ 0 ∧ cfg.frame ≤ added e ∧ (s.unit (elementPocket e)).hasPermission = true ∧
        (s.unit (elementPocket e)).pins.airf = true
    let nth : Fin 6 → ElementNo := fun k => s.supply.pointer + k
    spent (List.finRange 6) ≤ budget ∧
    (∀ k : Fin 6, (t.element (nth k)).output = true ↔ requests (nth k) ∧
      weight (nth k) ≤ budget - spent (((List.finRange 6).filter fun j => j < k).map nth)) ∧
    (∀ e : ElementNo, (t.element e).accumulator = if (t.element e).output then added e - cfg.frame else added e) ∧
    ((∃ k : Fin 6, requests (nth k) ∧ (t.element (nth k)).output = false ∧
        (∀ j : Fin 6, j < k → requests (nth j) → (t.element (nth j)).output = true) ∧ t.supply.pointer = nth k) ∨
      ((∀ k : Fin 6, requests (nth k) → (t.element (nth k)).output = true) ∧ t.supply.pointer = s.supply.pointer + 1))

/-- A loss of mains, the two edges of AIRF, and 5 s of demand without airflow: the outputs go off, the counts are held, the
timer starts and is discarded, and a RUNNING pocket with AIRFLOW enters its safe chain, or halts with CHAIN latched where there
is no anchor or its activation fails (8.2, 8.6, 8.9, 2.8). That a command for a
loss that is not due does nothing is the model's choice (entry 10), and a write that races with the activation of the anchor
is taken as log entry 19 has it. -/
def Obligations.MainsAndAirflowEvents : Prop :=
  (∀ s : State, s.supply.mainsPresent = true → 60000 ≤ s.supply.zcElapsed →
    ∃ t : State, exec .mainsLoss s = .next t ∧ t.supply = { s.supply with mainsPresent := false } ∧
      t.device = s.device.raise .mainsLost ∧ t.pool = s.pool ∧ t.temps = s.temps ∧ t.trend = s.trend ∧ t.link = s.link ∧
      ∀ p : Pocket, t.unit p = { s.unit p with heat := (t.unit p).heat } ∧
        (t.unit p).heat = { (s.unit p).heat with elements := (t.unit p).heat.elements } ∧
        ∀ j : Fin 3, (t.unit p).heat.elements[j] = { (s.unit p).heat.elements[j] with output := false }) ∧
  (∀ s : State, s.supply.mainsPresent = false ∨ s.supply.zcElapsed < 60000 → exec .mainsLoss s = .next s) ∧
  (∀ (p : Pocket) (s : State), (s.unit p).pins.airf = true →
    ∃ t : State, exec (.airfDeasserted p) s = .next t ∧ s.SameElsewhere t p ∧ t.pool = s.pool ∧ t.link = s.link ∧
      t.unit p = { s.unit p with pins := { (s.unit p).pins with airf := false }, heat := (t.unit p).heat } ∧
      (t.unit p).heat = { (s.unit p).heat with elements := (t.unit p).heat.elements, airTimer := (t.unit p).heat.airTimer } ∧
      (t.unit p).heat.airTimer =
        (if (s.unit p).heat.demand = 0 then none else some ((s.unit p).heat.airTimer.getD 0)) ∧
      ∀ j : Fin 3, (t.unit p).heat.elements[j] = { (s.unit p).heat.elements[j] with output := false }) ∧
  (∀ (p : Pocket) (s : State), exec (.airfAsserted p) s = .next (s.onUnit p fun u =>
    { u with pins := { u.pins with airf := true }, heat := { u.heat with airTimer := none } })) ∧
  (∀ (p : Pocket) (n : Nat) (c : Checkpoint) (s : State),
    (s.unit p).heat.airTimer = some n → 5000000 ≤ n → (s.unit p).faults.airflow = false → (s.unit p).seq.run = .running →
    (s.unit p).seq.newest = some c → c.outcome = none →
    ∃ t : State, exec (.airflowTimeout p) s = .next t ∧ s.SameElsewhere t p ∧ t.link = s.link ∧
      s.FaultedIntoSafe t p (s.eventEnv p) c ((s.unit p).faults.put .airflow true))

/-! ## Faults and notices (chapter 9) -/

/-- CLEAR_FAULT in every case: each named latched fault is judged by its condition, a HALTED pocket with an empty set and a
STOPPED drum enters IDLE, and nothing else changes (9.2). That OVERHEAT is judged by the inlet high limit that stands in the
configuration, also before the next good conversion, is the model's choice (entry 22). -/
def Obligations.ClearFaultByCases : Prop :=
  (∀ (b fs : Byte) (p : Pocket) (named : FaultSet) (s : State), pocketOf b = some p → faultSetOf fs = some named →
    let holds : PocketFault → Prop := fun f =>
      match f with
      | .overheat => (s.unit p).pins.cutout = false ∨
          ∃ x : Int, (s.inlet p).reading = some x ∧ s.supply.config.inletHigh - 50 < x
      | .sensor => (s.inlet p).lastClass ≠ some .good ∨ (s.exhaust p).lastClass ≠ some .good
      | .drive => (s.unit p).drum.state ≠ .stopped
      | .airflow => False
      | .chain => False
      | .linkLost => False
    ∃ after stayed : FaultSet,
      exec (.clearFault b fs) s = .next ((s.onUnit p fun u =>
        { u with
          faults := after
          seq := { u.seq with run :=
            if u.seq.run = .halted ∧ after = FaultSet.none ∧ u.drum.state = .stopped then .idle else u.seq.run } }).reply 0x16
        (if stayed = FaultSet.none then .ok else .stillPresent) [after.byte, stayed.byte]) ∧
      (∀ f : PocketFault, after.has f = true ↔
        (s.unit p).faults.has f = true ∧ (named.has f = true → holds f)) ∧
      (∀ f : PocketFault, stayed.has f = true ↔ named.has f = true ∧ (s.unit p).faults.has f = true ∧ holds f)) ∧
  (∀ (b fs : Byte) (s : State), 2 ≤ b.toNat ∨ 64 ≤ fs.toNat →
    exec (.clearFault b fs) s = .next (s.reply 0x16 .badRequest [])) ∧
  (∀ fs : Byte, fs.toNat < 64 → ∃ named : FaultSet, faultSetOf fs = some named ∧ named.byte = fs)

/-- GET_STATUS in every case: the reply's data at their offsets as the request finds them, and the notices reported, with
the pending-notice mark, cleared in the same step; and GET_HISTORY, which reports the number of entries, the activation
count and seven bytes an entry, oldest first, with each field in its place, and changes nothing (9.3, 11.10, 3.5, 11.11). -/
def Obligations.StatusAndHistoryReports : Prop :=
  (∀ (b : Byte) (p : Pocket) (s : State), pocketOf b = some p →
    let u := s.unit p
    ∃ data : List Byte,
      exec (.getStatus b) s = .next ((s.onUnit p fun v =>
        { v with notices := NoticeSet.none, noticeMark := false }).reply 0x20 .ok data) ∧
      data.length = 31 ∧
      data.take 3 = [runStateCode u.seq.run, slotRefCode u.seq.work.active,
        bitsByte [u.seq.resumeTarget = .safe, u.seq.held, u.seq.restored, u.seq.safeBegun, u.seq.unattended]] ∧
      (data.drop 3).take 5 = le16 (u.seq.phaseTimer / 1000000) ++ le16 (u.seq.pauseTimer / 1000000) ++
        [byteOf u.seq.confirm] ∧
      (data.drop 8).take 6 = le16 (u.moist.estimate.getD 65535) ++ le16 (u.moist.lastReading.getD 65535) ++
        leInt16 u.drum.twist ∧
      (data.drop 14).take 6 = [byteOf u.drum.antiTangle, byteOf (drumStateCode u.drum.state)] ++ le16 u.heat.grantedLast ++
        [u.faults.byte, u.notices.byte] ∧
      (data.drop 20).take 4 = le16 u.moist.gOpen ++ le16 u.moist.gRef ∧
      data.drop 24 = bitsByte [u.moist.valid, u.moist.calibration.isSome, u.moist.lastAttempt.isSome,
          (u.moist.lastAttempt.map Attempt.passed).getD false] ::
        (le24 ((u.moist.lastAttempt.map Attempt.gOpen).getD 0) ++ le24 ((u.moist.lastAttempt.map Attempt.gRef).getD 0))) ∧
  (∀ s : State, exec (.getStatus 0x02) s = .next (({ s with device := DeviceNotices.none } : State).reply 0x20 .ok
    [bitsByte [s.supply.configured, s.supply.mainsPresent, s.trend.halted, s.trend.fill = .b],
      byteOf s.trend.fillBank.length, byteOf s.trend.readBank.length, s.device.byte])) ∧
  (∀ (b : Byte) (s : State), 3 ≤ b.toNat → exec (.getStatus b) s = .next (s.reply 0x20 .badRequest [])) ∧
  (∀ (b : Byte) (p : Pocket) (s : State), pocketOf b = some p →
    exec (.getHistory b) s = .next (s.reply 0x21 .ok
      (byteOf (s.unit p).seq.history.length :: byteOf (s.unit p).seq.activations ::
        byteOf ((s.unit p).seq.activations / 256) :: (s.unit p).seq.history.flatMap Checkpoint.bytes)) ∧
    (∀ c : Checkpoint, -1024 ≤ c.twistStart → c.twistStart ≤ 1023 →
      c.bytes.length = 7 ∧
      (c.bytes.headD 0).toNat = c.slot.val + (if c.eStart = none then 0 else 64) + (if c.outcome = none then 0 else 128) ∧
      (c.bytes.drop 1).take 2 = le16 c.ordinal ∧
      (c.bytes.drop 3).take 2 = le16 ((if c.twistStart < 0 then c.twistStart + 2048 else c.twistStart).toNat +
        4096 * (match c.outcome with
          | none | some .dry => 0
          | some .timeout => 1
          | some .time => 2
          | some .cooled => 3
          | some .skipped => 4
          | some .abandoned => 5
          | some .faulted => 6
          | some .aborted => 7)) ∧
      c.bytes.drop 5 = le16 (c.eStart.getD 0)))

/-! ## The Trend Buffer (chapter 10) -/

/-- The write of a record: dropped in STOP mode with the fill bank full and the read bank not empty; otherwise appended,
with a switch first where the fill bank is full, and a switch after where the count is above the threshold and the mode
allows it (10.3). -/
def Obligations.TrendWriteByCases : Prop :=
  ∀ (r : TrendRecord) (v : TrendView),
    let w := v.write r
    let keeps := v.buffer.mode = .stop ∧ v.buffer.readBank ≠ []
    w.buffer.mode = v.buffer.mode ∧ w.buffer.threshold = v.buffer.threshold ∧
    (64 ≤ v.buffer.fillBank.length → keeps →
      w.buffer = { v.buffer with halted := true } ∧ w.device = v.device.raise .trendHalted) ∧
    (64 ≤ v.buffer.fillBank.length → ¬keeps → 1 ≤ v.buffer.threshold →
      w.buffer.readBank = v.buffer.fillBank ∧ w.buffer.fillBank = [r] ∧ w.buffer.fill = v.buffer.fill.other ∧
      w.buffer.halted = false ∧ w.device.trendReady = true ∧
      w.device.trendLost = (v.device.trendLost || decide (v.buffer.readBank ≠ []))) ∧
    (v.buffer.fillBank.length < 64 → (v.buffer.fillBank.length < v.buffer.threshold ∨ keeps) →
      w.buffer.fillBank = v.buffer.fillBank ++ [r] ∧ w.buffer.readBank = v.buffer.readBank ∧
      w.buffer.fill = v.buffer.fill ∧ w.buffer.halted = v.buffer.halted ∧ w.device = v.device) ∧
    (v.buffer.fillBank.length < 64 → v.buffer.threshold ≤ v.buffer.fillBank.length → ¬keeps →
      w.buffer.readBank = v.buffer.fillBank ++ [r] ∧ w.buffer.fillBank = [] ∧ w.buffer.fill = v.buffer.fill.other ∧
      w.buffer.halted = false ∧ w.device.trendReady = true ∧
      w.device.trendLost = (v.device.trendLost || decide (v.buffer.readBank ≠ [])))

/-- READ_TREND returns and removes the oldest records of the read bank, up to 4, each in 15 bytes with every field in its place,
with the switch that may follow in STOP mode; FLUSH_TREND and TREND_MODE in every case (10.4, 11.11). -/
def Obligations.TrendRequestsByCases : Prop :=
  (∀ s : State, ∃ t : State, exec .readTrend s = .next t ∧ t = { s with trend := t.trend, device := t.device, link := t.link } ∧
    t.link = (s.reply 0x23 .ok
      (byteOf (min 4 s.trend.readBank.length) :: (s.trend.readBank.take 4).flatMap TrendRecord.bytes)).link ∧
    t.trend.mode = s.trend.mode ∧ t.trend.threshold = s.trend.threshold ∧
    (s.trend.readBank = [] ∨ 4 < s.trend.readBank.length ∨ s.trend.mode = .swap ∨
        s.trend.fillBank.length ≤ s.trend.threshold →
      t.trend.readBank = s.trend.readBank.drop 4 ∧ t.trend.fillBank = s.trend.fillBank ∧ t.trend.fill = s.trend.fill ∧
      t.trend.halted = s.trend.halted ∧ t.device = s.device) ∧
    (s.trend.readBank ≠ [] → s.trend.readBank.length ≤ 4 → s.trend.mode = .stop →
      s.trend.threshold < s.trend.fillBank.length →
      t.trend.readBank = s.trend.fillBank ∧ t.trend.fillBank = [] ∧ t.trend.fill = s.trend.fill.other ∧
      t.trend.halted = false ∧ t.device = s.device.raise .trendReady)) ∧
  (∀ r : TrendRecord, -1024 ≤ r.twist → r.twist ≤ 1023 → (∀ m : Nat, r.reading = .measured m → m ≤ 2047) →
    let temp (x : Option Int) : Nat := match x with
      | none => 4095
      | some y => (y + 400).toNat
    r.bytes.length = 15 ∧
    (r.bytes.headD 0).toNat = r.slot.val + (if r.pocket = .upper then 64 else 0) ∧
    (r.bytes.drop 1).take 2 = le16 r.ordinal ∧ (r.bytes.drop 3).take 2 = le16 r.sequence ∧
    (r.bytes.drop 5).take 2 = le16
      ((match r.reading with
        | .absent => 0
        | .measured m => m + 2048
        | .void => 2 * 2048) +
      8192 * (match r.drum with
        | .stopped => 0
        | .starting => 1
        | .turning => 2
        | .stopping => 3
        | .settle => 4)) ∧
    (r.bytes.drop 7).take 2 = le16 (match r.estimate with
      | none => 0
      | some e => e + 32768) ∧
    (r.bytes.drop 9).take 3 = le24 (temp r.inlet + 4096 * temp r.exhaust) ∧
    r.bytes.drop 12 = le24 ((if r.twist < 0 then r.twist + 2048 else r.twist).toNat + 2048 * r.granted)) ∧
  (∀ s : State, s.trend.readBank = [] → s.trend.fillBank ≠ [] →
    ∃ t : State, exec .flushTrend s = .next t ∧ t = { s with trend := t.trend, device := t.device, link := t.link } ∧
      t.link = (s.reply 0x25 .ok []).link ∧ t.trend.readBank = s.trend.fillBank ∧ t.trend.fillBank = [] ∧
      t.trend.fill = s.trend.fill.other ∧ t.trend.halted = false ∧ t.trend.mode = s.trend.mode ∧
      t.trend.threshold = s.trend.threshold ∧ t.device = s.device.raise .trendReady) ∧
  (∀ s : State, s.trend.readBank ≠ [] ∨ s.trend.fillBank = [] →
    exec .flushTrend s = .next (s.reply 0x25 .notAvailable [])) ∧
  (∀ (mode threshold : Byte) (s : State),
    (mode.toNat ≤ 1 → exec (.trendMode mode threshold) s = .next
      (({ s with trend := { s.trend with
          mode := if mode.toNat = 0 then .swap else .stop, threshold := max 1 (min 63 threshold.toNat) } } : State).reply 0x24
        (if 1 ≤ threshold.toNat ∧ threshold.toNat ≤ 63 then .ok else .okClamped)
        [mode, byteOf (max 1 (min 63 threshold.toNat))])) ∧
    (2 ≤ mode.toNat → exec (.trendMode mode threshold) s = .next (s.reply 0x24 .badRequest [])))

/-! ## The Link Port (chapter 11) -/

/-- The bytes of a whole frame, received one after another, put its kind and payload in the inbound queue with the judgement
of its check; the request of a well-formed command comes back from its frame; a bad byte and 10 ms of silence discard a
partial frame. A byte whose start bit, 261 microseconds before its end, came more than 10 ms after the last byte is judged
in HUNT, and one that began within the 10 ms belongs to the frame (11.1, 11.2, 11.9). The 261 microseconds are the model's
reading (entry 17). -/
def Obligations.FramesAssembleToRequests : Prop :=
  (∀ (b : Byte) (good : Bool) (s : State),
    exec (.receiveByte b good) s = .next { s with link := s.link.receive b good }) ∧
  (∀ (kind check : Byte) (payload : List Byte) (l : LinkPort), payload.length ≤ 63 → l.assembler = .hunt →
    let good := decide (check = crc (byteOf (payload.length + 1) :: kind :: payload))
    let m := (0xB5 :: byteOf (payload.length + 1) :: kind :: payload ++ [check]).foldl (fun x b => x.receive b true) l
    m.assembler = .hunt ∧ m.replySlot = l.replySlot ∧ m.tx = l.tx ∧ m.answer = l.answer ∧ m.byteSilence = 0 ∧
    m.silence = (if good then 0 else l.silence) ∧ m.silenceExpired = (if good then false else l.silenceExpired) ∧
    (l.inbound.length < 2 → m.inbound = l.inbound ++ [{ kind := kind, payload := payload, good := good }] ∧
      m.overrun = l.overrun) ∧
    (2 ≤ l.inbound.length → m.inbound = l.inbound ∧ m.overrun = true)) ∧
  (∀ (i : Instr) (kind : Byte) (payload : List Byte), i.wellFormed = true → requestFrame i = some (kind, payload) →
    payload.length ≤ 63 ∧ requestOf kind payload = .request i) ∧
  (∀ (b : Byte) (l : LinkPort), l.receive b false = { l with assembler := .hunt, byteSilence := 0 }) ∧
  (∀ (b : Byte) (l : LinkPort), l.assembler = .length → b.toNat = 0 ∨ 64 < b.toNat →
    (l.receive b true).assembler = if b = 0xB5 then .length else .hunt) ∧
  (∀ (b : Byte) (n : Nat) (gathered : List Byte) (l : LinkPort), l.assembler = .body n gathered →
    (l.byteSilence ≤ 10261 → (l.receive b true).assembler =
      if gathered.length + 1 < n then .body n (gathered ++ [b]) else .check n (gathered ++ [b])) ∧
    (10261 < l.byteSilence → l.receive b true =
      { l with assembler := if b = 0xB5 then .length else .hunt, byteSilence := 0 })) ∧
  (∀ s : State, s.link.assembler ≠ .hunt → 10000 ≤ s.link.byteSilence →
    exec .receiveSilenceTimeout s = .next { s with link := { s.link with assembler := .hunt } })

/-- What the end of a phase with checkpoint `c` under HOLD_AT_END leaves while the silence timer stands expired: the pocket
is HELD with its notices, and LINK_LOST is reported at that entry, which sends it into SAFE unless it was latched already
(11.6, 2.4, 2.8, 9.1). -/
def Sys2Proof.Machine.State.HeldUnheard (s t : State) (p : Pocket) (c : Checkpoint) : Prop :=
  (t.unit p).notices.phaseEnd = true ∧ (t.unit p).notices.held = true ∧ (t.unit p).faults.linkLost = true ∧
    (t.unit p).heat.IsOff ∧
    ((s.unit p).faults.linkLost = false →
      s.FaultedIntoSafe t p (s.eventEnv p) c ((s.unit p).faults.put .linkLost true)) ∧
    ((s.unit p).faults.linkLost = true → (t.unit p).seq.run = .held ∧ (t.unit p).faults = (s.unit p).faults)

/-- What an entry into RUNNING in a phase of slot `i` leaves while the silence timer stands expired: LINK_LOST is reported,
which closes that phase FAULTED and sends the pocket into SAFE, or halts it, unless it was latched already (11.6, 2.8, 9.1).
-/
def Sys2Proof.Machine.State.RunningUnheard (s t : State) (p : Pocket) (i : SlotNo) : Prop :=
  (t.unit p).faults.linkLost = true ∧
    ((s.unit p).faults.linkLost = false →
      ((t.unit p).seq.run = .safe ∨ (t.unit p).seq.run = .halted) ∧ (t.unit p).heat.IsOff ∧
      (t.unit p).notices.faultLatched = true ∧ (t.unit p).notices.phaseEnd = true ∧
      ∃ k ∈ (t.unit p).seq.history, k.slot = i ∧ k.outcome = some .faulted) ∧
    ((s.unit p).faults.linkLost = true → (t.unit p).seq.run = .running ∧ (t.unit p).seq.work.active = some i ∧
      (t.unit p).faults = (s.unit p).faults)

/-- The silence timer's expiry: LINK_LOST is latched on every RUNNING, HELD and PAUSED pocket, which goes to its safe chain
or waits for it unattended; and while the timer stays expired, an entry into PAUSED by PAUSE, by a door opening or by a
BACKSTEP from HELD, into RUNNING by START, by a RESUME or by an ADVANCE from HELD, and into HELD by a phase's timer, a
window's end, the COOL end or a RESUME is reported at that entry (11.6, 9.1, 2.8). That a command for an expiry that is not
due does nothing is the model's choice (entry 10), the pause is compared in whole seconds (entry 11), and a write that races
with the activation of the anchor is taken as log entry 19 has it. -/
def Obligations.SilenceReportsLinkLost : Prop :=
  (∀ s : State, s.link.silenceExpired = false → s.supply.config.silence * 1000000 ≤ s.link.silence →
    ∃ t : State, exec .silenceTimerExpiry s = .next t ∧ t.link = { s.link with silenceExpired := true } ∧
      t.temps = s.temps ∧ t.supply = s.supply ∧ t.device = s.device ∧ t.trend = s.trend ∧ t.prescale = s.prescale ∧
      t.pending = s.pending ∧
      ∀ p : Pocket,
        ((s.unit p).seq.run.linkWatched = false → t.unit p = s.unit p) ∧
        ((s.unit p).seq.run.linkWatched = true → (t.unit p).faults.linkLost = true) ∧
        ((s.unit p).seq.run = .paused → (t.unit p).seq.run = .paused ∧ (t.unit p).seq.resumeTarget = .safe ∧
          (t.unit p).seq.unattended = true ∧ (t.unit p).seq.doorClosedFor = 0) ∧
        ((s.unit p).seq.run = .running ∨ (s.unit p).seq.run = .held → (s.unit p).faults.linkLost = false →
          ((t.unit p).seq.run = .safe ∨ (t.unit p).seq.run = .halted) ∧ (t.unit p).heat.IsOff ∧
          (t.unit p).notices.faultLatched = true)) ∧
  (∀ s : State, (s.link.silenceExpired = true ∨ s.link.silence < s.supply.config.silence * 1000000) →
    exec .silenceTimerExpiry s = .next s) ∧
  (∀ (b : Byte) (p : Pocket) (s : State), pocketOf b = some p → (s.unit p).seq.run.drives = true →
    s.link.silenceExpired = true →
    ∃ t : State, exec (.pause b) s = .next t ∧ s.SameElsewhere t p ∧ (t.unit p).seq.run = .paused ∧
      (t.unit p).seq.resumeTarget = .safe ∧ (t.unit p).seq.unattended = true ∧ (t.unit p).seq.doorClosedFor = 0 ∧
      (t.unit p).faults.linkLost = true ∧ (t.unit p).heat.IsOff ∧ (s.unit p).drum.StoppedFrom (t.unit p).drum ∧
      ((s.unit p).faults.linkLost = true → (t.unit p).faults = (s.unit p).faults)) ∧
  (∀ (p : Pocket) (s : State), (s.unit p).pins.door = true → (s.unit p).seq.run.drives = true →
    s.link.silenceExpired = true →
    ∃ t : State, exec (.doorOpening p) s = .next t ∧ s.SameElsewhere t p ∧ t.link = s.link ∧
      (t.unit p).seq.run = .paused ∧ (t.unit p).seq.resumeTarget = .safe ∧ (t.unit p).seq.unattended = true ∧
      (t.unit p).seq.doorClosedFor = 0 ∧ (t.unit p).pins.door = false ∧ (t.unit p).faults.linkLost = true ∧
      (t.unit p).heat.IsOff ∧ (s.unit p).drum.StoppedFrom (t.unit p).drum) ∧
  (∀ (pb sb : Byte) (p : Pocket) (i : SlotNo) (r : PhaseRecord) (s : State),
    pocketOf pb = some p → slotOf sb = some i →
    ((s.unit p).seq.run = .idle ∨ (s.unit p).seq.run = .done) → (s.unit p).seq.work.active = none →
    s.supply.configured = true → (s.unit p).seq.anchor ≠ none → (s.unit p).faults = FaultSet.none →
    (s.unit p).pins.door = true → (s.unit p).moist.calibration = none → (s.view p).check i = .ok r →
    s.link.silenceExpired = true →
    ∃ t : State, exec (.start pb sb) s = .next t ∧ s.SameElsewhere t p ∧ t.link = (s.reply 0x10 .ok []).link ∧
      ((t.unit p).seq.run = .safe ∨ (t.unit p).seq.run = .halted) ∧ (t.unit p).faults.linkLost = true ∧
      (t.unit p).notices.faultLatched = true ∧ (t.unit p).notices.phaseEnd = true ∧ (t.unit p).heat.IsOff ∧
      (∃ c ∈ (t.unit p).seq.history, c.slot = i ∧ c.ordinal = 1 ∧ c.outcome = some .faulted)) ∧
  (∀ (p : Pocket) (c : Checkpoint) (s : State), (s.unit p).seq.run = .running → (s.unit p).seq.newest = some c →
    c.outcome = none → (s.unit p).seq.work.maxTime * 1000000 ≤ (s.unit p).seq.phaseTimer →
    (s.unit p).seq.work.quals.holdAtEnd = true → s.link.silenceExpired = true →
    ∃ t : State, exec (.phaseTimerExpiry p) s = .next t ∧ s.SameElsewhere t p ∧ t.link = s.link ∧
      s.HeldUnheard t p c) ∧
  (∀ (p : Pocket) (w : SenseWindow) (c : Checkpoint) (e : Nat) (s : State), (s.unit p).moist.window = some w →
    w.length ≤ w.elapsed → w.length ≤ w.turning * 2 → (s.unit p).moist.valid = true → (s.unit p).seq.run = .running →
    (s.unit p).seq.newest = some c → c.outcome = none → (s.unit p).seq.work.kind = .dry →
    (s.unit p).seq.work.timedOnly = false →
    nextEstimate (s.unit p).seq.work.dry.k (w.weighted / w.totalTicks) (s.unit p).moist.estimate = e →
    (s.unit p).seq.work.dry.minTime * 1000000 < (s.unit p).seq.phaseTimer → e ≤ (s.unit p).seq.work.dry.target * 16 →
    min 15 ((s.unit p).seq.confirm + 1) = (s.unit p).seq.work.dry.confirm →
    (s.unit p).seq.work.quals.holdAtEnd = true → s.link.silenceExpired = true →
    ∃ t : State, exec (.windowEnd p) s = .next t ∧ t.unit (otherPocket p) = s.unit (otherPocket p) ∧ t.temps = s.temps ∧
      t.supply = s.supply ∧ t.link = s.link ∧ s.HeldUnheard t p c) ∧
  (∀ (p : Pocket) (count : ConverterCount) (c : Checkpoint) (x : Int) (s : State), (s.unit p).seq.run = .running →
    (s.unit p).seq.newest = some c → c.outcome = none → (s.unit p).seq.work.kind = .cool →
    (s.unit p).seq.work.quals.holdAtEnd = true → s.link.silenceExpired = true →
    ((16 ≤ count.toNat ∧ count.toNat < 4080) ∨ (s.temps.channel (exhaustChannel p)).badScans < 2) →
    ((s.temps.channel (exhaustChannel p)).take count.toNat).reading = some x →
    x ≤ s.temps.coolThreshold (s.unit p).seq.work.cool.endTemp →
    ∃ t : State, exec (.channelConversion (exhaustChannel p) count) s = .next t ∧
      t.unit (otherPocket p) = s.unit (otherPocket p) ∧ t.supply = s.supply ∧ t.link = s.link ∧ s.HeldUnheard t p c) ∧
  (∀ (b : Byte) (p : Pocket) (c : Checkpoint) (s : State), pocketOf b = some p → (s.unit p).seq.run = .paused →
    (s.unit p).pins.door = true → (s.unit p).seq.resumeTarget = .running → s.link.silenceExpired = true →
    (s.unit p).seq.newest = some c → (c.outcome = none ∨ (s.unit p).seq.held = true) →
    ((s.unit p).seq.held = true ∨ (s.unit p).seq.restored = true ∨
      (s.unit p).seq.pauseTimer / 1000000 ≤ s.supply.config.resumeLimit) →
    ∃ t : State, exec (.resume b) s = .next t ∧ s.SameElsewhere t p ∧ t.link = (s.reply 0x12 .ok []).link ∧
      (t.unit p).faults.linkLost = true ∧ (t.unit p).seq.unattended = false ∧
      ((s.unit p).faults.linkLost = false →
        s.FaultedIntoSafe t p (s.env p) c ((s.unit p).faults.put .linkLost true)) ∧
      ((s.unit p).faults.linkLost = true →
        (t.unit p).seq.run = (if (s.unit p).seq.held then .held else .running) ∧ (t.unit p).faults = (s.unit p).faults ∧
        t.pool = s.pool)) ∧
  (∀ (b : Byte) (p : Pocket) (c : Checkpoint) (s : State), pocketOf b = some p → (s.unit p).seq.run = .paused →
    (s.unit p).pins.door = true → (s.unit p).seq.resumeTarget = .running → s.link.silenceExpired = true →
    (s.unit p).seq.newest = some c → c.outcome = none → (s.unit p).seq.held = false → (s.unit p).seq.restored = false →
    s.supply.config.resumeLimit < (s.unit p).seq.pauseTimer / 1000000 →
    (∀ r : PhaseRecord, (s.unit p).seq.work.quals.retryAllowed = true → s.pool[c.slot].record? = some r →
      ∃ t : State, exec (.resume b) s = .next t ∧ s.SameElsewhere t p ∧ t.link = (s.reply 0x12 .ok []).link ∧
        s.RunningUnheard t p c.slot) ∧
    (∀ (i : SlotNo) (r : PhaseRecord), (s.unit p).seq.work.quals.retryAllowed = false → (s.unit p).seq.work.next = some i →
      ((s.view p).release p).check i = .ok r →
      ∃ t : State, exec (.resume b) s = .next t ∧ s.SameElsewhere t p ∧ t.link = (s.reply 0x12 .ok []).link ∧
        s.RunningUnheard t p i)) ∧
  (∀ (b : Byte) (p : Pocket) (i : SlotNo) (r : PhaseRecord) (s : State), pocketOf b = some p → (s.unit p).seq.run = .held →
    (s.unit p).seq.work.next = some i → ((s.view p).release p).check i = .ok r → s.link.silenceExpired = true →
    ∃ t : State, exec (.advance b) s = .next t ∧ s.SameElsewhere t p ∧ t.link = (s.reply 0x13 .ok []).link ∧
      s.RunningUnheard t p i) ∧
  (∀ (b k : Byte) (p : Pocket) (c : Checkpoint) (r : PhaseRecord) (s : State), pocketOf b = some p → k.toNat ≤ 7 →
    (s.unit p).seq.run = .held → (s.unit p).seq.history.reverse[k.toNat]? = some c →
    ((s.pool[c.slot] = .loaded r ∧ (s.unit p).seq.work.active ≠ some c.slot) ∨ s.pool[c.slot] = .active p r) →
    r.segFirst ≤ r.segLast →
    (∀ j : EntryNo, r.segFirst ≤ j → j ≤ r.segLast → (s.unit p).drum.table[j].written = true) →
    s.link.silenceExpired = true →
    ∃ t : State, exec (.backstep b k) s = .next t ∧ s.SameElsewhere t p ∧ t.link = (s.reply 0x14 .ok []).link ∧
      t.pool[c.slot] = .active p r ∧ (t.unit p).seq.run = .paused ∧ (t.unit p).seq.resumeTarget = .safe ∧
      (t.unit p).seq.held = false ∧ (t.unit p).seq.restored = false ∧ (t.unit p).seq.unattended = true ∧
      (t.unit p).seq.doorClosedFor = 0 ∧ (t.unit p).seq.newest = some { c with outcome := some .faulted } ∧
      (t.unit p).notices.phaseEnd = true ∧ (t.unit p).faults = (s.unit p).faults.put .linkLost true ∧
      (t.unit p).heat.IsOff ∧ (t.unit p).drum.order = .stop ∧ (t.unit p).drum.runOutput = false)

/-- The taking of a frame, with the reply slot empty, and its reply: FRAME_ERROR, UNKNOWN, BAD_REQUEST, or the request
carried out as the command of that name; with the slot occupied or the queue empty nothing is taken (11.2, 11.3). That
FRAME_TAKEN then does nothing is the model's choice (entry 10). -/
def Obligations.FrameTakenIsAnswered : Prop :=
  (∀ (f : InFrame) (rest : List InFrame) (s : State), s.link.replySlot = none → s.link.inbound = f :: rest →
    let s' : State := { s with link := { s.link with inbound := rest } }
    (f.good = false → ∃ t : State, exec .frameTaken s = .next t ∧ t = { s' with link := t.link } ∧
      t.link.inbound = rest ∧ t.link.replySlot = some { kind := 0xFF, result := none, data := [] } ∧
      ∀ status : Byte, Reply.body status { kind := 0xFF, result := none, data := [] } = [0xFF, status]) ∧
    (f.good = true → requestOf f.kind f.payload = .unknownKind →
      exec .frameTaken s = .next (s'.reply f.kind .unknown [])) ∧
    (f.good = true → requestOf f.kind f.payload = .badLength →
      exec .frameTaken s = .next (s'.reply f.kind .badRequest [])) ∧
    (∀ i : Instr, f.good = true → requestOf f.kind f.payload = .request i → exec .frameTaken s = exec i s')) ∧
  (∀ s : State, s.link.replySlot ≠ none ∨ s.link.inbound = [] → exec .frameTaken s = .next s)

/-- The transmit arbiter: a waiting reply begins first, with its status byte, the FRAME_ERROR reply with that byte alone,
and takes the overrun mark; else the NOTICE frame of the first marked target; a frame ends when its last byte has gone, and
a reply's slot empties. TXD is at the mark level while idle, and while a frame is sent carries each byte in ten bit times, a
start bit, the data bits with the least significant first, and a stop bit (11.1, 11.4). -/
def Obligations.TransmissionsBeginAndEnd : Prop :=
  (∀ l : LinkPort, l.tx = .idle → l.txd = true) ∧
  (∀ (isReply : Bool) (frame : List Byte) (n k : Nat) (b : Byte) (l : LinkPort), l.tx = .sending isReply frame n →
    n * 38400 / 1000000 = k → frame[k / 10]? = some b →
    l.txd = (if k % 10 = 0 then false else if k % 10 = 9 then true else b.getLsbD (k % 10 - 1))) ∧
  (∀ (r : Reply) (s : State), s.link.tx = .idle → s.link.replySlot = some r →
    ∃ status : Byte,
      exec .replyTransmissionBegin s = .next { s with link := { s.link with
        tx := .sending true (frameBytes (match r.result with
          | some code => r.kind :: resultCode code :: status :: r.data
          | none => [r.kind, status])) 0
        overrun := false } } ∧
      status.toNat = (if s.link.overrun then 1 else 0) + (if s.lower.notices = NoticeSet.none then 0 else 2) +
        (if s.upper.notices = NoticeSet.none then 0 else 4) +
        (if s.device.mainsLost || s.device.trendReady || s.device.trendLost || s.device.trendHalted then 8 else 0)) ∧
  (∀ (p : Pocket) (s : State), s.link.tx = .idle → s.link.replySlot = none → (s.unit p).noticeMark = true →
    (p = .upper → s.lower.noticeMark = false) →
    exec .noticeFrameBegin s = .next
      { s.onUnit p (fun u => { u with noticeMark := false }) with
        link := { s.link with tx := .sending false (frameBytes [0x70, pocketCode p, (s.unit p).notices.byte]) 0 } }) ∧
  (∀ s : State, s.link.tx = .idle → s.link.replySlot = none → s.lower.noticeMark = false → s.upper.noticeMark = false →
    s.device.mark = true →
    exec .noticeFrameBegin s = .next
      { s with
        device := { s.device with mark := false }
        link := { s.link with tx := .sending false (frameBytes [0x70, 0x02, s.device.byte]) 0 } }) ∧
  (∀ (isReply : Bool) (frame : List Byte) (n : Nat) (s : State), s.link.tx = .sending isReply frame n →
    frame.length * 10000000 ≤ n * 38400 →
    exec .transmissionEnd s = .next { s with link := { s.link with
      tx := .idle, replySlot := if isReply then none else s.link.replySlot } }) ∧
  (∀ body : List Byte, (frameBytes body).length = body.length + 3)

/-! ## The resets (chapters 1 to 11) -/

/-- RESET_PART and POWER_ON. RESET_PART is refused while a pocket is engaged, else it resets every block as one step and
latches the standing conditions again; POWER_ON gives the power-on values and reports an open cutout (1.7, 2.11, 9.4, 10.5,
11.7). The values of State.reset that the spec does not give, of the working set, the unwritten entries and two times, are
the model's choice (entry 4), and so are that POWER_ON keeps the levels of the pins (entry 8) and the field `answer` of the
link (entry 9), and that RESET_PART latches OVERHEAT by the limit that stands in the configuration (entry 22). -/
def Obligations.ResetsRestoreBlocks : Prop :=
  (∀ s : State, s.lower.seq.run.engaged = true ∨ s.upper.seq.run.engaged = true →
    exec .resetPart s = .next (s.reply 0x30 .busy [])) ∧
  (∀ s : State, s.lower.seq.run.engaged = false → s.upper.seq.run.engaged = false →
    ∃ t : State, exec .resetPart s = .next t ∧ t.link = (s.reply 0x30 .ok []).link ∧ t.temps = s.temps ∧
      t.supply = s.supply ∧ t.device = DeviceNotices.none ∧
      t.trend = { s.trend with bankA := [], bankB := [], fill := .a, halted := false } ∧
      (∀ i : SlotNo, t.pool[i].record? = s.pool[i].record? ∧ t.pool[i].isActive = false) ∧
      ∀ p : Pocket,
        let u := s.unit p
        let v := t.unit p
        v.seq.run = .idle ∧ v.seq.work.active = none ∧ v.seq.work.quals = Quals.none ∧ v.seq.phaseTimer = 0 ∧
        v.seq.confirm = 0 ∧ v.seq.pauseTimer = 0 ∧ v.seq.history = [] ∧ v.seq.activations = 0 ∧
        v.seq.safeBegun = false ∧ v.seq.unattended = false ∧ v.seq.held = false ∧ v.seq.restored = false ∧
        v.seq.resumeTarget = .running ∧ v.seq.profile = u.seq.profile ∧ v.seq.anchor = u.seq.anchor ∧
        v.seq.fanRunOn = u.seq.fanRunOn ∧ v.drum.order = .stop ∧ v.drum.segment = none ∧ v.drum.unwind = none ∧
        v.drum.twist = 0 ∧ v.drum.antiTangle = 0 ∧ v.drum.limitReached = false ∧ v.drum.state = u.drum.state ∧
        v.drum.dir = u.drum.dir ∧ v.drum.table = u.drum.table ∧ v.drum.stopTimer = u.drum.stopTimer ∧
        v.moist.calibration = none ∧ v.moist.window = none ∧ v.moist.estimate = none ∧ v.moist.lastReading = none ∧
        v.moist.sequence = 0 ∧ v.moist.gOpen = u.moist.gOpen ∧ v.moist.gRef = u.moist.gRef ∧
        v.moist.valid = u.moist.valid ∧ v.moist.lastAttempt = u.moist.lastAttempt ∧ v.heat.IsOff ∧ v.heat.reserve = 0 ∧
        v.heat.grantedNow = 0 ∧ v.heat.grantedLast = 0 ∧ v.pins = u.pins ∧
        (v.faults.sensor = true ↔ (s.inlet p).badScans = 3 ∨ (s.exhaust p).badScans = 3) ∧
        (v.faults.overheat = true ↔ u.pins.cutout = false ∨
          ∃ x : Int, (s.inlet p).reading = some x ∧ s.supply.config.inletHigh < x) ∧
        v.faults.airflow = false ∧ v.faults.drive = false ∧ v.faults.chain = false ∧ v.faults.linkLost = false ∧
        v.notices = (if v.faults = FaultSet.none then NoticeSet.none else NoticeSet.none.add .faultLatched) ∧
        (v.noticeMark = true ↔ v.faults ≠ FaultSet.none)) ∧
  (∀ s : State, ∃ t : State, exec .powerOn s = .next t ∧ t.pool = State.reset.pool ∧ t.temps = State.reset.temps ∧
    t.supply = State.reset.supply ∧ t.device = State.reset.device ∧ t.trend = State.reset.trend ∧
    t.link = State.reset.link ∧
    ∀ p : Pocket,
      (t.unit p).seq = (State.reset.unit p).seq ∧ (t.unit p).drum = (State.reset.unit p).drum ∧
      (t.unit p).moist = (State.reset.unit p).moist ∧ (t.unit p).heat = (State.reset.unit p).heat ∧
      (t.unit p).pins = (s.unit p).pins ∧
      (t.unit p).faults = (if (s.unit p).pins.cutout then FaultSet.none else FaultSet.none.put .overheat true) ∧
      (t.unit p).notices = (if (s.unit p).pins.cutout then NoticeSet.none else NoticeSet.none.add .faultLatched))

/-! ## Invariants -/

/-- Every step keeps the guard on heat: an element output is on only with heat permission, airflow proven and mains present,
and a pocket without heat permission has no demand, on-count or accumulator (8.3, 8.6, 8.9). -/
def Obligations.StepKeepsHeatGuarded : Prop :=
  ∀ s t : State, s.HeatGuarded → s.HeatWithdrawn → step s = .next t → t.HeatGuarded ∧ t.HeatWithdrawn

/-- Every step keeps the guard on the drums: RUN, a pending direction or an unwind only in RUNNING, SAFE and HELD, which
have the door closed; the order and the segment as the run state says; speed 0 while RUN is off; and a run that waits for a
reversal waits under the stop timer or the standstill, not endlessly (2.1, 2.6, 4.2, 4.4, 4.7). That such a wait starts the stop
timer where there is none is the model's choice (entry 18). -/
def Obligations.StepKeepsDrumsGuarded : Prop :=
  ∀ s t : State, s.DriveGuarded → s.OrderMatches → s.OutputsMatch → s.Ownership → step s = .next t →
    t.DriveGuarded ∧ t.OrderMatches ∧ t.OutputsMatch

/-- Every step keeps the ownership of slots and the marks of phases: a slot is ACTIVE in a pocket exactly as its active
slot, which is the slot of its newest checkpoint; only the newest checkpoint may be open, as the run state says; and the two
safe anchors differ (1.1, 1.4, 2.1, 2.4, 3.1). -/
def Obligations.StepKeepsSlotsAndPhases : Prop :=
  ∀ s t : State, s.Ownership → s.PhasesMatch → s.AnchorsApart → step s = .next t →
    t.Ownership ∧ t.PhasesMatch ∧ t.AnchorsApart

/-- Every step keeps the ranges: twists within -999 to 999, accumulators within 0 to 2F - 1 with the frame position below F,
and the bounds of the history, the inbound queue and the trend banks (3.1, 5.2, 8.5, 10.2, 11.2). -/
def Obligations.StepKeepsRanges : Prop :=
  ∀ s t : State, s.TwistInRange → s.AccumulatorsInRange → s.BuffersBounded → 1 ≤ s.trend.threshold →
    step s = .next t → t.TwistInRange ∧ t.AccumulatorsInRange ∧ t.BuffersBounded ∧ 1 ≤ t.trend.threshold

/-- The state after reset meets the invariants that the steps keep. -/
def Obligations.ResetMeetsInvariants : Prop :=
  State.reset.HeatGuarded ∧ State.reset.HeatWithdrawn ∧ State.reset.DriveGuarded ∧ State.reset.OrderMatches ∧
    State.reset.OutputsMatch ∧ State.reset.Ownership ∧ State.reset.PhasesMatch ∧ State.reset.AnchorsApart ∧
    State.reset.TwistInRange ∧ State.reset.AccumulatorsInRange ∧ State.reset.BuffersBounded ∧
    1 ≤ State.reset.trend.threshold
end

