-- ==== Sys2Proof/Laws/State.lean ====
section
/-! SUPPORT. One lemma per field per update of the state: what each update of Machine/Ops.lean sets and what it leaves. No
later proof unfolds a record update. -/

namespace Sys2Proof.Machine

/-! ## Pockets -/

@[simp] theorem otherPocket_otherPocket (p : Pocket) : otherPocket (otherPocket p) = p := by cases p <;> rfl

@[simp] theorem otherPocket_ne (p : Pocket) : otherPocket p ≠ p := by cases p <;> decide

@[simp] theorem ne_otherPocket (p : Pocket) : p ≠ otherPocket p := by cases p <;> decide

/-- Any pocket is the one named or the other. -/
theorem eq_or_eq_otherPocket (p q : Pocket) : q = p ∨ q = otherPocket p := by cases p <;> cases q <;> decide

@[simp] theorem State.unit_lower (s : State) : s.unit .lower = s.lower := rfl

@[simp] theorem State.unit_upper (s : State) : s.unit .upper = s.upper := rfl

/-! ## A pocket replaced -/

@[simp] theorem State.setUnit_temps (s : State) (p : Pocket) (u : PocketUnit) : (s.setUnit p u).temps = s.temps := by cases p <;> rfl

@[simp] theorem State.setUnit_supply (s : State) (p : Pocket) (u : PocketUnit) : (s.setUnit p u).supply = s.supply := by cases p <;> rfl

@[simp] theorem State.setUnit_device (s : State) (p : Pocket) (u : PocketUnit) : (s.setUnit p u).device = s.device := by cases p <;> rfl

@[simp] theorem State.setUnit_trend (s : State) (p : Pocket) (u : PocketUnit) : (s.setUnit p u).trend = s.trend := by cases p <;> rfl

@[simp] theorem State.setUnit_link (s : State) (p : Pocket) (u : PocketUnit) : (s.setUnit p u).link = s.link := by cases p <;> rfl

@[simp] theorem State.setUnit_prescale (s : State) (p : Pocket) (u : PocketUnit) : (s.setUnit p u).prescale = s.prescale := by cases p <;> rfl

@[simp] theorem State.setUnit_free (s : State) (p : Pocket) (u : PocketUnit) : (s.setUnit p u).free = s.free := by cases p <;> rfl

@[simp] theorem State.setUnit_pending (s : State) (p : Pocket) (u : PocketUnit) : (s.setUnit p u).pending = s.pending := by cases p <;> rfl

@[simp] theorem State.setUnit_raced (s : State) (p : Pocket) (u : PocketUnit) : (s.setUnit p u).raced = s.raced := by cases p <;> rfl

@[simp] theorem State.setUnit_pool (s : State) (p : Pocket) (u : PocketUnit) : (s.setUnit p u).pool = s.pool := by cases p <;> rfl

@[simp] theorem State.setUnit_unit (s : State) (p : Pocket) (u : PocketUnit) : (s.setUnit p u).unit p = u := by cases p <;> rfl

@[simp] theorem State.setUnit_unit_other (s : State) (p : Pocket) (u : PocketUnit) :
    (s.setUnit p u).unit (otherPocket p) = s.unit (otherPocket p) := by cases p <;> rfl

/-! ## A pocket changed -/

@[simp] theorem State.onUnit_temps (s : State) (p : Pocket) (f : PocketUnit → PocketUnit) : (s.onUnit p f).temps = s.temps := by cases p <;> rfl

@[simp] theorem State.onUnit_supply (s : State) (p : Pocket) (f : PocketUnit → PocketUnit) : (s.onUnit p f).supply = s.supply := by cases p <;> rfl

@[simp] theorem State.onUnit_device (s : State) (p : Pocket) (f : PocketUnit → PocketUnit) : (s.onUnit p f).device = s.device := by cases p <;> rfl

@[simp] theorem State.onUnit_trend (s : State) (p : Pocket) (f : PocketUnit → PocketUnit) : (s.onUnit p f).trend = s.trend := by cases p <;> rfl

@[simp] theorem State.onUnit_link (s : State) (p : Pocket) (f : PocketUnit → PocketUnit) : (s.onUnit p f).link = s.link := by cases p <;> rfl

@[simp] theorem State.onUnit_prescale (s : State) (p : Pocket) (f : PocketUnit → PocketUnit) : (s.onUnit p f).prescale = s.prescale := by cases p <;> rfl

@[simp] theorem State.onUnit_free (s : State) (p : Pocket) (f : PocketUnit → PocketUnit) : (s.onUnit p f).free = s.free := by cases p <;> rfl

@[simp] theorem State.onUnit_pending (s : State) (p : Pocket) (f : PocketUnit → PocketUnit) : (s.onUnit p f).pending = s.pending := by cases p <;> rfl

@[simp] theorem State.onUnit_raced (s : State) (p : Pocket) (f : PocketUnit → PocketUnit) : (s.onUnit p f).raced = s.raced := by cases p <;> rfl

@[simp] theorem State.onUnit_pool (s : State) (p : Pocket) (f : PocketUnit → PocketUnit) : (s.onUnit p f).pool = s.pool := by cases p <;> rfl

@[simp] theorem State.onUnit_unit (s : State) (p : Pocket) (f : PocketUnit → PocketUnit) : (s.onUnit p f).unit p = f (s.unit p) := by cases p <;> rfl

@[simp] theorem State.onUnit_unit_other (s : State) (p : Pocket) (f : PocketUnit → PocketUnit) :
    (s.onUnit p f).unit (otherPocket p) = s.unit (otherPocket p) := by cases p <;> rfl

/-! ## A view replaced -/

@[simp] theorem State.setView_temps (s : State) (p : Pocket) (v : PocketView) : (s.setView p v).temps = s.temps := by cases p <;> rfl

@[simp] theorem State.setView_supply (s : State) (p : Pocket) (v : PocketView) : (s.setView p v).supply = s.supply := by cases p <;> rfl

@[simp] theorem State.setView_device (s : State) (p : Pocket) (v : PocketView) : (s.setView p v).device = s.device := by cases p <;> rfl

@[simp] theorem State.setView_trend (s : State) (p : Pocket) (v : PocketView) : (s.setView p v).trend = s.trend := by cases p <;> rfl

@[simp] theorem State.setView_link (s : State) (p : Pocket) (v : PocketView) : (s.setView p v).link = s.link := by cases p <;> rfl

@[simp] theorem State.setView_prescale (s : State) (p : Pocket) (v : PocketView) : (s.setView p v).prescale = s.prescale := by cases p <;> rfl

@[simp] theorem State.setView_free (s : State) (p : Pocket) (v : PocketView) : (s.setView p v).free = s.free := by cases p <;> rfl

@[simp] theorem State.setView_pending (s : State) (p : Pocket) (v : PocketView) : (s.setView p v).pending = s.pending := by cases p <;> rfl

@[simp] theorem State.setView_raced (s : State) (p : Pocket) (v : PocketView) : (s.setView p v).raced = s.raced := by cases p <;> rfl

@[simp] theorem State.setView_pool (s : State) (p : Pocket) (v : PocketView) : (s.setView p v).pool = v.pool := by cases p <;> rfl

@[simp] theorem State.setView_unit (s : State) (p : Pocket) (v : PocketView) : (s.setView p v).unit p = v.unit := by cases p <;> rfl

@[simp] theorem State.setView_unit_other (s : State) (p : Pocket) (v : PocketView) :
    (s.setView p v).unit (otherPocket p) = s.unit (otherPocket p) := by cases p <;> rfl

/-! ## A step of a sequencer -/

@[simp] theorem State.onPocket_temps (s : State) (p : Pocket) (f : PocketView → PocketView) : (s.onPocket p f).temps = s.temps := by cases p <;> rfl

@[simp] theorem State.onPocket_supply (s : State) (p : Pocket) (f : PocketView → PocketView) : (s.onPocket p f).supply = s.supply := by cases p <;> rfl

@[simp] theorem State.onPocket_device (s : State) (p : Pocket) (f : PocketView → PocketView) : (s.onPocket p f).device = s.device := by cases p <;> rfl

@[simp] theorem State.onPocket_trend (s : State) (p : Pocket) (f : PocketView → PocketView) : (s.onPocket p f).trend = s.trend := by cases p <;> rfl

@[simp] theorem State.onPocket_link (s : State) (p : Pocket) (f : PocketView → PocketView) : (s.onPocket p f).link = s.link := by cases p <;> rfl

@[simp] theorem State.onPocket_prescale (s : State) (p : Pocket) (f : PocketView → PocketView) : (s.onPocket p f).prescale = s.prescale := by cases p <;> rfl

@[simp] theorem State.onPocket_free (s : State) (p : Pocket) (f : PocketView → PocketView) : (s.onPocket p f).free = s.free := by cases p <;> rfl

@[simp] theorem State.onPocket_pending (s : State) (p : Pocket) (f : PocketView → PocketView) : (s.onPocket p f).pending = s.pending := by cases p <;> rfl

@[simp] theorem State.onPocket_raced (s : State) (p : Pocket) (f : PocketView → PocketView) : (s.onPocket p f).raced = s.raced := by cases p <;> rfl

@[simp] theorem State.onPocket_pool (s : State) (p : Pocket) (f : PocketView → PocketView) : (s.onPocket p f).pool = (f (s.view p)).pool := by cases p <;> rfl

@[simp] theorem State.onPocket_unit (s : State) (p : Pocket) (f : PocketView → PocketView) : (s.onPocket p f).unit p = (f (s.view p)).unit := by cases p <;> rfl

@[simp] theorem State.onPocket_unit_other (s : State) (p : Pocket) (f : PocketView → PocketView) :
    (s.onPocket p f).unit (otherPocket p) = s.unit (otherPocket p) := by cases p <;> rfl

/-! ## The view -/

@[simp] theorem State.view_pool (s : State) (p : Pocket) : (s.view p).pool = s.pool := rfl

@[simp] theorem State.view_unit (s : State) (p : Pocket) : (s.view p).unit = s.unit p := rfl

@[simp] theorem State.view_raced (s : State) (p : Pocket) : (s.view p).raced = false := rfl

@[simp] theorem PocketView.onUnit_pool (v : PocketView) (f : PocketUnit → PocketUnit) : (v.onUnit f).pool = v.pool := rfl

@[simp] theorem PocketView.onUnit_unit (v : PocketView) (f : PocketUnit → PocketUnit) : (v.onUnit f).unit = f v.unit := rfl

@[simp] theorem State.env_pocket (s : State) (p : Pocket) : (s.env p).pocket = p := rfl

@[simp] theorem State.env_reserveCycles (s : State) (p : Pocket) :
    (s.env p).reserveCycles = s.supply.config.reserveCycles := rfl

@[simp] theorem State.env_resumeLimit (s : State) (p : Pocket) :
    (s.env p).resumeLimit = s.supply.config.resumeLimit := rfl

@[simp] theorem State.env_silenceExpired (s : State) (p : Pocket) :
    (s.env p).silenceExpired = s.link.silenceExpired := rfl

@[simp] theorem State.env_racing (s : State) (p : Pocket) : (s.env p).racing = none := rfl

@[simp] theorem State.eventEnv_pocket (s : State) (p : Pocket) : (s.eventEnv p).pocket = p := rfl

@[simp] theorem State.eventEnv_reserveCycles (s : State) (p : Pocket) :
    (s.eventEnv p).reserveCycles = s.supply.config.reserveCycles := rfl

@[simp] theorem State.eventEnv_resumeLimit (s : State) (p : Pocket) :
    (s.eventEnv p).resumeLimit = s.supply.config.resumeLimit := rfl

@[simp] theorem State.eventEnv_silenceExpired (s : State) (p : Pocket) :
    (s.eventEnv p).silenceExpired = s.link.silenceExpired := rfl

/-- Where no write races, an event of a pocket has the surroundings of a request. -/
theorem State.eventEnv_of_no_write {s : State} {p : Pocket} (h : s.racingWrite p = none) : s.eventEnv p = s.env p := by
  simp [State.eventEnv, State.env, h]

/-! ## A reply -/

@[simp] theorem State.reply_pool (s : State) (k : Byte) (c : ResultCode) (d : List Byte) :
    (s.reply k c d).pool = s.pool := rfl

@[simp] theorem State.reply_lower (s : State) (k : Byte) (c : ResultCode) (d : List Byte) :
    (s.reply k c d).lower = s.lower := rfl

@[simp] theorem State.reply_upper (s : State) (k : Byte) (c : ResultCode) (d : List Byte) :
    (s.reply k c d).upper = s.upper := rfl

@[simp] theorem State.reply_temps (s : State) (k : Byte) (c : ResultCode) (d : List Byte) :
    (s.reply k c d).temps = s.temps := rfl

@[simp] theorem State.reply_supply (s : State) (k : Byte) (c : ResultCode) (d : List Byte) :
    (s.reply k c d).supply = s.supply := rfl

@[simp] theorem State.reply_device (s : State) (k : Byte) (c : ResultCode) (d : List Byte) :
    (s.reply k c d).device = s.device := rfl

@[simp] theorem State.reply_trend (s : State) (k : Byte) (c : ResultCode) (d : List Byte) :
    (s.reply k c d).trend = s.trend := rfl

@[simp] theorem State.reply_prescale (s : State) (k : Byte) (c : ResultCode) (d : List Byte) :
    (s.reply k c d).prescale = s.prescale := rfl

@[simp] theorem State.reply_free (s : State) (k : Byte) (c : ResultCode) (d : List Byte) :
    (s.reply k c d).free = s.free := rfl

@[simp] theorem State.reply_pending (s : State) (k : Byte) (c : ResultCode) (d : List Byte) :
    (s.reply k c d).pending = s.pending := rfl

@[simp] theorem State.reply_raced (s : State) (k : Byte) (c : ResultCode) (d : List Byte) :
    (s.reply k c d).raced = s.raced := rfl

@[simp] theorem State.reply_unit (s : State) (k : Byte) (c : ResultCode) (d : List Byte) (p : Pocket) :
    (s.reply k c d).unit p = s.unit p := by cases p <;> rfl

@[simp] theorem State.reply_link_assembler (s : State) (k : Byte) (c : ResultCode) (d : List Byte) :
    (s.reply k c d).link.assembler = s.link.assembler := rfl

@[simp] theorem State.reply_link_byteSilence (s : State) (k : Byte) (c : ResultCode) (d : List Byte) :
    (s.reply k c d).link.byteSilence = s.link.byteSilence := rfl

@[simp] theorem State.reply_link_inbound (s : State) (k : Byte) (c : ResultCode) (d : List Byte) :
    (s.reply k c d).link.inbound = s.link.inbound := rfl

@[simp] theorem State.reply_link_overrun (s : State) (k : Byte) (c : ResultCode) (d : List Byte) :
    (s.reply k c d).link.overrun = s.link.overrun := rfl

@[simp] theorem State.reply_link_tx (s : State) (k : Byte) (c : ResultCode) (d : List Byte) :
    (s.reply k c d).link.tx = s.link.tx := rfl

@[simp] theorem State.reply_link_silence (s : State) (k : Byte) (c : ResultCode) (d : List Byte) :
    (s.reply k c d).link.silence = s.link.silence := rfl

@[simp] theorem State.reply_link_silenceExpired (s : State) (k : Byte) (c : ResultCode) (d : List Byte) :
    (s.reply k c d).link.silenceExpired = s.link.silenceExpired := rfl

@[simp] theorem State.reply_answer (s : State) (k : Byte) (c : ResultCode) (d : List Byte) :
    (s.reply k c d).link.answer = some { kind := k + 0x80, result := some c, data := d } := rfl

/-- A reply reaches the slot if it is empty, and leaves an occupied one as it is (R199). -/
theorem State.reply_replySlot (s : State) (k : Byte) (c : ResultCode) (d : List Byte) :
    (s.reply k c d).link.replySlot =
      if s.link.replySlot.isNone then some { kind := k + 0x80, result := some c, data := d } else s.link.replySlot := rfl

/-- Two states with the same link give replies with the same link. -/
theorem State.reply_link_congr {s t : State} (h : t.link = s.link) (k : Byte) (c : ResultCode) (d : List Byte) :
    (t.reply k c d).link = (s.reply k c d).link := by simp [State.reply, h]

/-! ## An event of a pocket -/

/-- An event is a step of the pocket's sequencer, with the counter of the free values and the note of a raced write apart. -/
theorem State.onEvent_eq (s : State) (p : Pocket) (f : Env → PocketView → PocketView) :
    s.onEvent p f =
      { s.onPocket p (f (s.eventEnv p)) with free := (s.onEvent p f).free, raced := (s.onEvent p f).raced } := by
  cases p <;> simp only [State.onEvent] <;> split <;> rfl

@[simp] theorem State.onEvent_temps (s : State) (p : Pocket) (f : Env → PocketView → PocketView) :
    (s.onEvent p f).temps = s.temps := by
  rw [State.onEvent_eq]; simp

@[simp] theorem State.onEvent_supply (s : State) (p : Pocket) (f : Env → PocketView → PocketView) :
    (s.onEvent p f).supply = s.supply := by
  rw [State.onEvent_eq]; simp

@[simp] theorem State.onEvent_device (s : State) (p : Pocket) (f : Env → PocketView → PocketView) :
    (s.onEvent p f).device = s.device := by
  rw [State.onEvent_eq]; simp

@[simp] theorem State.onEvent_trend (s : State) (p : Pocket) (f : Env → PocketView → PocketView) :
    (s.onEvent p f).trend = s.trend := by
  rw [State.onEvent_eq]; simp

@[simp] theorem State.onEvent_link (s : State) (p : Pocket) (f : Env → PocketView → PocketView) :
    (s.onEvent p f).link = s.link := by
  rw [State.onEvent_eq]; simp

@[simp] theorem State.onEvent_prescale (s : State) (p : Pocket) (f : Env → PocketView → PocketView) :
    (s.onEvent p f).prescale = s.prescale := by
  rw [State.onEvent_eq]; simp

@[simp] theorem State.onEvent_pending (s : State) (p : Pocket) (f : Env → PocketView → PocketView) :
    (s.onEvent p f).pending = s.pending := by
  rw [State.onEvent_eq]; simp

@[simp] theorem State.onEvent_pool (s : State) (p : Pocket) (f : Env → PocketView → PocketView) :
    (s.onEvent p f).pool = (f (s.eventEnv p) (s.view p)).pool := by
  rw [State.onEvent_eq]; simp

@[simp] theorem State.onEvent_unit (s : State) (p : Pocket) (f : Env → PocketView → PocketView) :
    (s.onEvent p f).unit p = (f (s.eventEnv p) (s.view p)).unit := by
  rw [State.onEvent_eq]; cases p <;> rfl

@[simp] theorem State.onEvent_unit_other (s : State) (p : Pocket) (f : Env → PocketView → PocketView) :
    (s.onEvent p f).unit (otherPocket p) = s.unit (otherPocket p) := by
  rw [State.onEvent_eq]; cases p <;> rfl

/-- Where no write races, an event is a step of the pocket's sequencer and nothing else. -/
theorem State.onEvent_of_no_write {s : State} {p : Pocket} (h : s.racingWrite p = none)
    (f : Env → PocketView → PocketView) : s.onEvent p f = s.onPocket p (f (s.env p)) := by
  simp [State.onEvent, h, State.eventEnv_of_no_write, State.onPocket]

/-! ## A use of the free values -/

@[simp] theorem State.spendFree_pool (s : State) : s.spendFree.pool = s.pool := rfl

@[simp] theorem State.spendFree_lower (s : State) : s.spendFree.lower = s.lower := rfl

@[simp] theorem State.spendFree_upper (s : State) : s.spendFree.upper = s.upper := rfl

@[simp] theorem State.spendFree_temps (s : State) : s.spendFree.temps = s.temps := rfl

@[simp] theorem State.spendFree_supply (s : State) : s.spendFree.supply = s.supply := rfl

@[simp] theorem State.spendFree_device (s : State) : s.spendFree.device = s.device := rfl

@[simp] theorem State.spendFree_trend (s : State) : s.spendFree.trend = s.trend := rfl

@[simp] theorem State.spendFree_link (s : State) : s.spendFree.link = s.link := rfl

@[simp] theorem State.spendFree_prescale (s : State) : s.spendFree.prescale = s.prescale := rfl

@[simp] theorem State.spendFree_pending (s : State) : s.spendFree.pending = s.pending := rfl

@[simp] theorem State.spendFree_free (s : State) : s.spendFree.free = s.free + 1 := rfl

@[simp] theorem State.spendFree_raced (s : State) : s.spendFree.raced = s.raced := rfl

@[simp] theorem State.spendFree_unit (s : State) (p : Pocket) : s.spendFree.unit p = s.unit p := by cases p <;> rfl

/-! ## A step of the Trend Buffer -/

@[simp] theorem State.onTrend_pool (s : State) (f : TrendView → TrendView) : (s.onTrend f).pool = s.pool := rfl

@[simp] theorem State.onTrend_lower (s : State) (f : TrendView → TrendView) : (s.onTrend f).lower = s.lower := rfl

@[simp] theorem State.onTrend_upper (s : State) (f : TrendView → TrendView) : (s.onTrend f).upper = s.upper := rfl

@[simp] theorem State.onTrend_temps (s : State) (f : TrendView → TrendView) : (s.onTrend f).temps = s.temps := rfl

@[simp] theorem State.onTrend_supply (s : State) (f : TrendView → TrendView) : (s.onTrend f).supply = s.supply := rfl

@[simp] theorem State.onTrend_link (s : State) (f : TrendView → TrendView) : (s.onTrend f).link = s.link := rfl

@[simp] theorem State.onTrend_prescale (s : State) (f : TrendView → TrendView) : (s.onTrend f).prescale = s.prescale := rfl

@[simp] theorem State.onTrend_free (s : State) (f : TrendView → TrendView) : (s.onTrend f).free = s.free := rfl

@[simp] theorem State.onTrend_pending (s : State) (f : TrendView → TrendView) : (s.onTrend f).pending = s.pending := rfl

@[simp] theorem State.onTrend_raced (s : State) (f : TrendView → TrendView) : (s.onTrend f).raced = s.raced := rfl

@[simp] theorem State.onTrend_unit (s : State) (f : TrendView → TrendView) (p : Pocket) : (s.onTrend f).unit p = s.unit p := by
  cases p <;> rfl

@[simp] theorem State.onTrend_trend (s : State) (f : TrendView → TrendView) :
    (s.onTrend f).trend = (f { buffer := s.trend, device := s.device }).buffer := rfl

@[simp] theorem State.onTrend_device (s : State) (f : TrendView → TrendView) :
    (s.onTrend f).device = (f { buffer := s.trend, device := s.device }).device := rfl

/-! ## Channels -/

@[simp] theorem TempScan.setChannel_channel (t : TempScan) (c : Channel) (x : TempChannel) :
    (t.setChannel c x).channel c = x := by cases c <;> rfl

theorem TempScan.setChannel_channel_other (t : TempScan) {c d : Channel} (h : d ≠ c) (x : TempChannel) :
    (t.setChannel c x).channel d = t.channel d := by cases c <;> cases d <;> first | rfl | exact absurd rfl h

@[simp] theorem TempScan.setChannel_healthy (t : TempScan) (c : Channel) (x : TempChannel) :
    (t.setChannel c x).healthy = t.healthy := by cases c <;> rfl

end Sys2Proof.Machine
end

