-- ==== Sys2Proof/Laws/Pocket.lean ====
section
/-! SUPPORT. What the shared operations on one pocket can do: the small ones field by field, and for each operation of the
drum and of the sequencer the parts of the pocket that it keeps. -/

namespace Sys2Proof.Machine

/-! ## Notices and the fault latch -/

@[simp] theorem PocketUnit.raise_seq (n : PocketNotice) (u : PocketUnit) : (u.raise n).seq = u.seq := rfl
@[simp] theorem PocketUnit.raise_drum (n : PocketNotice) (u : PocketUnit) : (u.raise n).drum = u.drum := rfl
@[simp] theorem PocketUnit.raise_moist (n : PocketNotice) (u : PocketUnit) : (u.raise n).moist = u.moist := rfl
@[simp] theorem PocketUnit.raise_heat (n : PocketNotice) (u : PocketUnit) : (u.raise n).heat = u.heat := rfl
@[simp] theorem PocketUnit.raise_faults (n : PocketNotice) (u : PocketUnit) : (u.raise n).faults = u.faults := rfl
@[simp] theorem PocketUnit.raise_pins (n : PocketNotice) (u : PocketUnit) : (u.raise n).pins = u.pins := rfl
@[simp] theorem PocketUnit.raise_notices (n : PocketNotice) (u : PocketUnit) : (u.raise n).notices = u.notices.add n := rfl
@[simp] theorem PocketUnit.raise_noticeMark (n : PocketNotice) (u : PocketUnit) :
    (u.raise n).noticeMark = (u.noticeMark || u.notices.isEmpty) := rfl

/-- A latch leaves everything but the fault set and the notices (R176). -/
theorem PocketUnit.latch_keeps (f : PocketFault) (u : PocketUnit) :
    (u.latch f).seq = u.seq ∧ (u.latch f).drum = u.drum ∧ (u.latch f).moist = u.moist ∧ (u.latch f).heat = u.heat ∧
      (u.latch f).pins = u.pins := by
  unfold PocketUnit.latch; split <;> simp

@[simp] theorem PocketUnit.latch_seq (f : PocketFault) (u : PocketUnit) : (u.latch f).seq = u.seq := (u.latch_keeps f).1
@[simp] theorem PocketUnit.latch_drum (f : PocketFault) (u : PocketUnit) : (u.latch f).drum = u.drum :=
  (u.latch_keeps f).2.1
@[simp] theorem PocketUnit.latch_moist (f : PocketFault) (u : PocketUnit) : (u.latch f).moist = u.moist :=
  (u.latch_keeps f).2.2.1
@[simp] theorem PocketUnit.latch_heat (f : PocketFault) (u : PocketUnit) : (u.latch f).heat = u.heat :=
  (u.latch_keeps f).2.2.2.1
@[simp] theorem PocketUnit.latch_pins (f : PocketFault) (u : PocketUnit) : (u.latch f).pins = u.pins :=
  (u.latch_keeps f).2.2.2.2

/-- After a latch the fault is latched, and no other latch has changed (R176). -/
theorem PocketUnit.latch_faults (f : PocketFault) (u : PocketUnit) : (u.latch f).faults = u.faults.put f true := by
  unfold PocketUnit.latch
  split <;> rename_i h
  · cases f <;> simp_all [FaultSet.has, FaultSet.put] <;> cases hu : u.faults <;> simp_all
  · rfl

/-- A latched fault is found latched. -/
@[simp] theorem FaultSet.has_put (fs : FaultSet) (f g : PocketFault) (b : Bool) :
    (fs.put f b).has g = if g = f then b else fs.has g := by
  cases f <;> cases g <;> rfl

/-! ## Heat permission -/

@[simp] theorem PocketUnit.checkHeat_seq (u : PocketUnit) : u.checkHeat.seq = u.seq := by
  unfold PocketUnit.checkHeat; split <;> rfl
@[simp] theorem PocketUnit.checkHeat_drum (u : PocketUnit) : u.checkHeat.drum = u.drum := by
  unfold PocketUnit.checkHeat; split <;> rfl
@[simp] theorem PocketUnit.checkHeat_moist (u : PocketUnit) : u.checkHeat.moist = u.moist := by
  unfold PocketUnit.checkHeat; split <;> rfl
@[simp] theorem PocketUnit.checkHeat_faults (u : PocketUnit) : u.checkHeat.faults = u.faults := by
  unfold PocketUnit.checkHeat; split <;> rfl
@[simp] theorem PocketUnit.checkHeat_notices (u : PocketUnit) : u.checkHeat.notices = u.notices := by
  unfold PocketUnit.checkHeat; split <;> rfl
@[simp] theorem PocketUnit.checkHeat_noticeMark (u : PocketUnit) : u.checkHeat.noticeMark = u.noticeMark := by
  unfold PocketUnit.checkHeat; split <;> rfl
@[simp] theorem PocketUnit.checkHeat_pins (u : PocketUnit) : u.checkHeat.pins = u.pins := by
  unfold PocketUnit.checkHeat; split <;> rfl

/-- Heat is withdrawn from a pocket without permission and otherwise stays (R158). -/
theorem PocketUnit.checkHeat_heat (u : PocketUnit) :
    u.checkHeat.heat = if u.hasPermission then u.heat else u.heat.withdrawn := by
  unfold PocketUnit.checkHeat; split <;> rfl

/-- Permission does not depend on the heat state. -/
@[simp] theorem PocketUnit.checkHeat_hasPermission (u : PocketUnit) : u.checkHeat.hasPermission = u.hasPermission := by
  simp [PocketUnit.hasPermission]

/-- A pocket that is not RUNNING has no permission (R157). -/
theorem PocketUnit.hasPermission_of_not_running {u : PocketUnit} (h : u.seq.run ≠ .running) : u.hasPermission = false := by
  simp [PocketUnit.hasPermission, h]

/-! ## The drum -/

/-- What a step of the drum on its pocket keeps: the sequencer, the moisture unit, the fault set, the pins, the heat state but
for the reserve, and of the drum its table, order, twist and measurements. -/
structure PocketUnit.DrumStep (u v : PocketUnit) : Prop where
  seq    : v.seq = u.seq
  moist  : v.moist = u.moist
  faults : v.faults = u.faults
  pins   : v.pins = u.pins
  heat   : v.heat = { u.heat with reserve := v.heat.reserve }
  table  : v.drum.table = u.drum.table
  order  : v.drum.order = u.drum.order
  twist  : v.drum.twist = u.drum.twist
  speed  : v.drum.speed = u.drum.speed
  quiet  : v.drum.quiet = u.drum.quiet

/-- Nothing done is a step of the drum. -/
theorem PocketUnit.DrumStep.refl (u : PocketUnit) : u.DrumStep u := by constructor <;> rfl

/-- Two steps of the drum make one. -/
theorem PocketUnit.DrumStep.trans {u v w : PocketUnit} (h : u.DrumStep v) (k : v.DrumStep w) : u.DrumStep w where
  seq    := k.seq.trans h.seq
  moist  := k.moist.trans h.moist
  faults := k.faults.trans h.faults
  pins   := k.pins.trans h.pins
  heat   := by rw [k.heat, h.heat]
  table  := k.table.trans h.table
  order  := k.order.trans h.order
  twist  := k.twist.trans h.twist
  speed  := k.speed.trans h.speed
  quiet  := k.quiet.trans h.quiet

/-- A stop command keeps all but the state, the commanded speed, the pending direction and the timers (R80). -/
theorem Drum.stopCommand_keeps (d : Drum) :
    d.stopCommand.table = d.table ∧ d.stopCommand.order = d.order ∧ d.stopCommand.twist = d.twist ∧
      d.stopCommand.speed = d.speed ∧ d.stopCommand.quiet = d.quiet ∧ d.stopCommand.dir = d.dir ∧
      d.stopCommand.segment = d.segment ∧ d.stopCommand.unwind = d.unwind ∧ d.stopCommand.antiTangle = d.antiTangle ∧
      d.stopCommand.limitReached = d.limitReached ∧ d.stopCommand.entryTime = d.entryTime ∧
      d.stopCommand.imbalanceRun = d.imbalanceRun := by
  unfold Drum.stopCommand; split <;> simp

/-- After a stop command RUN is off and no direction is pending, if none was outside STOPPING and SETTLE (R80). -/
theorem Drum.stopCommand_stops (d : Drum) : d.stopCommand.runOutput = false := by
  unfold Drum.stopCommand; split <;> simp_all [Drum.runOutput]

/-- A test of the speed changes the speed-loss timer alone (R79). -/
theorem Drum.testSpeedLoss_eq (d : Drum) : d.testSpeedLoss = { d with speedLossTimer := d.testSpeedLoss.speedLossTimer } := by
  unfold Drum.testSpeedLoss; split <;> rfl

/-- A direction assertion is a step of the drum (R78). -/
theorem PocketUnit.assertDirection_step (cycles speed : Nat) (u : PocketUnit) : u.DrumStep (u.assertDirection cycles speed) := by
  constructor <;> rfl

/-- The beginning of a run is a step of the drum, which keeps DIR and the segment (R83). -/
theorem PocketUnit.beginRun_step (cycles : Nat) (dir : Dir) (speed : Nat) (u : PocketUnit) :
    u.DrumStep (u.beginRun cycles dir speed) ∧ (u.beginRun cycles dir speed).drum.dir = u.drum.dir ∧
      (u.beginRun cycles dir speed).drum.segment = u.drum.segment := by
  have h := Drum.stopCommand_keeps u.drum
  unfold PocketUnit.beginRun
  split
  all_goals first
    | exact ⟨PocketUnit.assertDirection_step .., rfl, rfl⟩
    | (refine ⟨?_, ?_, ?_⟩
       · constructor <;> simp [Drum.awaitStop, Drum.awaitReversal, h] <;> (rw [Drum.testSpeedLoss_eq])
       · simp [Drum.awaitStop, Drum.awaitReversal, h] <;> rw [Drum.testSpeedLoss_eq]
       · simp [Drum.awaitStop, Drum.awaitReversal, h] <;> rw [Drum.testSpeedLoss_eq])

/-- A run against DIR on a STOPPING drum waits, and the stop timer runs on or starts (R83, R90, entry 18). -/
theorem PocketUnit.beginRun_of_stopping (cycles : Nat) {dir : Dir} (speed : Nat) {u : PocketUnit} (hs : u.drum.state = .stopping)
    (hd : dir ≠ u.drum.dir) :
    u.beginRun cycles dir speed = { u with drum := { u.drum with
      pendingDir := some dir, entryTime := none, stopTimer := some (u.drum.stopTimer.getD 0) } } := by
  simp [PocketUnit.beginRun, hs, hd, Drum.awaitStop, Drum.awaitReversal]

/-- A run against DIR on a STOPPED drum settles with the time it has stood (R83, R85, entry 20). -/
theorem PocketUnit.beginRun_of_stopped (cycles : Nat) {dir : Dir} (speed : Nat) {u : PocketUnit} (hs : u.drum.state = .stopped)
    (hd : dir ≠ u.drum.dir) :
    u.beginRun cycles dir speed = { u with drum := { u.drum.awaitReversal dir with
      state := .settle, settleTimer := some (u.drum.settleTimer.getD 0) } } := by
  simp [PocketUnit.beginRun, hs, hd]

/-- The confirmation of a stop before a reversal begins the standstill (R81, R82). -/
theorem PocketUnit.confirmStop_of_pending (cycles : Nat) {dir : Dir} {u : PocketUnit} (h : u.drum.pendingDir = some dir) :
    u.confirmStop cycles = { u with drum := { u.drum with state := .settle, stopTimer := none, settleTimer := some 0 } } := by
  simp [PocketUnit.confirmStop, h]

/-- The count of an unwind is a step of the drum, which keeps DIR, the state and the segment (R107). -/
theorem PocketUnit.countUnwind_step (u : PocketUnit) :
    u.DrumStep u.countUnwind ∧ u.countUnwind.drum.dir = u.drum.dir ∧ u.countUnwind.drum.segment = u.drum.segment ∧
      u.countUnwind.drum.state = u.drum.state ∧ u.countUnwind.heat = u.heat := by
  unfold PocketUnit.countUnwind
  dsimp only
  split <;> exact ⟨by constructor <;> rfl, rfl, rfl, rfl, rfl⟩

/-- The insertion of an unwind step is a step of the drum, which keeps DIR and the segment and turns RUN off (R102). -/
theorem PocketUnit.insertUnwind_step (k : TriggerKind) (dir : Dir) (speed : Nat) (e : EntryNo) (u : PocketUnit) :
    u.DrumStep (u.insertUnwind k dir speed e) ∧ (u.insertUnwind k dir speed e).drum.dir = u.drum.dir ∧
      (u.insertUnwind k dir speed e).drum.segment = u.drum.segment ∧ (u.insertUnwind k dir speed e).heat = u.heat ∧
      (u.insertUnwind k dir speed e).drum.runOutput = false := by
  unfold PocketUnit.insertUnwind
  generalize hw : ({ u with drum := { u.drum with
    entryTime := none
    unwind := some _
    imbalanceRun := 0 } } : PocketUnit) = w
  obtain ⟨h, hd, hs, -, hh⟩ := PocketUnit.countUnwind_step w
  have hk := Drum.stopCommand_keeps w.countUnwind.drum
  subst hw
  refine ⟨?_, ?_, ?_, hh, Drum.stopCommand_stops _⟩
  · constructor
    · exact h.seq
    · exact h.moist
    · exact h.faults
    · exact h.pins
    · exact h.heat
    · exact hk.1.trans h.table
    · exact hk.2.1.trans h.order
    · exact hk.2.2.1.trans h.twist
    · exact hk.2.2.2.1.trans h.speed
    · exact hk.2.2.2.2.1.trans h.quiet
  · exact hk.2.2.2.2.2.1.trans hd
  · exact hk.2.2.2.2.2.2.1.trans hs

/-- A trigger is a step of the drum, which keeps DIR, the segment and the heat state. -/
theorem PocketUnit.trigger_step (k : TriggerKind) (u : PocketUnit) :
    u.DrumStep (u.trigger k) ∧ (u.trigger k).drum.dir = u.drum.dir ∧ (u.trigger k).drum.segment = u.drum.segment ∧
      (u.trigger k).heat = u.heat := by
  unfold PocketUnit.trigger
  split
  · obtain ⟨h, hd, hs, hh, -⟩ := PocketUnit.insertUnwind_step k _ _ _ u
    exact ⟨h, hd, hs, hh⟩
  · exact ⟨.refl u, rfl, rfl, rfl⟩

/-- The twist check is a step of the drum, which keeps DIR, the segment and the heat state (R101). -/
theorem PocketUnit.twistCheck_step (u : PocketUnit) :
    u.DrumStep u.twistCheck ∧ u.twistCheck.drum.dir = u.drum.dir ∧ u.twistCheck.drum.segment = u.drum.segment ∧
      u.twistCheck.heat = u.heat := by
  unfold PocketUnit.twistCheck
  split
  · exact PocketUnit.trigger_step ..
  · exact ⟨.refl u, rfl, rfl, rfl⟩

/-- The beginning of an entry is a step of the drum, which keeps DIR and the segment (R83, R85). -/
theorem PocketUnit.beginEntry_step (cycles : Nat) (u : PocketUnit) :
    u.DrumStep (u.beginEntry cycles) ∧ (u.beginEntry cycles).drum.dir = u.drum.dir ∧
      (u.beginEntry cycles).drum.segment = u.drum.segment := by
  have h := Drum.stopCommand_keeps u.drum
  unfold PocketUnit.beginEntry
  split
  · exact ⟨.refl u, rfl, rfl⟩
  · split
    · refine ⟨?_, ?_, ?_⟩
      · constructor <;> simp [h]
      · simp [h]
      · simp [h]
    · rename_i dir _
      obtain ⟨h1, d1, s1⟩ := PocketUnit.beginRun_step cycles dir _ u
      obtain ⟨h2, d2, s2, -⟩ := PocketUnit.twistCheck_step (u.beginRun cycles dir _)
      exact ⟨h1.trans h2, d2.trans d1, s2.trans s1⟩

/-- The next entry: a step of the drum, which keeps DIR and moves the cursor (R73). -/
theorem PocketUnit.nextEntry_step (cycles : Nat) (u : PocketUnit) :
    u.DrumStep (u.nextEntry cycles) ∧ (u.nextEntry cycles).drum.dir = u.drum.dir ∧
      (u.nextEntry cycles).drum.segment = u.drum.segment.map Segment.next := by
  obtain ⟨h, d, s⟩ := PocketUnit.beginEntry_step cycles { u with drum := u.drum.moveCursor }
  exact ⟨⟨h.seq, h.moist, h.faults, h.pins, h.heat, h.table, h.order, h.twist, h.speed, h.quiet⟩, d, s⟩

/-- An unwind dropped, or none to drop (R105, R106). -/
theorem Drum.dropUnwind_keeps (d : Drum) :
    d.dropUnwind.unwind = none ∧ d.dropUnwind.table = d.table ∧ d.dropUnwind.order = d.order ∧
      d.dropUnwind.twist = d.twist ∧ d.dropUnwind.speed = d.speed ∧ d.dropUnwind.quiet = d.quiet ∧
      d.dropUnwind.dir = d.dir ∧ d.dropUnwind.segment = d.segment ∧ d.dropUnwind.state = d.state ∧
      d.dropUnwind.antiTangle = d.antiTangle ∧ d.dropUnwind.limitReached = d.limitReached ∧
      d.dropUnwind.commanded = d.commanded ∧ d.dropUnwind.pendingDir = d.pendingDir := by
  unfold Drum.dropUnwind; split <;> rename_i h <;> simp_all

/-- The end of an unwind: a step of the drum, which keeps DIR and moves the cursor (R105). -/
theorem PocketUnit.endUnwind_step (cycles : Nat) (u : PocketUnit) :
    u.DrumStep (u.endUnwind cycles) ∧ (u.endUnwind cycles).drum.dir = u.drum.dir ∧
      (u.endUnwind cycles).drum.segment = u.drum.segment.map Segment.next := by
  have hk := Drum.dropUnwind_keeps u.drum
  obtain ⟨h, d, s⟩ := PocketUnit.nextEntry_step cycles { u with drum := u.drum.dropUnwind }
  exact ⟨⟨h.seq, h.moist, h.faults, h.pins, h.heat, h.table.trans hk.2.1, h.order.trans hk.2.2.1,
    h.twist.trans hk.2.2.2.1, h.speed.trans hk.2.2.2.2.1, h.quiet.trans hk.2.2.2.2.2.1⟩,
    d.trans hk.2.2.2.2.2.2.1, s.trans (by rw [hk.2.2.2.2.2.2.2.1])⟩

/-- The drum of a pocket that is held: a step of the drum, which keeps DIR (R87, R106). -/
theorem PocketUnit.holdDrum_step (cycles : Nat) (u : PocketUnit) :
    u.DrumStep (u.holdDrum cycles) ∧ (u.holdDrum cycles).drum.dir = u.drum.dir := by
  unfold PocketUnit.holdDrum
  split
  · exact ⟨(PocketUnit.endUnwind_step cycles u).1, (PocketUnit.endUnwind_step cycles u).2.1⟩
  · exact ⟨.refl u, rfl⟩

/-- The handing of a segment under RUN SEGMENT, its order apart, is a step of the drum (R72). -/
theorem PocketUnit.handRunning_keeps (cycles : Nat) (first last : EntryNo) (u : PocketUnit) :
    let v := u.handRunning cycles first last
    v.seq = u.seq ∧ v.moist = u.moist ∧ v.faults = u.faults ∧ v.pins = u.pins ∧
      v.heat = { u.heat with reserve := v.heat.reserve } ∧ v.drum.table = u.drum.table ∧ v.drum.order = .runSegment ∧
      v.drum.twist = u.drum.twist ∧ v.drum.dir = u.drum.dir ∧
      v.drum.segment = some { first := first, last := last, cursor := first } := by
  obtain ⟨h, d, s⟩ := PocketUnit.beginEntry_step cycles
    { u with drum := { u.drum.handed first last with order := .runSegment } }
  exact ⟨h.seq, h.moist, h.faults, h.pins, h.heat, h.table, h.order, h.twist, d, s⟩

/-- The suspended entry begun anew, the order apart, is a step of the drum (R86). -/
theorem PocketUnit.resumeEntry_keeps (cycles : Nat) (u : PocketUnit) :
    let v := u.resumeEntry cycles
    v.seq = u.seq ∧ v.moist = u.moist ∧ v.faults = u.faults ∧ v.pins = u.pins ∧
      v.heat = { u.heat with reserve := v.heat.reserve } ∧ v.drum.table = u.drum.table ∧ v.drum.order = .runSegment ∧
      v.drum.twist = u.drum.twist ∧ v.drum.dir = u.drum.dir ∧ v.drum.segment = u.drum.segment := by
  obtain ⟨h, d, s⟩ := PocketUnit.beginEntry_step cycles { u with drum := { u.drum with order := .runSegment } }
  exact ⟨h.seq, h.moist, h.faults, h.pins, h.heat, h.table, h.order, h.twist, d, s⟩

/-- A drum that is suspended is stopped, with no unwind step, and keeps DIR, the twist and its table (R86). -/
theorem Drum.suspend_stops (d : Drum) :
    d.StoppedFrom d.suspend ∧ d.suspend.antiTangle = d.antiTangle ∧ d.suspend.limitReached = d.limitReached ∧
      d.suspend.entryTime = none := by
  unfold Drum.suspend
  dsimp only
  split <;> rename_i h
  · have hk := Drum.dropUnwind_keeps d
    have hs := Drum.stopCommand_keeps d.dropUnwind.moveCursor
    have hr := Drum.stopCommand_stops d.dropUnwind.moveCursor
    refine ⟨⟨hr, ?_, ?_, rfl, ?_, ?_, ?_⟩, ?_, ?_, rfl⟩
    · have : Drum.runOutput { d.dropUnwind.moveCursor.stopCommand with order := .stop, entryTime := none } = false := hr
      simp [Drum.speedReference, this]
    · exact hs.2.2.2.2.2.1.trans hk.2.2.2.2.2.2.1
    · exact hs.2.2.2.2.2.2.2.1.trans hk.1
    · exact hs.1.trans hk.2.1
    · exact hs.2.2.1.trans hk.2.2.2.1
    · exact hs.2.2.2.2.2.2.2.2.1.trans hk.2.2.2.2.2.2.2.2.2.1
    · exact hs.2.2.2.2.2.2.2.2.2.1.trans hk.2.2.2.2.2.2.2.2.2.2.1
  · have hs := Drum.stopCommand_keeps d
    have hr := Drum.stopCommand_stops d
    refine ⟨⟨hr, ?_, ?_, rfl, ?_, ?_, ?_⟩, ?_, ?_, rfl⟩
    · have : Drum.runOutput { d.stopCommand with order := .stop, entryTime := none } = false := hr
      simp [Drum.speedReference, this]
    · exact hs.2.2.2.2.2.1
    · simpa using hs.2.2.2.2.2.2.2.1.trans (by simpa using h)
    · exact hs.1
    · exact hs.2.2.1
    · exact hs.2.2.2.2.2.2.2.2.1
    · exact hs.2.2.2.2.2.2.2.2.2.1

/-- A drum whose segment is discarded is stopped, with no segment and no unwind step (R88). -/
theorem Drum.discard_stops (d : Drum) :
    d.StoppedFrom d.discard ∧ d.discard.segment = none ∧ d.discard.pendingDir = none := by
  have hk := Drum.dropUnwind_keeps d
  have hs := Drum.stopCommand_keeps d.dropUnwind
  have hr := Drum.stopCommand_stops d.dropUnwind
  refine ⟨⟨hr, ?_, ?_, rfl, ?_, ?_, ?_⟩, rfl, rfl⟩
  · have : Drum.runOutput d.discard = false := hr
    simp [Drum.speedReference, this]
  · exact hs.2.2.2.2.2.1.trans hk.2.2.2.2.2.2.1
  · exact hs.2.2.2.2.2.2.2.1.trans hk.1
  · exact hs.1.trans hk.2.1
  · exact hs.2.2.1.trans hk.2.2.2.1

end Sys2Proof.Machine
end

