-- ==== Sys2Proof/Laws/Sequence.lean ====
section
/-! SUPPORT. What the shared operations of the Pocket Sequencer can do: one lemma each for the close of a phase, the release
and activation of a slot, the entries into the run states, and a fault report. -/

namespace Sys2Proof.Machine

/-! ## Histories -/

/-- An outcome written into a history changes its newest entry alone (R33). -/
theorem setOutcome_concat (o : Option PhaseOutcome) (h : List Checkpoint) (c : Checkpoint) :
    setOutcome o (h ++ [c]) = h ++ [{ c with outcome := o }] := by
  induction h with
  | nil => rfl
  | cons x xs ih =>
    cases xs with
    | nil => rfl
    | cons y ys => simpa [setOutcome] using ih

/-- The newest entry after an outcome was written. -/
theorem setOutcome_getLast? {h : List Checkpoint} {c : Checkpoint} (hc : h.getLast? = some c) (o : Option PhaseOutcome) :
    (setOutcome o h).getLast? = some { c with outcome := o } := by
  obtain ⟨ys, rfl⟩ := List.getLast?_eq_some_iff.mp hc
  simp [setOutcome_concat]

/-- The length of a history does not change by an outcome. -/
@[simp] theorem setOutcome_length (o : Option PhaseOutcome) (h : List Checkpoint) : (setOutcome o h).length = h.length := by
  induction h with
  | nil => rfl
  | cons x xs ih =>
    cases xs with
    | nil => rfl
    | cons y ys => simpa [setOutcome] using ih

/-- A pushed entry is the newest one (R58). -/
@[simp] theorem pushHistory_getLast? (h : List Checkpoint) (c : Checkpoint) : (pushHistory h c).getLast? = some c := by
  simp [pushHistory]

/-- A history holds at most 8 entries after a push (R58). -/
theorem pushHistory_length_le (h : List Checkpoint) (c : Checkpoint) (hl : h.length ≤ 8) : (pushHistory h c).length ≤ 8 := by
  unfold pushHistory; split <;> simp <;> omega

/-! ## The close of a phase -/

/-- Whether a close writes an outcome: the phase is open or held (R33). -/
def Sequencer.closable (q : Sequencer) : Bool := q.phaseOpen || q.phaseHeld

/-- The close of a phase: history and notices as R33 says, the window abandoned, all else kept. -/
theorem PocketUnit.closePhase_does (o : PhaseOutcome) (u : PocketUnit) :
    (u.closePhase o).seq =
        { u.seq with history := if u.seq.closable then setOutcome (some o) u.seq.history else u.seq.history } ∧
      (u.closePhase o).drum = u.drum ∧ (u.closePhase o).heat = u.heat ∧ (u.closePhase o).faults = u.faults ∧
      (u.closePhase o).pins = u.pins ∧ (u.closePhase o).moist = { u.moist with window := none } ∧
      (u.closePhase o).notices = (if u.seq.closable then u.notices.add .phaseEnd else u.notices) := by
  unfold PocketUnit.closePhase Sequencer.closable PocketUnit.abandonWindow
  dsimp only
  split <;> simp_all

@[simp] theorem PocketUnit.closePhase_seq (o : PhaseOutcome) (u : PocketUnit) : (u.closePhase o).seq =
    { u.seq with history := if u.seq.closable then setOutcome (some o) u.seq.history else u.seq.history } :=
  (u.closePhase_does o).1
@[simp] theorem PocketUnit.closePhase_drum (o : PhaseOutcome) (u : PocketUnit) : (u.closePhase o).drum = u.drum :=
  (u.closePhase_does o).2.1
@[simp] theorem PocketUnit.closePhase_heat (o : PhaseOutcome) (u : PocketUnit) : (u.closePhase o).heat = u.heat :=
  (u.closePhase_does o).2.2.1
@[simp] theorem PocketUnit.closePhase_faults (o : PhaseOutcome) (u : PocketUnit) : (u.closePhase o).faults = u.faults :=
  (u.closePhase_does o).2.2.2.1
@[simp] theorem PocketUnit.closePhase_pins (o : PhaseOutcome) (u : PocketUnit) : (u.closePhase o).pins = u.pins :=
  (u.closePhase_does o).2.2.2.2.1
@[simp] theorem PocketUnit.closePhase_moist (o : PhaseOutcome) (u : PocketUnit) :
    (u.closePhase o).moist = { u.moist with window := none } := (u.closePhase_does o).2.2.2.2.2.1
@[simp] theorem PocketUnit.closePhase_notices (o : PhaseOutcome) (u : PocketUnit) :
    (u.closePhase o).notices = (if u.seq.closable then u.notices.add .phaseEnd else u.notices) :=
  (u.closePhase_does o).2.2.2.2.2.2

/-! ## Release and activation -/

/-- A release: the active slot goes to LOADED and the pocket holds none (R22). -/
theorem PocketView.release_does (p : Pocket) (v : PocketView) :
    (v.release p).unit = { v.unit with seq := { v.unit.seq with work := { v.unit.seq.work with active := none } } } ∧
      (∀ j : SlotNo, v.unit.seq.work.active ≠ some j → (v.release p).pool[j] = v.pool[j]) ∧
      (∀ i : SlotNo, v.unit.seq.work.active = some i → (v.release p).pool[i] = v.pool[i].releasedBy p) := by
  unfold PocketView.release
  split <;> rename_i ha
  · refine ⟨?_, by simp, by simp [ha]⟩
    obtain ⟨pool, unit⟩ := v
    obtain ⟨seq, drum, moist, heat, faults, notices, noticeMark, pins⟩ := unit
    obtain ⟨run, work⟩ := seq
    obtain ⟨active⟩ := work
    subst ha
    rfl
  · rename_i i
    rw [ha]
    refine ⟨rfl, ?_, ?_⟩
    · intro j hj
      have : i.val ≠ j.val := by intro e; exact hj (congrArg some (Fin.ext e))
      simp [this]
    · intro k hk; injection hk with hk; subst hk; simp

@[simp] theorem PocketView.release_unit (p : Pocket) (v : PocketView) : (v.release p).unit =
    { v.unit with seq := { v.unit.seq with work := { v.unit.seq.work with active := none } } } := (v.release_does p).1

/-- The working set taken: all of the pocket but the working set and the notices stays (R16, R18). -/
theorem PocketUnit.takeWork_does (i : SlotNo) (r : PhaseRecord) (u : PocketUnit) :
    (u.takeWork i r).seq = { u.seq with work := workFrom i r u.seq.profile u.moist.valid } ∧
      (u.takeWork i r).drum = u.drum ∧ (u.takeWork i r).moist = u.moist ∧ (u.takeWork i r).heat = u.heat ∧
      (u.takeWork i r).faults = u.faults ∧ (u.takeWork i r).pins = u.pins := by
  unfold PocketUnit.takeWork; dsimp only; split <;> simp

@[simp] theorem PocketUnit.takeWork_seq (i : SlotNo) (r : PhaseRecord) (u : PocketUnit) :
    (u.takeWork i r).seq = { u.seq with work := workFrom i r u.seq.profile u.moist.valid } := (u.takeWork_does i r).1
@[simp] theorem PocketUnit.takeWork_drum (i : SlotNo) (r : PhaseRecord) (u : PocketUnit) :
    (u.takeWork i r).drum = u.drum := (u.takeWork_does i r).2.1
@[simp] theorem PocketUnit.takeWork_moist (i : SlotNo) (r : PhaseRecord) (u : PocketUnit) :
    (u.takeWork i r).moist = u.moist := (u.takeWork_does i r).2.2.1
@[simp] theorem PocketUnit.takeWork_heat (i : SlotNo) (r : PhaseRecord) (u : PocketUnit) :
    (u.takeWork i r).heat = u.heat := (u.takeWork_does i r).2.2.2.1
@[simp] theorem PocketUnit.takeWork_faults (i : SlotNo) (r : PhaseRecord) (u : PocketUnit) :
    (u.takeWork i r).faults = u.faults := (u.takeWork_does i r).2.2.2.2.1
@[simp] theorem PocketUnit.takeWork_pins (i : SlotNo) (r : PhaseRecord) (u : PocketUnit) :
    (u.takeWork i r).pins = u.pins := (u.takeWork_does i r).2.2.2.2.2

/-- What a slot taken into use leaves on the pocket (R16, R17). -/
theorem PocketView.enterSlot_does (env : Env) (i : SlotNo) (r : PhaseRecord) (v : PocketView) :
    let w := v.enterSlot env i r
    let kept := if r.quals.keepEstimate then v.unit.moist.estimate else none
    w.pool[i] = .active env.pocket r ∧ (∀ j : SlotNo, j ≠ i → w.pool[j] = v.pool[j]) ∧
      w.unit.seq =
        { v.unit.seq with
          work := workFrom i r v.unit.seq.profile v.unit.moist.valid
          history := pushHistory v.unit.seq.history
            { slot := i, ordinal := bump 65535 v.unit.seq.activations, eStart := kept, twistStart := v.unit.drum.twist,
              outcome := none }
          activations := bump 65535 v.unit.seq.activations
          phaseTimer := 0
          confirm := 0 } ∧
      w.unit.moist.estimate = kept ∧ w.unit.moist.window.isSome = true ∧ w.unit.faults = v.unit.faults ∧
      w.unit.pins = v.unit.pins ∧ w.unit.heat = { v.unit.heat with reserve := w.unit.heat.reserve } ∧
      w.unit.drum.order = .runSegment ∧ w.unit.drum.twist = v.unit.drum.twist ∧ w.unit.drum.dir = v.unit.drum.dir ∧
      w.unit.drum.table = v.unit.drum.table ∧
      w.unit.drum.segment = some { first := r.segFirst, last := r.segLast, cursor := r.segFirst } := by
  intro w kept
  have hk := PocketUnit.handRunning_keeps env.reserveCycles r.segFirst r.segLast
    (PocketUnit.alignWindow
      { v.unit.takeWork i r with
        seq := { (v.unit.takeWork i r).seq with
          history := pushHistory (v.unit.takeWork i r).seq.history ((v.unit.takeWork i r).newCheckpoint i)
          activations := bump 65535 (v.unit.takeWork i r).seq.activations
          phaseTimer := 0
          confirm := 0 }
        drum := { (v.unit.takeWork i r).drum with antiTangle := 0, limitReached := false }
        moist := { (v.unit.takeWork i r).moist with estimate := (v.unit.takeWork i r).carriedEstimate } })
  have hw : w.unit = PocketUnit.handRunning env.reserveCycles r.segFirst r.segLast
    (PocketUnit.alignWindow
      { v.unit.takeWork i r with
        seq := { (v.unit.takeWork i r).seq with
          history := pushHistory (v.unit.takeWork i r).seq.history ((v.unit.takeWork i r).newCheckpoint i)
          activations := bump 65535 (v.unit.takeWork i r).seq.activations
          phaseTimer := 0
          confirm := 0 }
        drum := { (v.unit.takeWork i r).drum with antiTangle := 0, limitReached := false }
        moist := { (v.unit.takeWork i r).moist with estimate := (v.unit.takeWork i r).carriedEstimate } }) := by
    simp [w, PocketView.enterSlot, PocketUnit.completeActivation, workFrom]
  obtain ⟨h1, h2, h3, h4, h5, h6, h7, h8, h9, h10⟩ := hk
  rw [← hw] at h1 h2 h3 h4 h5 h6 h7 h8 h9 h10
  refine ⟨?_, ?_, ?_, ?_, ?_, ?_, ?_, ?_, h7, ?_, ?_, ?_, h10⟩
  · simp [w, PocketView.enterSlot]
  · intro j hj
    have : i.val ≠ j.val := fun e => hj (Fin.ext e.symm)
    simp [w, PocketView.enterSlot, this]
  · rw [h1]; simp [PocketUnit.alignWindow, PocketUnit.newCheckpoint, PocketUnit.carriedEstimate, workFrom, kept]
  · rw [h2]; simp [PocketUnit.alignWindow, PocketUnit.carriedEstimate, workFrom, kept]
  · rw [h2]; rfl
  · rw [h3]; simp [PocketUnit.alignWindow]
  · rw [h4]; simp [PocketUnit.alignWindow]
  · rw [h5]; simp [PocketUnit.alignWindow]
  · rw [h8]; simp [PocketUnit.alignWindow]
  · rw [h9]; simp [PocketUnit.alignWindow]
  · rw [h6]; simp [PocketUnit.alignWindow]

/-! ## Heat that is off -/

/-- Withdrawn heat is off (R158). -/
theorem PocketHeat.withdrawn_isOff (h : PocketHeat) : h.withdrawn.IsOff := by
  refine ⟨rfl, rfl, fun j => ?_⟩
  simp [PocketHeat.withdrawn, Element.off]

/-- A pocket without permission has its heat off after the check (R158). -/
theorem PocketUnit.checkHeat_isOff {u : PocketUnit} (h : u.hasPermission = false) : u.checkHeat.heat.IsOff := by
  rw [PocketUnit.checkHeat_heat, h]; exact PocketHeat.withdrawn_isOff _

/-! ## Entries into run states -/

/-- Entry into HALTED (R51). -/
theorem PocketView.enterHalted_does (env : Env) (v : PocketView) :
    let w := v.enterHalted env
    w.pool = (v.release env.pocket).pool ∧
      w.unit.seq =
        { v.unit.seq with
          run := .halted, work := { v.unit.seq.work with active := none, quals := Quals.none }, held := false,
          restored := false, unattended := false, safeBegun := false, fanRunOn := 120, fanFraction := 0 } ∧
      w.unit.drum = v.unit.drum.discard ∧ w.unit.moist = { v.unit.moist with window := none } ∧
      w.unit.faults = v.unit.faults ∧ w.unit.notices = v.unit.notices ∧ w.unit.pins = v.unit.pins ∧ w.unit.heat.IsOff := by
  refine ⟨rfl, ?_, ?_, ?_, ?_, ?_, ?_, ?_⟩
  all_goals simp [PocketView.enterHalted, PocketUnit.clearQuals, PocketUnit.abandonWindow, fanRunOnSeconds]
  exact PocketUnit.checkHeat_isOff (PocketUnit.hasPermission_of_not_running (by simp))

/-- Entry into DONE (R35). -/
theorem PocketView.enterDone_does (env : Env) (v : PocketView) :
    let w := v.enterDone env
    w.pool = (v.release env.pocket).pool ∧
      w.unit.seq =
        { v.unit.seq with run := .done, work := { v.unit.seq.work with active := none }, safeBegun := false } ∧
      w.unit.drum = v.unit.drum.discard ∧ w.unit.moist = { v.unit.moist with window := none } ∧
      w.unit.faults = v.unit.faults ∧ w.unit.notices = v.unit.notices.add .chainDone ∧ w.unit.pins = v.unit.pins ∧
      w.unit.heat.IsOff := by
  refine ⟨rfl, ?_, ?_, ?_, ?_, ?_, ?_, ?_⟩
  all_goals simp [PocketView.enterDone, PocketUnit.abandonWindow]
  exact PocketUnit.checkHeat_isOff (PocketUnit.hasPermission_of_not_running (by simp))

/-- The release of an activation is a release, or, where a write to the released slot races with it, the release and then the
write (R14, R20). -/
theorem PocketView.vacate_cases (env : Env) (i : SlotNo) (v : PocketView) :
    v.vacate env i = v.release env.pocket ∨
      ∃ x : Slot, env.racing = some (i, x) ∧ v.unit.seq.work.active = some i ∧ v.raced = false ∧
        v.vacate env i =
          { v.release env.pocket with pool := (v.release env.pocket).pool.set i x, raced := true } := by
  unfold PocketView.vacate
  dsimp only
  split
  · exact .inl rfl
  · rename_i j x h
    split
    · rename_i k
      obtain ⟨rfl, ha, hr⟩ := k
      exact .inr ⟨x, h, ha, hr, rfl⟩
    · exact .inl rfl

/-- No write races with a request (R200). -/
theorem PocketView.vacate_of_no_race {env : Env} (h : env.racing = none) (i : SlotNo) (v : PocketView) :
    v.vacate env i = v.release env.pocket := by
  simp [PocketView.vacate, h]

/-- The pocket's own part after the release of an activation is as after a release. -/
@[simp] theorem PocketView.vacate_unit (env : Env) (i : SlotNo) (v : PocketView) :
    (v.vacate env i).unit = (v.release env.pocket).unit := by
  rcases v.vacate_cases env i with h | ⟨x, -, -, -, h⟩ <;> rw [h]

/-- The release of an activation leaves every slot but the one released and the one to be activated. -/
theorem PocketView.vacate_pool_other (env : Env) (i j : SlotNo) (v : PocketView) (h : j ≠ i) :
    (v.vacate env i).pool[j] = (v.release env.pocket).pool[j] := by
  rcases v.vacate_cases env i with k | ⟨x, -, -, -, k⟩ <;> rw [k]
  have : i.val ≠ j.val := fun e => h (Fin.ext e.symm)
  simp [this]

/-- An activation that passes its check takes the slot into use; one that fails leaves the pocket with no slot (R14, R15). -/
theorem PocketView.activate_cases (env : Env) (i : SlotNo) (v : PocketView) :
    (∃ r, (v.vacate env i).check i = .ok r ∧ v.activate env i = ((v.vacate env i).enterSlot env i r, none)) ∨
      (∃ e, (v.vacate env i).check i = .error e ∧ v.activate env i = (v.vacate env i, some e)) := by
  unfold PocketView.activate
  dsimp only
  split <;> rename_i h
  · exact .inl ⟨_, h, rfl⟩
  · exact .inr ⟨_, h, rfl⟩

/-- CHAIN latched and the pocket halted (R47, R178). -/
theorem PocketView.chainHalt_does (env : Env) (v : PocketView) :
    let w := v.chainHalt env
    w.unit.seq =
        { v.unit.seq with
          run := .halted, work := { v.unit.seq.work with active := none, quals := Quals.none }, held := false,
          restored := false, unattended := false, safeBegun := false, fanRunOn := 120, fanFraction := 0 } ∧
      w.unit.drum = v.unit.drum.discard ∧ w.unit.faults = v.unit.faults.put .chain true ∧ w.unit.pins = v.unit.pins ∧
      w.unit.heat.IsOff := by
  obtain ⟨-, h1, h2, -, h3, -, h4, h5⟩ := PocketView.enterHalted_does env (v.onUnit (PocketUnit.latch .chain))
  refine ⟨?_, ?_, ?_, ?_, h5⟩
  · rw [PocketView.chainHalt, h1]; simp
  · rw [PocketView.chainHalt, h2]; simp
  · rw [PocketView.chainHalt, h3]; simp [PocketUnit.latch_faults]
  · rw [PocketView.chainHalt, h4]; simp

/-- Entry into SAFE ends in SAFE on the anchor's slot or in HALTED with CHAIN latched, in both with heat off (R47). -/
theorem PocketView.enterSafe_cases (env : Env) (v : PocketView) :
    let w := v.enterSafe env
    (∃ a r, v.unit.seq.anchor = some a ∧ ((v.onUnit PocketUnit.clearQuals).vacate env a).check a = .ok r ∧
        w = (((v.onUnit PocketUnit.clearQuals).vacate env a).enterSlot env a r).onUnit PocketUnit.becomeSafe ∧
        w.unit.seq.run = .safe ∧ w.unit.seq.safeBegun = true ∧ w.unit.seq.work.active = some a ∧ w.unit.heat.IsOff) ∨
      (w.unit.seq.run = .halted ∧ w.unit.faults.chain = true ∧ w.unit.seq.work.active = none ∧ w.unit.heat.IsOff) := by
  intro w
  have halts : ∀ x : PocketView, (x.chainHalt env).unit.seq.run = .halted ∧ (x.chainHalt env).unit.faults.chain = true ∧
      (x.chainHalt env).unit.seq.work.active = none ∧ (x.chainHalt env).unit.heat.IsOff := fun x => by
    obtain ⟨h1, -, h3, -, h5⟩ := x.chainHalt_does env
    refine ⟨by rw [h1], by rw [h3]; rfl, by rw [h1], h5⟩
  simp only [w, PocketView.enterSafe]
  split <;> rename_i ha
  · exact .inr (halts _)
  · rename_i a
    obtain ⟨r, hc, he⟩ | ⟨e, hc, he⟩ := (v.onUnit PocketUnit.clearQuals).activate_cases env a
    · rw [he]
      refine .inl ⟨a, r, ha, hc, rfl, ?_, ?_, ?_, ?_⟩
      · simp [PocketUnit.becomeSafe]
      · simp [PocketUnit.becomeSafe]
      · have := (PocketView.enterSlot_does env a r ((v.onUnit PocketUnit.clearQuals).vacate env a)).2.2.1
        simp [PocketUnit.becomeSafe, this, workFrom]
      · exact PocketUnit.checkHeat_isOff (PocketUnit.hasPermission_of_not_running (by simp))
    · rw [he]; exact .inr (halts _)

/-- A report while the silence timer is not expired changes nothing (R203). -/
theorem PocketView.reportOnEntry_quiet {env : Env} (h : env.silenceExpired = false) (before : RunState) (v : PocketView) :
    v.reportOnEntry env before = v := by
  simp [PocketView.reportOnEntry, h]

/-- A run state taken while the silence timer is not expired (R157, R203). -/
theorem PocketView.become_quiet {env : Env} (h : env.silenceExpired = false) (st : RunState) (v : PocketView) :
    v.become env st = v.onUnit fun u => PocketUnit.checkHeat { u with seq := { u.seq with run := st } } := by
  simp [PocketView.become, PocketView.reportOnEntry_quiet h]

end Sys2Proof.Machine
end

