-- ==== Sys2Proof/Laws/Blocks.lean ====
section
/-! SUPPORT. What each shared operation of the other blocks can do, said once: fault reports and the chain's advance, the
moisture capture, a temperature channel, the arbiter's examination, the trend switch, the Link Port's reception, and the passing
of time. -/

namespace Sys2Proof.Machine

/-! ## Fault reports and the chain -/

/-- A report (R176, R179): a fault not latched is latched and responded to; one already latched does nothing, but for a
LINK_LOST that reaches a PAUSED pocket; heat then follows the permission. -/
theorem PocketView.report_cases (env : Env) (f : PocketFault) (v : PocketView) :
    (v.unit.faults.has f = false ∧
      v.report env f = (PocketView.respond env f (v.onUnit (PocketUnit.latch f))).onUnit PocketUnit.checkHeat) ∨
    (v.unit.faults.has f = true ∧ f = .linkLost ∧ v.unit.seq.run = .paused ∧
      v.report env f = (v.abandonedByHost env).onUnit PocketUnit.checkHeat) ∨
    (v.unit.faults.has f = true ∧ ¬(f = .linkLost ∧ v.unit.seq.run = .paused) ∧
      v.report env f = v.onUnit PocketUnit.checkHeat) := by
  unfold PocketView.report
  by_cases h : v.unit.faults.has f = true
  · by_cases k : f = .linkLost ∧ v.unit.seq.run = .paused
    · exact .inr (.inl ⟨h, k.1, k.2, by rw [if_pos h, if_pos k]⟩)
    · exact .inr (.inr ⟨h, k, by rw [if_pos h, if_neg k]⟩)
  · exact .inl ⟨by simpa using h, by rw [if_neg h]⟩

/-- The end of a phase (R34, R35): closed, it is held under HOLD_AT_END in RUNNING with an outcome that lets it, and advances
otherwise. -/
theorem PocketView.endPhase_cases (env : Env) (o : PhaseOutcome) (v : PocketView) :
    (v.unit.seq.run = .running ∧ v.unit.seq.work.quals.holdAtEnd = true ∧ o.holds = true ∧
      v.endPhase env o = (v.onUnit (PocketUnit.closePhase o)).enterHeld env) ∨
    (¬(v.unit.seq.run = .running ∧ v.unit.seq.work.quals.holdAtEnd = true ∧ o.holds = true) ∧
      v.endPhase env o = (v.onUnit (PocketUnit.closePhase o)).advance env) := by
  unfold PocketView.endPhase
  simp only [PocketView.onUnit, PocketUnit.closePhase_seq]
  by_cases h : v.unit.seq.run = .running ∧ v.unit.seq.work.quals.holdAtEnd = true ∧ o.holds = true
  · exact .inl ⟨h.1, h.2.1, h.2.2, by rw [if_pos h]⟩
  · exact .inr ⟨h, by rw [if_neg h]⟩

/-! ## The moisture capture -/

/-- The end of a period (R112, R114): it goes to the calibration part if one runs, else to the window if one runs, else nowhere;
the count restarts. -/
theorem Moisture.endPeriod_cases (openLimit : Nat) (byEdge : Bool) (m : Moisture) :
    (∃ c : Calibration, m.calibration = some c ∧
      m.endPeriod openLimit byEdge = { m with capture := 0, calibration := some (c.add ⟨m.capture, byEdge⟩) }) ∨
    (∃ w : SenseWindow, m.calibration = none ∧ m.window = some w ∧
      m.endPeriod openLimit byEdge =
        { m with capture := 0, window := some (w.add m.capture (m.weight openLimit ⟨m.capture, byEdge⟩)) }) ∨
    (m.calibration = none ∧ m.window = none ∧ m.endPeriod openLimit byEdge = { m with capture := 0 }) := by
  obtain ⟨capture, gOpen, gRef, valid, calibration, lastAttempt, window, estimate, lastReading, sequence⟩ := m
  cases calibration with
  | some c => exact .inl ⟨c, rfl, rfl⟩
  | none =>
    cases window with
    | some w => exact .inr (.inl ⟨w, rfl, rfl, rfl⟩)
    | none => exact .inr (.inr ⟨rfl, rfl, rfl⟩)

/-- The unit at the end of a calibration part (R117): a period at 65,535 ticks is delivered first; a shorter one is left. -/
theorem Moisture.settled_cases (openLimit : Nat) (m : Moisture) :
    (m.forcedDue = true ∧ m.settled openLimit = m.endPeriod openLimit false) ∨
    (m.forcedDue = false ∧ m.settled openLimit = m) := by
  unfold Moisture.settled
  cases m.forcedDue
  · exact .inr ⟨rfl, rfl⟩
  · exact .inl ⟨rfl, rfl⟩

/-- An unseeded estimate takes the reading times 16 (R128). -/
theorem nextEstimate_none (k m : Nat) : nextEstimate k m none = m * 16 := rfl

/-! ## A temperature channel -/

/-- A conversion on its channel (R139 to R142): a good one enters the history and forms the reading; a bad one leaves both. -/
theorem TempChannel.take_cases (count : Nat) (x : TempChannel) :
    (classify count = .good ∧ x.take count = x.good count) ∨
    (classify count ≠ .good ∧
      x.take count = { x with lastCount := some count, lastClass := some (classify count), badScans := bump 3 x.badScans }) := by
  unfold TempChannel.take
  cases h : classify count with
  | good => exact .inl ⟨rfl, rfl⟩
  | sensorOpen => exact .inr ⟨by simp, by simp [TempChannel.bad, h]⟩
  | sensorShort => exact .inr ⟨by simp, by simp [TempChannel.bad, h]⟩

/-! ## The arbiter -/

/-- The examination of one element (R166): no request leaves all as it is; a request is granted within what is left, and denied
otherwise. -/
theorem Examination.visit_cases (requests : ElementNo → Bool) (weights : Vector Nat 6) (x : Examination) (e : ElementNo) :
    (requests e = false ∧ x.visit requests weights e = x) ∨
    (requests e = true ∧ weights[e] ≤ x.left ∧
      x.visit requests weights e = { x with left := x.left - weights[e], granted := x.granted ++ [e] }) ∨
    (requests e = true ∧ x.left < weights[e] ∧
      x.visit requests weights e = { x with denied := x.denied ++ [e] }) := by
  unfold Examination.visit
  by_cases h : requests e = true
  · by_cases k : weights[e] ≤ x.left
    · exact .inr (.inl ⟨h, k, by rw [if_pos h, if_pos k]⟩)
    · exact .inr (.inr ⟨h, by omega, by rw [if_pos h, if_neg k]⟩)
  · exact .inl ⟨by simpa using h, by rw [if_neg h]⟩

/-- The frame boundary on a pocket changes its heat alone (R154, R162, R170, R171). -/
theorem PocketUnit.beginFrame_does (a : Appliance) (p : Pocket) (d : Nat) (u : PocketUnit) :
    u.beginFrame a p d = { u with heat := (u.beginFrame a p d).heat } ∧ (u.beginFrame a p d).heat.demand = d ∧
      (u.beginFrame a p d).heat.grantedLast = u.heat.grantedNow ∧ (u.beginFrame a p d).heat.grantedNow = 0 ∧
      (u.beginFrame a p d).heat.reserve = u.heat.reserve ∧
      ∀ j : Fin 3, (u.beginFrame a p d).heat.elements[j] = { u.heat.elements[j] with onCount := a.onCount p d j } := by
  refine ⟨rfl, rfl, rfl, rfl, rfl, fun j => ?_⟩
  simp [PocketUnit.beginFrame]

/-! ## The Trend Buffer -/

@[simp] theorem Bank.other_other (x : Bank) : x.other.other = x := by cases x <;> rfl

/-- A switch (R190). -/
theorem TrendView.switch_does (v : TrendView) :
    v.switch.buffer.readBank = v.buffer.fillBank ∧ v.switch.buffer.fillBank = [] ∧
      v.switch.buffer.fill = v.buffer.fill.other ∧ v.switch.buffer.mode = v.buffer.mode ∧
      v.switch.buffer.threshold = v.buffer.threshold ∧ v.switch.buffer.halted = false ∧
      v.switch.device.trendReady = true ∧ v.switch.device.mainsLost = v.device.mainsLost ∧
      v.switch.device.trendHalted = v.device.trendHalted ∧
      v.switch.device.trendLost = (v.device.trendLost || decide (v.buffer.readBank ≠ [])) := by
  obtain ⟨⟨bankA, bankB, fill, mode, threshold, halted⟩, device⟩ := v
  rcases bankA with _ | ⟨x, xs⟩ <;> rcases bankB with _ | ⟨y, ys⟩ <;> cases fill <;>
    refine ⟨rfl, rfl, rfl, rfl, rfl, rfl, rfl, rfl, rfl, ?_⟩ <;>
    simp [TrendView.switch, TrendBuffer.readBank, DeviceNotices.raise]

/-! ## The Link Port -/

/-- A complete frame at the inbound queue (R198): a good check restarts the silence timer, and the frame is queued while fewer
than 2 wait, or else discarded with the overrun mark. -/
theorem LinkPort.complete_does (f : InFrame) (l : LinkPort) :
    (l.complete f).assembler = l.assembler ∧ (l.complete f).byteSilence = l.byteSilence ∧
      (l.complete f).replySlot = l.replySlot ∧ (l.complete f).tx = l.tx ∧ (l.complete f).answer = l.answer ∧
      (l.complete f).silence = (if f.good then 0 else l.silence) ∧
      (l.complete f).silenceExpired = (if f.good then false else l.silenceExpired) ∧
      (l.complete f).inbound = (if l.inbound.length < 2 then l.inbound ++ [f] else l.inbound) ∧
      (l.complete f).overrun = (if l.inbound.length < 2 then l.overrun else true) := by
  unfold LinkPort.complete inboundRoom
  dsimp only
  split <;> split <;> simp_all

/-- A byte finds a frame in progress discarded exactly if its start bit came more than 10 ms after the last byte (R196). -/
theorem LinkPort.atStartBit_cases (l : LinkPort) :
    (l.byteSilence ≤ 10261 ∧ l.atStartBit = l.assembler) ∨ (10261 < l.byteSilence ∧ l.atStartBit = .hunt) := by
  unfold LinkPort.atStartBit byteSilenceLimit byteTime
  by_cases h : 10000 + 261 < l.byteSilence
  · exact .inr ⟨h, by rw [if_pos h]⟩
  · exact .inl ⟨Nat.le_of_not_lt h, by rw [if_neg h]⟩

/-- A byte takes ten bit times on the line (R195). -/
@[simp] theorem byteLine_length (b : Byte) : (byteLine b).length = 10 := by simp [byteLine]

/-- A byte that completes no frame changes the assembler and the byte silence alone (R196). -/
theorem LinkPort.receive_cases (b : Byte) (good : Bool) (l : LinkPort) :
    (∃ a : Assembler, l.receive b good = { l with assembler := a, byteSilence := 0 }) ∨
    (∃ f : InFrame, good = true ∧ (l.atStartBit.take b).2 = some f ∧
      l.receive b good = LinkPort.complete f { l with assembler := (l.atStartBit.take b).1, byteSilence := 0 }) := by
  unfold LinkPort.receive
  cases good with
  | false => exact .inl ⟨.hunt, rfl⟩
  | true =>
    rcases h : l.atStartBit.take b with ⟨a, _ | f⟩
    · exact .inl ⟨a, by simp⟩
    · exact .inr ⟨f, rfl, rfl, by simp⟩

/-! ## The passing of time -/

/-- A microsecond on a pocket depends on the two ticks and on mains alone (R24). -/
@[simp] theorem State.tick_unit (s : State) (p : Pocket) :
    s.tick.unit p = (s.unit p).tick s.tachTicks s.supply.mainsPresent := by
  cases p <;> rfl
@[simp] theorem State.tick_pool (s : State) : s.tick.pool = s.pool := rfl
@[simp] theorem State.tick_temps (s : State) : s.tick.temps = s.temps := rfl
@[simp] theorem State.tick_trend (s : State) : s.tick.trend = s.trend := rfl
@[simp] theorem State.tick_device (s : State) : s.tick.device = s.device := rfl
@[simp] theorem State.tick_pending (s : State) : s.tick.pending = s.pending := rfl

/-- The fan run-on takes a microsecond of its count and nothing else of the sequencer (R53). -/
theorem Sequencer.tickFan_eq (q : Sequencer) :
    q.tickFan = { q with fanRunOn := q.tickFan.fanRunOn, fanFraction := q.tickFan.fanFraction } := by
  unfold Sequencer.tickFan
  split
  · rfl
  · split <;> rfl

/-- An event stands among those that are due exactly if its own condition holds. -/
@[simp] theorem mem_whenDue (due : Bool) (i e : Instr) : e ∈ whenDue due i ↔ due = true ∧ e = i := by
  unfold whenDue
  split <;> simp_all

end Sys2Proof.Machine
end

