-- ==== Sys2Proof/Tests/Slice0.lean ====
section
/-! SUPPORT. Tests: the well-formedness smoke, requests read from frames written out by hand, the worked examples of the spec,
and for each statement with hypotheses a witness, a concrete state and operands that meet them together. -/

namespace Sys2Proof.Tests

open Sys2Proof Sys2Proof.Machine

-- The tests are elaborated one after another: in parallel each would hold a thread of its own while it waits for the kernel.
set_option Elab.async false

/-! ## Well-formedness -/

/-- A group list one byte too long for a frame is refused, and one byte less is not (11.1). -/
theorem test_setDefaults_length_refused :
    (Instr.setDefaults 0 15 (List.replicate 62 0)).wellFormed = false ∧
      (Instr.setDefaults 0 15 (List.replicate 61 0)).wellFormed = true := ⟨rfl, rfl⟩

/-- The same for PUT_PHASE, which has nine bytes before its groups. -/
theorem test_putPhase_length_refused :
    (Instr.putPhase 0 0 0xFF 10 0 0 0 15 (List.replicate 55 0)).wellFormed = false ∧
      (Instr.putPhase 0 0 0xFF 10 0 0 0 15 (List.replicate 54 0)).wellFormed = true := ⟨rfl, rfl⟩

/-! ## Decoding -/

/-- The table gives no bits to any row. -/
theorem test_decodeTableWord_none : decodeTableWord 0 0 = none := rfl

/-- GET_STATUS of LOWER, kind 0x20 and payload 0x00, as R197 writes it out. -/
theorem test_getStatus_frame : requestOf 0x20 [0x00] = .request (.getStatus 0x00) ∧
    frameBytes [0x20, 0x00] = [0xB5, 0x02, 0x20, 0x00, 0x78] := ⟨rfl, by decide +kernel⟩

/-- The FRAME_ERROR frame of R197. -/
theorem test_frameError_frame : frameBytes [0xFF, 0x00] = [0xB5, 0x02, 0xFF, 0x00, 0x01] := by
  decide +kernel

/-- START of UPPER at slot 47, by the layout of 11.9: kind 0x10, pocket, slot. -/
theorem test_start_frame : requestOf 0x10 [0x01, 0x2F] = .request (.start 0x01 0x2F) := rfl

/-- SET_TEMP_CAL of AMBIENT: two-byte fields, least significant byte first (11.9). -/
theorem test_setTempCal_frame :
    requestOf 0x02 [0x04, 0x20, 0x03, 0xC8, 0x00, 0x80, 0x0C, 0xA4, 0x06] =
      .request (.setTempCal 0x04 0x0320 0x00C8 0x0C80 0x06A4) := by decide

/-- PUT_PHASE of slot 3, a COOL phase of 600 s without groups (11.9). -/
theorem test_putPhase_frame :
    requestOf 0x06 [0x03, 0x02, 0xFF, 0x58, 0x02, 0x00, 0x01, 0x00, 0x00] =
      .request (.putPhase 0x03 0x02 0xFF 0x0258 0x00 0x01 0x00 0x00 []) := by decide

/-- A kind that is no request kind, and a request of a wrong length (11.3). -/
theorem test_frames_refused : requestOf 0x70 [0x00] = .unknownKind ∧ requestOf 0x22 [0x00] = .badLength := ⟨rfl, rfl⟩

/-! ## Worked examples of the spec -/

/-- The conversions of R140's table. -/
theorem test_conversions :
    TempCal.convert ⟨800, 200, 3200, 1700⟩ 2000 = 950 ∧ TempCal.convert ⟨800, 200, 3200, 1700⟩ 700 = 137 ∧
      TempCal.convert ⟨800, 200, 3200, 1700⟩ 16 = -290 ∧ TempCal.convert ⟨800, 200, 3200, 1700⟩ 4079 = 2249 ∧
      TempCal.convert ⟨900, 1200, 3300, 200⟩ 2101 = 699 := by decide

/-- A history of -3 and -4 has the reading -4 (R141). -/
theorem test_mean_floors : meanOf [-3, -4] = -4 := by decide

/-- The corrected conductances of R123's table, with g_open 24 and g_ref 1,041. -/
theorem test_conductances :
    conductance 24 1041 (pulseRate 200) = 2047 ∧ conductance 24 1041 (pulseRate 1000) = 982 ∧
      conductance 24 1041 (pulseRate 2000) = 479 ∧ conductance 24 1041 (pulseRate 45000) = 0 := by decide

/-- A difference of -410 with k = 2 gives a step of -102 (R128). -/
theorem test_estimate_rounds_toward_zero : nextEstimate 2 10 (some 570) = 468 := by decide

/-- The demands of R159's table, with Dmax 75. -/
theorem test_demands :
    proportional 800 812 100 75 = 0 ∧ proportional 800 799 100 75 = 0 ∧ proportional 800 752 100 75 = 36 ∧
      proportional 800 700 100 75 = 75 ∧ proportional 800 620 100 75 = 75 := by decide

/-- The ceilings of R161's table, with Dmax 75. -/
theorem test_ceilings :
    applyCeilings ⟨800, 100, 700, 40, 50⟩ 75 false false 36 = 30 ∧ applyCeilings ⟨800, 100, 700, 40, 50⟩ 75 true true 75 = 37 ∧
      applyCeilings ⟨800, 100, 700, 40, 50⟩ 75 false true 75 = 30 ∧ applyCeilings ⟨800, 100, 700, 33, 20⟩ 75 false true 10 = 10 := by
  decide

/-- The split of R162 with the second element absent: a demand of 36 gives 25, 0 and 11. -/
theorem test_split_passes_absent :
    (List.finRange 3).map (Appliance.onCount { Appliance.powerOn with weights := #v[1, 0, 1, 0, 0, 0] } .lower 36) = [25, 0, 11] := by
  decide

/-- The imbalance measures of R99's table: a spread of 6,000 about a mean of 12,500 gives 122. -/
theorem test_imbalance :
    imbalanceMeasure 0 (16000 :: 10000 :: List.replicate 8 12500 ++ [12000, 12000]) = 122 := by decide

/-- A tacho period of 21,500 ticks is a speed of 23 rpm (R74). -/
theorem test_speed : edgeSpeed 0 (some 21500) = 23 := rfl

/-- The packed values that R209 gives: an inlet reading of 952 is 1,352 and one of -400 is 0, and a twist of -3 is 2,045; a
record of UPPER at slot 5 with M 77 and a TURNING drum, and a history entry closed COOLED. -/
theorem test_packed :
    trendTemp (some 952) = 1352 ∧ trendTemp (some (-400)) = 0 ∧ trendTemp none = 4095 ∧ twist11 (-3) = 2045 ∧
      TrendRecord.bytes
        { pocket := .upper, slot := 5, ordinal := 258, sequence := 3, reading := .measured 77, estimate := some 16,
          inlet := some 952, exhaust := none, drum := .turning, twist := -3, granted := 300 } =
        [0x45, 0x02, 0x01, 0x03, 0x00, 0x4D, 0x48, 0x10, 0x80, 0x48, 0xF5, 0xFF, 0xFD, 0x67, 0x09] ∧
      Checkpoint.bytes { slot := 5, ordinal := 258, eStart := some 16, twistStart := -3, outcome := some .cooled } =
        [0xC5, 0x02, 0x01, 0xFD, 0x37, 0x10, 0x00] := by
  decide +kernel

/-! ## States for the witnesses -/

/-- A motion table with a forward run and a reverse run of 10 s at 40 rpm. -/
def motionTable : Vector MotionEntry 32 :=
  ((Vector.replicate 32 MotionEntry.unwritten).set 0 ⟨.run .fwd, 40, 20, true⟩).set 1 ⟨.run .rev, 40, 20, true⟩

/-- A record over that segment. -/
def record (kind : Kind) (quals : Quals) (next : Option SlotNo) : PhaseRecord :=
  { kind := kind, next := next, maxTime := 600, segFirst := 0, segLast := 1, quals := quals, heat := none, dry := none,
    cool := none, tangle := none }

/-- The checkpoint of the first phase. -/
def firstCheckpoint (outcome : Option PhaseOutcome) : Checkpoint :=
  { slot := 0, ordinal := 1, eStart := none, twistStart := 0, outcome := outcome }

/-- Whether a state leaves the newest phase open. -/
def outcomeIn : RunState → Option PhaseOutcome
  | .held => some .time
  | .idle | .running | .paused | .safe | .halted | .done => none

/-- LOWER in a phase of slot 0, with slot 1 as its anchor. -/
def pocketIn (run : RunState) (kind : Kind) (quals : Quals) (next : Option SlotNo) : PocketUnit :=
  { PocketUnit.powerOn with
    seq := { Sequencer.powerOn with
      run := run, anchor := some 1, work := workFrom 0 (record kind quals next) Profile.powerOn true,
      history := [firstCheckpoint (outcomeIn run)], activations := 1, safeBegun := decide (run = .safe) }
    drum := { Drum.powerOn with
      table := motionTable, order := .runSegment, segment := some ⟨0, 1, 0⟩, state := .stopped, stopTimer := none }
    moist := { Moisture.powerOn with window := some ⟨2000000, 0, 0, 0, 0⟩ } }

/-- The part with LOWER in a phase. -/
def machineIn (run : RunState) (kind : Kind) (quals : Quals) (next : Option SlotNo) : State :=
  { State.reset with
    pool := ((Vector.replicate 48 Slot.empty).set 0 (.active .lower (record kind quals next))).set 1
      (.loaded (record .cool Quals.none none))
    lower := pocketIn run kind quals next
    supply := { Supply.powerOn with configured := true } }

/-- The part with LOWER idle and ready for a START. -/
def ready : State :=
  { State.reset with
    pool := ((Vector.replicate 48 Slot.empty).set 0 (.loaded (record .timed Quals.none none))).set 1
      (.loaded (record .cool Quals.none none))
    lower := { PocketUnit.powerOn with
      seq := { Sequencer.powerOn with anchor := some 1 }
      drum := { Drum.powerOn with table := motionTable } }
    supply := { Supply.powerOn with configured := true } }

/-- LOWER changed in a state. -/
def withLower (s : State) (f : PocketUnit → PocketUnit) : State := s.onUnit .lower f

/-- The part with LOWER's drum changed. -/
def withDrum (s : State) (f : Drum → Drum) : State := withLower s fun u => { u with drum := f u.drum }

/-- The part with LOWER's sequencer changed. -/
def withSeq (s : State) (f : Sequencer → Sequencer) : State := withLower s fun u => { u with seq := f u.seq }

/-- The part with LOWER's Moisture Sense Unit changed. -/
def withMoist (s : State) (f : Moisture → Moisture) : State := withLower s fun u => { u with moist := f u.moist }

/-- HOLD_AT_END alone. -/
def holding : Quals := { holdAtEnd := true, retryAllowed := false, keepEstimate := false }

/-- RETRY_ALLOWED alone. -/
def retrying : Quals := { holdAtEnd := false, retryAllowed := true, keepEstimate := false }

/-- LOWER in the last second of its fan run-on, of which a time has passed. -/
def fanEnding (fraction : Nat) : State := withSeq State.reset fun q => { q with fanRunOn := 1, fanFraction := fraction }

/-- LOWER paused for 61 s, a second longer than the resume limit in force. -/
def overPaused (quals : Quals) : State :=
  withSeq (machineIn .paused .timed quals none) fun q => { q with pauseTimer := 61000000 }

/-- The same with a slot that next names. -/
def overPausedAt (next : SlotNo) : State :=
  withSeq (overPaused Quals.none) fun q => { q with work := { q.work with next := some next } }

/-- LOWER's drum in a forward run entry at 40 rpm, in a state of the drum, with a capture count. -/
def runningDrum (st : DrumState) (count : Nat) : State :=
  withDrum (machineIn .running .timed Quals.none none) fun d =>
    { d with state := st, commanded := 40, tachCount := count, entryTime := some 0 }

/-- A state after a command. -/
def after (c : Instr) (s : State) : State :=
  match exec c s with
  | .next t => t
  | .fault _ | .refused _ => s

/-- Where no write races, an activation by an event finds the slot as an activation by a request does. -/
theorem vacate_quiet {s : State} {p : Pocket} (h : s.racingWrite p = none) (i : SlotNo) :
    (s.view p).vacate (s.eventEnv p) i = (s.view p).release p := by
  rw [State.eventEnv_of_no_write h, PocketView.vacate_of_no_race rfl]
  cases p <;> rfl

/-- The ERASE_PHASE of slot 0 waiting behind an event of LOWER, which runs that slot. -/
def racing : State := { machineIn .running .timed Quals.none (some 0) with pending := [.erasePhase 0x00] }

/-- A PUT_PHASE of slot 0, a COOL phase of 600 s without groups. -/
def putCool : Instr := .putPhase 0x00 0x02 0xFF 0x0258 0x00 0x01 0x00 0x00 []

/-! ## Witnesses: the machine and the record pool -/

/-- StepTakesFrontCommand: a state with a command in front, and an empty queue with no event due, one, and two. -/
theorem witness_front_command :
    ({ State.reset with pending := [.getTemps, .resetPart] } : State).pending = .getTemps :: [.resetPart] ∧
      State.reset.pending = [] ∧
      State.reset.dueEvents = [] ∧
      (fanEnding 1000000).pending = [] ∧
      (fanEnding 1000000).dueEvents = [.fanRunOnExpiry .lower] ∧
      (withMoist (fanEnding 1000000) fun m => { m with capture := 65535 }).pending = [] ∧
      (withMoist (fanEnding 1000000) fun m => { m with capture := 65535 }).dueEvents.length = 2 := by
  and_intros <;> first | rfl | decide +kernel

/-- RefusedRequestChangesNothing: a PAUSE of pocket 2 is refused, and its reply names the result. -/
theorem witness_refused_request :
    requestFrame (.pause 0x02) = some (0x11, [0x02]) ∧
      exec (.pause 0x02) State.reset = .next (after (.pause 0x02) State.reset) ∧
      (after (.pause 0x02) State.reset).link.answer = some ⟨0x91, some .badRequest, []⟩ ∧
      ResultCode.badRequest.carriedOut = false := ⟨rfl, rfl, rfl, rfl⟩

/-- SetDefaultsReplacesCarriedGroups: a cool group of 100.0 °C for UPPER, clamped to 90.0 °C, and the two refusals at their
boundaries. -/
theorem witness_setDefaults :
    pocketOf 0x01 = some .upper ∧ groupsOf 0x04 [0xE8, 0x03] = some ⟨none, none, some ⟨1000⟩, none⟩ ∧
      (after (.setDefaults 0x01 0x04 [0xE8, 0x03]) State.reset).upper.seq.profile.cool.endTemp = 900 ∧
      groupsOf 0x10 [] = none ∧ [(0xE8 : Byte)].length ≠ groupsLength 0x04 := by decide

/-- PutPhaseStoresClampedRecord: the last slot, every field at its greatest code, and a max_time above its range. -/
theorem witness_putPhase :
    slotOf 0x2F = some 47 ∧
      recordOf 0x03 0x2F 0x7081 0x1F 0x1F 0x07 0x00 [] = some
        { kind := .tumble, next := some 47, maxTime := 28801, segFirst := 31, segLast := 31, quals := ⟨true, true, true⟩,
          heat := none, dry := none, cool := none, tangle := none } ∧
      State.reset.raced = none ∧
      State.reset.pool[(47 : SlotNo)].isActive = false ∧
      (machineIn .running .dry Quals.none none).pool[(0 : SlotNo)].isActive = true := by decide +kernel

/-- PutPhaseStoresClampedRecord and ErasePhaseByCases: requests whose writes were carried out inside an activation (R20). The
activation's slot is the new record's, or is left EMPTY, as ActivationCheckAndWorkingSet has it. -/
theorem witness_raced :
    recordOf 0x02 0xFF 0x0258 0x00 0x01 0x00 0x00 [] = some (record .cool Quals.none none) ∧
      ({ racing with raced := some putCool } : State).raced = some putCool ∧
      after (.erasePhase 0x00) { racing with raced := some (.erasePhase 0x00) } = racing.reply 0x07 .ok [] ∧
      racing.racingWrite .lower = some (0, .empty) ∧
      ({ racing with pending := [putCool] } : State).racingWrite .lower = some (0, .loaded (record .cool Quals.none none)) ∧
      (racing.unit .lower).seq.work.active = some 0 ∧
      (racing.view .lower).pool[(0 : SlotNo)] = .active .lower (record .timed Quals.none (some 0)) ∧
      (racing.view .lower).raced = false ∧
      ((racing.view .lower).activate { racing.env .lower with racing := some (0, .empty) } 0).2 = some .slotEmpty ∧
      segmentUsable (record .cool Quals.none none) (racing.view .lower).unit.drum = true := by
  and_intros <;> first | rfl | decide +kernel

/-- GetPhaseReportsSlot: the last slot, and the first number that is no slot. -/
theorem witness_getPhase : slotOf 0x2F = some 47 ∧ 48 ≤ (0x30 : Byte).toNat := by decide

/-- SetSafeByCases: the last slot, NONE, and the first code that is neither. -/
theorem witness_setSafe :
    pocketOf 0x01 = some .upper ∧ slotRefOf 0x2F = some (some 47) ∧ slotRefOf 0xFF = some none ∧ slotRefOf 0x30 = none := by decide

/-! ## Witnesses: the Pocket Sequencer -/

/-- LOWER ready for a START, its drum still coasting in REV 15 s after the stop command, so that R91 has discarded the stop
timer. -/
def coasting : State := withDrum ready fun d => { d with state := .stopping, dir := .rev, stopTimer := none }

/-- StartEntersRunning, and a START whose first run waits for the stop of a drum that coasts the other way (R90). -/
theorem witness_start :
    pocketOf 0x00 = some .lower ∧
      slotOf 0x00 = some 0 ∧
      (ready.unit .lower).seq.run = .idle ∧
      (ready.unit .lower).seq.work.active = none ∧
      ready.supply.configured = true ∧
      (ready.unit .lower).seq.anchor ≠ none ∧
      (ready.unit .lower).faults = FaultSet.none ∧
      (ready.unit .lower).pins.door = true ∧
      (ready.unit .lower).moist.calibration = none ∧
      (ready.view .lower).check 0 = .ok (record .timed Quals.none none) ∧
      ready.link.silenceExpired = false ∧
      (coasting.view .lower).check 0 = .ok (record .timed Quals.none none) ∧
      coasting.lower.drum.table[(0 : EntryNo)].motion = .run .fwd ∧
      (after (.start 0x00 0x00) coasting).lower.drum.pendingDir = some .fwd ∧
      (after (.start 0x00 0x00) coasting).lower.drum.stopTimer = some 0 := by
  and_intros <;> first | rfl | decide +kernel

/-- PauseAndDoorEnterPaused: the states that are paused, PAUSED itself, and a state that is not engaged. -/
theorem witness_pause_and_door :
    (∀ run ∈ [RunState.running, .held, .safe], run.drives = true) ∧
      ((machineIn .safe .timed Quals.none none).unit .lower).seq.run = .safe ∧
      ((machineIn .safe .timed Quals.none none).unit .lower).pins.door = true ∧
      (machineIn .safe .timed Quals.none none).link.silenceExpired = false ∧
      (overPaused Quals.none).lower.seq.run = .paused ∧
      (overPaused Quals.none).lower.pins.door = true ∧
      (State.reset.unit .lower).seq.run.engaged = false ∧
      (State.reset.unit .lower).pins.door = true := by
  and_intros <;> first | rfl | decide +kernel

/-- ResumeContinues: a pause at the limit of 60 s and less than a second, and a longer one under the held or the restored
mark. -/
theorem witness_resume_continues :
    (overPaused Quals.none).lower.seq.run = .paused ∧
      (overPaused Quals.none).lower.pins.door = true ∧
      (overPaused Quals.none).lower.seq.resumeTarget = .running ∧
      (overPaused Quals.none).link.silenceExpired = false ∧
      (withSeq (overPaused Quals.none) fun q => { q with pauseTimer := 60999999 }).lower.seq.pauseTimer / 1000000 ≤
        State.reset.supply.config.resumeLimit ∧
      (withSeq (overPaused Quals.none) fun q => { q with held := true }).lower.seq.held = true ∧
      (withSeq (overPaused Quals.none) fun q => { q with restored := true }).lower.seq.restored = true := by
  and_intros <;> decide +kernel

/-- LOWER paused with resume target SAFE, the safe chain begun or not, and an anchor. -/
def boundForSafe (begun : Bool) (anchor : Option SlotNo) : State :=
  withSeq (machineIn .paused .timed Quals.none none) fun q =>
    { q with resumeTarget := .safe, safeBegun := begun, anchor := anchor }

/-- ResumeContinues, its first part: the safe chain begun, a usable anchor, none, and one whose slot is EMPTY. -/
theorem witness_resume_safe :
    (boundForSafe true none).lower.seq.resumeTarget = .safe ∧
      (boundForSafe true none).lower.seq.run = .paused ∧
      (boundForSafe true none).lower.pins.door = true ∧
      (boundForSafe true none).lower.seq.safeBegun = true ∧
      (boundForSafe false (some 1)).lower.seq.safeBegun = false ∧
      (((boundForSafe false (some 1)).view .lower).release .lower).check 1 = .ok (record .cool Quals.none none) ∧
      (boundForSafe false none).lower.seq.anchor = none ∧
      (((boundForSafe false (some 2)).view .lower).release .lower).check 2 = .error .slotEmpty := by
  and_intros <;> first | rfl | decide +kernel

/-- ResumeRetriesOrAbandons, its first part. -/
theorem witness_resume_retry :
    (overPaused retrying).lower.seq.run = .paused ∧
      (overPaused retrying).lower.pins.door = true ∧
      (overPaused retrying).lower.seq.resumeTarget = .running ∧
      (overPaused retrying).lower.seq.held = false ∧
      (overPaused retrying).lower.seq.restored = false ∧
      (overPaused retrying).supply.config.resumeLimit < (overPaused retrying).lower.seq.pauseTimer / 1000000 ∧
      (overPaused retrying).lower.seq.work.quals.retryAllowed = true ∧
      (overPaused retrying).lower.seq.newest = some (firstCheckpoint none) ∧
      (overPaused retrying).pool[(firstCheckpoint none).slot].record? = some (record .timed retrying none) ∧
      (overPaused retrying).link.silenceExpired = false ∧
      (overPaused retrying).lower.drum.isTurning = false := by
  and_intros <;> first | rfl | decide +kernel

/-- ResumeRetriesOrAbandons, its second part. -/
theorem witness_resume_abandon :
    (overPaused Quals.none).lower.seq.run = .paused ∧
      (overPaused Quals.none).lower.pins.door = true ∧
      (overPaused Quals.none).lower.seq.resumeTarget = .running ∧
      (overPaused Quals.none).lower.seq.held = false ∧
      (overPaused Quals.none).lower.seq.restored = false ∧
      (overPaused Quals.none).supply.config.resumeLimit < (overPaused Quals.none).lower.seq.pauseTimer / 1000000 ∧
      (overPaused Quals.none).lower.seq.work.quals.retryAllowed = false ∧
      (overPaused Quals.none).lower.seq.newest = some (firstCheckpoint none) ∧
      (overPaused Quals.none).lower.seq.work.next = none ∧
      (overPausedAt 0).lower.seq.work.next = some 0 ∧
      (overPausedAt 0).lower.seq.newest = some (firstCheckpoint none) ∧
      (overPausedAt 0).link.silenceExpired = false ∧
      (after (.resume 0x00) (overPausedAt 0)).lower.seq.run = .running ∧
      (overPausedAt 2).lower.seq.work.next = some 2 ∧
      (after (.resume 0x00) (overPausedAt 2)).lower.seq.run = .safe := by
  and_intros <;> first | rfl | decide +kernel

/-- AdvanceAtEndEntersDone: a HELD phase, and a RUNNING one with an open checkpoint. -/
theorem witness_advance_end :
    (machineIn .held .timed holding none).lower.seq.run.drives = true ∧
      (machineIn .held .timed holding none).lower.seq.work.next = none ∧
      (machineIn .held .timed holding none).lower.seq.work.active = some 0 ∧
      (machineIn .held .timed holding none).pool[(0 : SlotNo)] = .active .lower (record .timed holding none) ∧
      (machineIn .held .timed holding none).lower.seq.newest = some (firstCheckpoint (some .time)) ∧
      (machineIn .running .timed holding none).lower.seq.newest = some (firstCheckpoint none) := by
  and_intros <;> decide +kernel

/-- AdvanceActivatesNextSlot: a phase that names its own slot, and one that names an EMPTY slot, with a usable anchor, none,
an EMPTY one, and in SAFE. -/
theorem witness_advance_next :
    (machineIn .running .timed Quals.none (some 0)).lower.seq.run.drives = true ∧
      (machineIn .running .timed Quals.none (some 0)).lower.seq.work.next = some 0 ∧
      (((machineIn .running .timed Quals.none (some 0)).view .lower).release .lower).check 0 = .ok (record .timed Quals.none (some 0)) ∧
      (machineIn .running .timed Quals.none (some 0)).link.silenceExpired = false ∧
      (((machineIn .held .timed Quals.none (some 2)).view .lower).release .lower).check 2 = .error .slotEmpty ∧
      (((machineIn .held .timed Quals.none (some 2)).view .lower).release .lower).check 1 = .ok (record .cool Quals.none none) ∧
      (machineIn .held .timed Quals.none (some 2)).lower.seq.anchor = some 1 ∧
      (((withSeq (machineIn .held .timed Quals.none (some 2)) fun q => { q with anchor := some 3 }).view .lower).release
        .lower).check 3 = .error .slotEmpty ∧
      (machineIn .safe .cool Quals.none (some 2)).lower.seq.run = .safe ∧
      (((machineIn .safe .cool Quals.none (some 2)).view .lower).release .lower).check 2 = .error .slotEmpty ∧
      (after (.advance 0x00) (machineIn .safe .cool Quals.none (some 2))).lower.seq.run = .halted := by
  and_intros <;> first | decide +kernel | rfl

/-- AbortEntersSafeOrHalts: a RUNNING phase with a usable anchor, with none and with an EMPTY one, and a PAUSED phase. -/
theorem witness_abort :
    (machineIn .running .timed Quals.none none).lower.seq.run = .running ∧
      (machineIn .running .timed Quals.none none).lower.seq.newest = some (firstCheckpoint none) ∧
      (firstCheckpoint none).outcome = none ∧
      (machineIn .running .timed Quals.none none).lower.seq.anchor = some 1 ∧
      (((machineIn .running .timed Quals.none none).view .lower).release .lower).check 1 = .ok (record .cool Quals.none none) ∧
      (withSeq (machineIn .running .timed Quals.none none) fun q => { q with anchor := none }).lower.seq.anchor = none ∧
      (((withSeq (machineIn .running .timed Quals.none none) fun q => { q with anchor := some 2 }).view .lower).release
        .lower).check 2 = .error .slotEmpty ∧
      (overPaused Quals.none).lower.seq.run = .paused ∧
      (overPaused Quals.none).lower.seq.resumeTarget = .running ∧
      (overPaused Quals.none).lower.seq.newest = some (firstCheckpoint none) := by
  and_intros <;> first | decide +kernel | rfl

/-- A HELD pocket whose history has the phase of slot 1 before that of slot 0. -/
def twoPhases : State :=
  withSeq (machineIn .held .timed holding none) fun q =>
    { q with history := [{ slot := 1, ordinal := 1, eStart := some 16, twistStart := -2, outcome := some .cooled },
                         firstCheckpoint (some .time)] }

/-- BackstepRestoresCheckpoint: to the phase itself and to the one before it. -/
theorem witness_backstep :
    twoPhases.lower.seq.run = .held ∧
      twoPhases.lower.seq.history.reverse[(0x00 : Byte).toNat]? = some (firstCheckpoint (some .time)) ∧
      twoPhases.pool[(0 : SlotNo)] = .active .lower (record .timed holding none) ∧
      twoPhases.lower.seq.history.reverse[(0x01 : Byte).toNat]? = some ⟨1, 1, some 16, -2, some .cooled⟩ ∧
      twoPhases.pool[(1 : SlotNo)] = .loaded (record .cool Quals.none none) ∧
      twoPhases.lower.seq.work.active ≠ some 1 ∧
      (∀ j : EntryNo, 0 ≤ j → j ≤ 1 → twoPhases.lower.drum.table[j].written = true) ∧
      twoPhases.link.silenceExpired = false := by
  and_intros <;> first | rfl | decide +kernel

/-- PhaseTimerExpiryEndsPhase: the timer at max_time exactly, with HOLD_AT_END, without it, and in SAFE. -/
theorem witness_phase_expiry :
    (machineIn .running .dry holding none).lower.seq.run = .running ∧
      (machineIn .running .dry holding none).lower.seq.newest = some (firstCheckpoint none) ∧
      (machineIn .running .dry holding none).lower.seq.work.quals.holdAtEnd = true ∧
      (machineIn .running .dry holding none).lower.seq.work.maxTime * 1000000 ≤
        (withSeq (machineIn .running .dry holding none) fun q => { q with phaseTimer := 600000000 }).lower.seq.phaseTimer ∧
      (machineIn .running .cool Quals.none none).lower.seq.work.quals.holdAtEnd = false ∧
      (machineIn .safe .cool holding none).lower.seq.run = .safe ∧
      (machineIn .safe .cool holding none).lower.seq.newest = some (firstCheckpoint none) ∧
      (machineIn .safe .cool holding none).lower.seq.work.next = none := by
  and_intros <;> decide +kernel

/-- A RUNNING phase without HOLD_AT_END and one of the safe chain, which name a slot after them, with an anchor. -/
def bound (run : RunState) (kind : Kind) (next : Option SlotNo) (anchor : Option SlotNo) : State :=
  withSeq (machineIn run kind Quals.none next) fun q => { q with anchor := anchor }

/-- The slot as an activation by an event of LOWER finds it. -/
def found (s : State) (i : SlotNo) : Except ActivationFailure PhaseRecord :=
  ((s.view .lower).vacate (s.eventEnv .lower) i).check i

/-- Where no write races, what the activation finds is what the check of the released slot finds. -/
theorem found_quiet {s : State} (h : s.racingWrite .lower = none) (i : SlotNo) :
    found s i = ((s.view .lower).release .lower).check i := by rw [found, vacate_quiet h]

/-- The advance along next of PhaseTimerExpiryEndsPhase, DryDecisionClosesPhase and ConversionActsOnItsChannel: a phase that
names its own slot, and one that names an EMPTY slot, with a usable anchor, none and an EMPTY one, in RUNNING and in SAFE.
-/
theorem witness_advanced :
    (bound .running .timed (some 0) (some 1)).lower.seq.run = .running ∧
      (bound .running .timed (some 0) (some 1)).lower.seq.work.quals.holdAtEnd = false ∧
      (bound .running .timed (some 0) (some 1)).lower.seq.work.next = some 0 ∧
      (bound .running .timed (some 0) (some 1)).lower.seq.newest = some (firstCheckpoint none) ∧
      (bound .running .timed (some 0) (some 1)).link.silenceExpired = false ∧
      found (bound .running .timed (some 0) (some 1)) 0 = .ok (record .timed Quals.none (some 0)) ∧
      found (bound .safe .cool (some 0) none) 0 = .ok (record .cool Quals.none (some 0)) ∧
      found (bound .running .dry (some 2) (some 1)) 2 = .error .slotEmpty ∧
      found (bound .running .dry (some 2) (some 1)) 1 = .ok (record .cool Quals.none none) ∧
      (bound .running .dry (some 2) none).lower.seq.anchor = none ∧
      found (bound .running .dry (some 2) none) 2 = .error .slotEmpty ∧
      found (bound .running .cool (some 2) (some 3)) 2 = .error .slotEmpty ∧
      found (bound .running .cool (some 2) (some 3)) 3 = .error .slotEmpty ∧
      (bound .safe .cool (some 2) (some 1)).lower.seq.run = .safe ∧
      found (bound .safe .cool (some 2) (some 1)) 2 = .error .slotEmpty := by
  and_intros <;> first | decide +kernel | (rw [found_quiet (by decide +kernel)]; rfl)

/-- LOWER paused and unattended for the full 10 s. -/
def deserted (begun : Bool) : State :=
  withSeq (machineIn .paused .timed Quals.none none) fun q =>
    { q with resumeTarget := .safe, unattended := true, doorClosedFor := 10000000, safeBegun := begun }

/-- UnattendedResumeEntersSafe, both parts. -/
theorem witness_unattended :
    (deserted true).lower.seq.run = .paused ∧
      (deserted true).lower.seq.unattended = true ∧
      (deserted true).lower.pins.door = true ∧
      10000000 ≤ (deserted true).lower.seq.doorClosedFor ∧
      (deserted true).lower.seq.safeBegun = true ∧
      (deserted false).lower.seq.safeBegun = false ∧
      (deserted false).lower.seq.anchor = some 1 ∧
      found (deserted false) 1 = .ok (record .cool Quals.none none) ∧
      (withSeq (deserted false) fun q => { q with anchor := none }).lower.seq.anchor = none ∧
      (withSeq (deserted false) fun q => { q with anchor := some 3 }).lower.seq.anchor = some 3 ∧
      found (withSeq (deserted false) fun q => { q with anchor := some 3 }) 3 = .error .slotEmpty := by
  and_intros <;> first | decide +kernel | (rw [found_quiet (by decide +kernel)]; rfl)

/-- TimePassesInEveryTimer: the end of the fan run-on, and its last second before the end and the one before it; an open phase
in RUNNING and in SAFE, a closed one, and one that is paused; a window of a drum that turns. -/
theorem witness_time :
    (fanEnding 1000000).lower.seq.fanRunOn = 1 ∧
      1000000 ≤ (fanEnding 1000000).lower.seq.fanFraction ∧
      (fanEnding 999999).tick.lower.seq.fanFraction = 1000000 ∧
      (withSeq (fanEnding 999999) fun q => { q with fanRunOn := 2 }).tick.lower.seq.fanRunOn = 1 ∧
      (machineIn .running .timed Quals.none none).lower.seq.newest = some (firstCheckpoint none) ∧
      (machineIn .running .timed Quals.none none).tick.lower.seq.phaseTimer = 1 ∧
      (machineIn .safe .timed Quals.none none).tick.lower.seq.phaseTimer = 1 ∧
      (machineIn .held .timed holding none).lower.seq.newest = some (firstCheckpoint (some .time)) ∧
      (machineIn .held .timed holding none).tick.lower.seq.phaseTimer = 0 ∧
      (machineIn .paused .timed Quals.none none).tick.lower.seq.phaseTimer = 0 ∧
      ((runningDrum .turning 0).tick.lower.moist.window.map SenseWindow.turning) = some 1 := by
  and_intros <;> first | rfl | decide +kernel

/-! ## Witnesses: the Drum Motion Unit -/

/-- PutMotionByCases: the last entry, and the first codes that are refused. -/
theorem witness_putMotion :
    pocketOf 0x00 = some .lower ∧
      entryOf 0x1F = some 31 ∧
      motionOf 0x02 = some .dwell ∧
      entryOf 0x20 = none ∧
      motionOf 0x03 = none ∧
      pocketOf 0x02 = none := by
  and_intros <;> decide +kernel

/-- TachEdgeMeasuresAndCounts: the longest period, a count that has passed it, no count at all, and a speed of half the
commanded one, 20 rpm at 25,000 ticks, and one below it, in STARTING and in TURNING. -/
theorem witness_tachEdge :
    (withDrum State.reset fun d => { d with tachCount := 65535 }).lower.drum.tachCount ≤ 65535 ∧
      65535 < (withDrum State.reset fun d => { d with tachCount := 65536 }).lower.drum.tachCount ∧
      State.reset.lower.drum.tachPassed = false ∧
      State.reset.lower.drum.tachCount = 0 ∧
      (after (.tachEdge .lower) (runningDrum .starting 25000)).lower.drum.state = .turning ∧
      (after (.tachEdge .lower) (runningDrum .starting 26316)).lower.drum.speed = 18 ∧
      (after (.tachEdge .lower) (runningDrum .starting 26316)).lower.drum.state = .starting ∧
      (after (.tachEdge .lower) (runningDrum .turning 26316)).lower.drum.speedLossTimer = some 0 ∧
      (after (.tachEdge .lower) (runningDrum .turning 25000)).lower.drum.speedLossTimer = none ∧
      (runningDrum .starting 25000).lower.seq.work.tangle.twistLimit = 40 ∧
      (after (.tachEdge .lower) (withDrum (runningDrum .starting 25000) fun d => { d with twist := 39 })).lower.drum.state = .turning ∧
      ((after (.tachEdge .lower) (withDrum (runningDrum .starting 25000) fun d => { d with twist := 40 })).lower.drum.unwind.map
        Unwind.trigger) = some .twist ∧
      (after (.tachEdge .lower) (withDrum (runningDrum .starting 25000) fun d => { d with twist := -40 })).lower.drum.unwind = none := by
  and_intros <;> first | rfl | decide +kernel

/-- LOWER turning forward in its run entry, one edge before the revolution that brings the twist from 39 to 40. -/
def twisting : State :=
  withLower (machineIn .running .timed Quals.none none) fun u =>
    { u with
      seq := { u.seq with work := { u.seq.work with tangle := { u.seq.work.tangle with imbalanceThreshold := 0 } } }
      drum := { u.drum with state := .turning, commanded := 40, revPulse := 11, twist := 39, entryTime := some 0 } }

/-- TriggersInsertUnwind: the twist reaches its limit of 40. -/
theorem witness_twist :
    twisting.lower.seq.run.drives = true ∧
      twisting.lower.drum.state = .turning ∧
      twisting.lower.drum.order = .runSegment ∧
      twisting.lower.drum.unwind = none ∧
      twisting.lower.drum.segment = some ⟨0, 1, 0⟩ ∧
      twisting.lower.drum.table[(0 : EntryNo)].motion = .run .fwd ∧
      twisting.lower.drum.dir = .fwd ∧
      twisting.lower.drum.revPulse = 11 ∧
      twisting.lower.seq.work.tangle.imbalanceThreshold = 0 ∧
      twisting.lower.seq.work.tangle.twistLimit = 40 ∧
      (twistStep .fwd twisting.lower.drum.twist).natAbs = 40 ∧
      0 < twistStep .fwd twisting.lower.drum.twist := by
  and_intros <;> first | rfl | decide +kernel

/-- LOWER turning, its last edge of a counted revolution to come: the periods of R99's first row, a spread of 6,000 about a
mean of 12,500 and so a measure of 122, with a threshold, a run and a twist. -/
def shaking (threshold run : Nat) (twist : Int) : State :=
  withLower (machineIn .running .timed Quals.none none) fun u =>
    { u with
      seq := { u.seq with work := { u.seq.work with tangle := { u.seq.work.tangle with imbalanceThreshold := threshold } } }
      drum := { u.drum with
        state := .turning, commanded := 40, entryTime := some 0, revPulse := 11, revNumber := 1, twist := twist, imbalanceRun := run,
        tachCount := 12000,
        revPeriods := [⟨some 16000, true⟩, ⟨some 10000, true⟩, ⟨some 12000, true⟩] ++ List.replicate 8 ⟨some 12500, true⟩ } }

/-- TriggersInsertUnwind: a measure above the threshold and one at it, the third of 3 revolutions and one before, with a
twist at its limit and not. -/
theorem witness_imbalance :
    min 1023 ((16000 - 10000) * 256 / (([16000, 10000, 12000] ++ List.replicate 8 12500 ++ [12000]).sum / 12)) = 122 ∧
      (shaking 121 2 0).lower.drum.revPeriods.length = 11 ∧
      (shaking 121 2 0).lower.seq.work.tangle.imbalanceRevs = 3 ∧
      ((after (.tachEdge .lower) (shaking 121 2 39)).lower.drum.unwind.map Unwind.trigger) = some .imbalance ∧
      (after (.tachEdge .lower) (shaking 121 1 0)).lower.drum.imbalanceRun = 2 ∧
      (after (.tachEdge .lower) (shaking 121 1 0)).lower.drum.unwind = none ∧
      (after (.tachEdge .lower) (shaking 122 2 0)).lower.drum.imbalanceRun = 0 ∧
      ((after (.tachEdge .lower) (shaking 121 1 39)).lower.drum.unwind.map Unwind.trigger) = some .twist ∧
      (after (.tachEdge .lower) (withDrum (shaking 121 2 0) fun d => { d with revNumber := 0 })).lower.drum.imbalanceRun = 2 := by
  and_intros <;> first | rfl | decide +kernel

/-- CaptureOverflowZeroesSpeed, with a drum TURNING at a commanded speed. -/
theorem witness_overflow :
    65535 < (withDrum twisting fun d => { d with tachCount := 65536 }).lower.drum.tachCount ∧
      twisting.lower.drum.tachPassed = false ∧
      0 < twisting.lower.drum.commanded := by
  and_intros <;> first | rfl | decide +kernel

/-- LOWER at rest with an unwind step under way. -/
def unwinding (w : Unwind) : State :=
  withDrum (machineIn .running .timed Quals.none none) fun d => { d with unwind := some w }

/-- LOWER turning in the run of an unwind step, one edge before a revolution is complete. -/
def unwindTurning (completed : Nat) (asserted : Bool) : State :=
  withDrum (unwinding ⟨.run, .rev, 40, 3, completed, 0, .imbalance, asserted, 1000⟩) fun d =>
    { d with state := .turning, dir := .rev, commanded := 40, revPulse := 11 }

/-- UnwindStepEnds: a revolution before the assertion, the second of three, and the third. -/
theorem witness_unwind_revolutions :
    (unwindTurning 1 true).lower.drum.unwind = some ⟨.run, .rev, 40, 3, 1, 0, .imbalance, true, 1000⟩ ∧
      (unwindTurning 1 true).lower.drum.revPulse = 11 ∧
      (unwindTurning 1 true).lower.drum.segment = some ⟨0, 1, 0⟩ ∧
      ((after (.tachEdge .lower) (unwindTurning 2 false)).lower.drum.unwind.map Unwind.completed) = some 2 ∧
      ((after (.tachEdge .lower) (unwindTurning 1 true)).lower.drum.unwind.map Unwind.completed) = some 2 ∧
      (after (.tachEdge .lower) (unwindTurning 2 true)).lower.drum.unwind = none ∧
      ((after (.tachEdge .lower) (unwindTurning 2 true)).lower.drum.segment.map Segment.cursor) = some 1 := by
  and_intros <;> first | rfl | decide +kernel

/-- UnwindStepEnds: 120 s from the assertion, and the loosen dwell of 5 s. -/
theorem witness_unwind_times :
    (unwinding ⟨.run, .rev, 40, 40, 7, 0, .twist, true, 120000000⟩).lower.drum.unwind =
        some ⟨.run, .rev, 40, 40, 7, 0, .twist, true, 120000000⟩ ∧
      (unwinding ⟨.run, .rev, 40, 40, 7, 0, .twist, true, 120000000⟩).lower.drum.segment = some ⟨0, 1, 0⟩ ∧
      (unwinding ⟨.loosen, .rev, 40, 3, 0, 0, .imbalance, false, 5000000⟩).lower.drum.state = .stopped ∧
      (unwinding ⟨.loosen, .rev, 40, 3, 0, 0, .imbalance, false, 5000000⟩).lower.seq.work.tangle.loosenDwell * 1000000 ≤ 5000000 ∧
      (unwinding ⟨.loosen, .rev, 40, 3, 0, 0, .imbalance, false, 5000000⟩).lower.drum.dir ≠ .rev := by
  and_intros <;> first | rfl | decide +kernel

/-- LOWER stopping, quiet for 800 ms, with a direction pending or an unwind step waiting. -/
def quietStop (pending : Option Dir) (w : Option Unwind) : State :=
  withDrum (machineIn .running .timed Quals.none none) fun d =>
    { d with state := .stopping, quiet := 800000, stopTimer := some 900000, pendingDir := pending, unwind := w }

/-- StopConfirmedAndDisturbed: a pending direction, none, an unwind step in its stop, and a drum at rest. -/
theorem witness_stop_confirmed :
    (quietStop (some .rev) none).lower.drum.state = .stopping ∧
      800000 ≤ (quietStop (some .rev) none).lower.drum.quiet ∧
      (quietStop (some .rev) none).lower.drum.pendingDir = some .rev ∧
      (quietStop none none).lower.drum.pendingDir = none ∧
      (quietStop none none).lower.drum.unwind = none ∧
      (quietStop none (some ⟨.stop, .rev, 40, 3, 0, 0, .imbalance, false, 0⟩)).lower.drum.unwind =
        some ⟨.stop, .rev, 40, 3, 0, 0, .imbalance, false, 0⟩ ∧
      (quietStop none none).lower.seq.work.tangle.loosenDwell ≠ 0 ∧
      (quietStop none none).lower.drum.dir ≠ .rev ∧
      (machineIn .running .timed Quals.none none).lower.drum.state = .stopped ∧
      (machineIn .running .timed Quals.none none).lower.drum.unwind = none := by
  and_intros <;> first | rfl | decide +kernel

/-- LOWER settled for 300 ms before a reverse run. -/
def settled : State :=
  withDrum (machineIn .running .timed Quals.none none) fun d =>
    { d with state := .settle, pendingDir := some .rev, settleTimer := some 300000, segment := some ⟨0, 1, 1⟩ }

/-- StandstillExpiryAssertsDirection, and the change of DIR that DirChangesOnlyAtStandstill allows. -/
theorem witness_standstill :
    settled.lower.drum.state = .settle ∧
      settled.lower.drum.pendingDir = some .rev ∧
      settled.lower.drum.settleTimer = some 300000 ∧
      exec (.standstillExpiry .lower) settled = .next (after (.standstillExpiry .lower) settled) ∧
      (after (.standstillExpiry .lower) settled).lower.drum.dir = .rev ∧
      settled.lower.drum.dir = .fwd := by
  and_intros <;> first | decide +kernel | rfl

/-- EntryExpiryMovesCursor: 20 half-seconds, at the first entry. -/
theorem witness_entry_expiry :
    twisting.lower.drum.order = .runSegment ∧
      twisting.lower.drum.unwind = none ∧
      twisting.lower.drum.segment = some ⟨0, 1, 0⟩ ∧
      (withDrum twisting fun d => { d with entryTime := some 10000000 }).lower.drum.entryTime = some 10000000 ∧
      twisting.lower.drum.table[(0 : EntryNo)].duration * 500000 ≤ 10000000 := by
  and_intros <;> decide +kernel

/-- LOWER's drum in a state, its entry of 10 s over, before a next entry. -/
def beforeEntry (st : DrumState) (next : MotionEntry) (twist : Int) : State :=
  withDrum (runningDrum st 0) fun d => { d with table := d.table.set 1 next, entryTime := some 10000000, twist := twist }

/-- EntryExpiryMovesCursor: the rows of R83's table, a drum that has stood for 300 ms already (R85), a dwell, and a twist at its
limit at the beginning of the next run. -/
theorem witness_next_entry :
    (after (.entryDurationExpiry .lower) (beforeEntry .turning ⟨.run .fwd, 50, 20, true⟩ 39)).lower.drum.commanded = 50 ∧
      (after (.entryDurationExpiry .lower) (beforeEntry .turning ⟨.run .fwd, 50, 20, true⟩ 40)).lower.drum.unwind.isSome = true ∧
      (after (.entryDurationExpiry .lower) (beforeEntry .starting ⟨.run .rev, 50, 20, true⟩ 0)).lower.drum.state = .stopping ∧
      (after (.entryDurationExpiry .lower) (beforeEntry .stopping ⟨.run .fwd, 50, 20, true⟩ 0)).lower.drum.state = .starting ∧
      (after (.entryDurationExpiry .lower) (beforeEntry .stopping ⟨.run .rev, 50, 20, true⟩ 0)).lower.drum.pendingDir = some .rev ∧
      (after (.entryDurationExpiry .lower) (beforeEntry .stopping ⟨.run .rev, 50, 20, true⟩ 0)).lower.drum.stopTimer = some 0 ∧
      (after (.entryDurationExpiry .lower) (withDrum (beforeEntry .stopping ⟨.run .rev, 50, 20, true⟩ 0) fun d =>
        { d with stopTimer := some 7000000 })).lower.drum.stopTimer = some 7000000 ∧
      (after (.entryDurationExpiry .lower) (beforeEntry .stopped ⟨.run .rev, 50, 20, true⟩ 0)).lower.drum.state = .settle ∧
      (after (.entryDurationExpiry .lower) (withDrum (beforeEntry .stopped ⟨.run .rev, 50, 20, true⟩ 0) fun d =>
        { d with settleTimer := some 300000 })).lower.drum.standstillDue = true ∧
      (after (.entryDurationExpiry .lower) (beforeEntry .settle ⟨.run .rev, 50, 20, true⟩ 0)).lower.drum.entryTime = none ∧
      (after (.entryDurationExpiry .lower) (beforeEntry .turning ⟨.dwell, 0, 20, true⟩ 0)).lower.drum.state = .stopping := by
  and_intros <;> first | rfl | decide +kernel

/-- DriveConditionHaltsPocket: each condition at its limit, in a state that halts and in one that does not. -/
theorem witness_drive :
    (withDrum twisting fun d => { d with state := .starting, startTimer := some 10000000 }).lower.drum.startDue = true ∧
      (withDrum twisting fun d => { d with speedLossTimer := some 5000000 }).lower.drum.speedLossDue = true ∧
      (withDrum State.reset fun d => { d with stopTimer := some 15000000 }).lower.drum.stopLimitDue = true ∧
      twisting.lower.seq.run.engaged = true ∧
      twisting.lower.faults.drive = false ∧
      twisting.lower.seq.newest = some (firstCheckpoint none) ∧
      State.reset.lower.seq.run.engaged = false := by
  and_intros <;> decide +kernel

/-! ## Witnesses: the Moisture Sense Unit -/

/-- CalMoistureByCases: a pocket, and the first code that is none. -/
theorem witness_calMoisture :
    pocketOf 0x01 = some .upper ∧
      2 ≤ (0x02 : Byte).toNat := by
  and_intros <;> decide +kernel

/-- MoisturePeriodsDelivered: counts of 0, 1 and 65,535, with a window, with a calibration part and with neither. -/
theorem witness_periods :
    State.reset.lower.moist.capture = 0 ∧
      (withMoist State.reset fun m => { m with capture := 1 }).lower.moist.capture = 1 ∧
      (withMoist State.reset fun m => { m with capture := 65535 }).lower.moist.capture = 65535 ∧
      State.reset.lower.moist.calibration = none ∧
      State.reset.lower.moist.window = none ∧
      (machineIn .running .dry Quals.none none).lower.moist.window = some ⟨2000000, 0, 0, 0, 0⟩ ∧
      (machineIn .running .dry Quals.none none).lower.moist.calibration = none ∧
      (withMoist State.reset fun m => { m with calibration := some ⟨.isolated, 0, 0, 0⟩ }).lower.moist.calibration =
        some ⟨.isolated, 0, 0, 0⟩ := by
  and_intros <;> decide +kernel

/-- LOWER at the end of the second part of a calibration, g_open measured as 24 and `edges` counted in the part. -/
def calibrated (edges : Nat) : State :=
  withMoist State.reset fun m => { m with calibration := some ⟨.reference 24, 1000000, edges, 1000000⟩ }

/-- CalibrationPartsEnd: the end of the first part, and of the second at the least rate that passes, the greatest, and a rate
one below the least. -/
theorem witness_calibration_parts :
    (withMoist State.reset fun m => { m with calibration := some ⟨.isolated, 1000000, 24, 983025⟩ }).lower.moist.calibration =
        some ⟨.isolated, 1000000, 24, 983025⟩ ∧
      (calibrated 124).lower.moist.calibration = some ⟨.reference 24, 1000000, 124, 1000000⟩ ∧
      (calibrated 124).lower.moist.capture < 65535 ∧
      (withMoist (calibrated 123) fun m => { m with capture := 65535 }).lower.moist.capture = 65535 ∧
      ((withMoist (calibrated 123) fun m =>
        { m with calibration := some ⟨.isolated, 1000000, 15, 934465⟩, capture := 65535 }).lower.moist.settled 48000).calibration =
          some ⟨.isolated, 1000000, 15, 1000000⟩ ∧
      ((withMoist (calibrated 123) fun m =>
        { m with calibration := some ⟨.isolated, 1000000, 15, 934466⟩, capture := 65534 }).lower.moist.settled 48000).calibration =
          some ⟨.isolated, 1000000, 15, 934466⟩ ∧
      1000000 * 124 / 1000000 = 24 + 100 ∧
      (after (.calComplete .lower) (calibrated 124)).lower.moist.valid = true ∧
      (after (.calComplete .lower) (calibrated 123)).lower.moist.valid = false ∧
      (after (.calComplete .lower) (calibrated 4000)).lower.moist.valid = true ∧
      (after (.calComplete .lower) (calibrated 4001)).lower.moist.valid = false := by
  and_intros <;> decide +kernel

/-- LOWER, calibrated, in a DRY phase at the end of a window with half its length turning and a reading of 200. -/
def windowDone (turning timer confirm : Nat) : State :=
  withMoist (withSeq (machineIn .running .dry holding none) fun q => { q with phaseTimer := timer, confirm := confirm }) fun m =>
    { m with gOpen := 24, gRef := 1041, valid := true, window := some ⟨2000000, 2000000, turning, 1000000, 200000000⟩ }

/-- The same without HOLD_AT_END, one window before the confirm value. -/
def unheld (timer : Nat) : State :=
  withSeq (windowDone 1000000 timer 2) fun q => { q with work := { q.work with quals := Quals.none } }

/-- WindowEndUpdatesEstimate: a window turning a microsecond less than half its length, and one of a COOL phase. -/
theorem witness_window_end :
    (windowDone 999999 0 0).lower.moist.window = some ⟨2000000, 2000000, 999999, 1000000, 200000000⟩ ∧
      999999 * 2 < 2000000 ∧
      (machineIn .running .cool Quals.none none).lower.seq.work.kind ≠ .dry ∧
      (machineIn .held .dry holding none).lower.seq.run = .held := by
  and_intros <;> first | rfl | decide +kernel

/-- DryDecisionClosesPhase: the timer at the minimum time and just past it, the estimate at the target times 16, and the counter
one short of the confirm value and two short of it, and the close without HOLD_AT_END and in SAFE. -/
theorem witness_dry_decision :
    (windowDone 1000000 300000000 2).lower.moist.valid = true ∧
      (windowDone 1000000 300000000 2).lower.seq.run = .running ∧
      (windowDone 1000000 300000000 2).lower.seq.newest = some (firstCheckpoint none) ∧
      (windowDone 1000000 300000000 2).lower.seq.work.kind = .dry ∧
      (windowDone 1000000 300000000 2).lower.seq.work.timedOnly = false ∧
      200000000 / 1000000 = 200 ∧
      nextEstimate (windowDone 1000000 300000000 2).lower.seq.work.dry.k 200 none = 200 * 16 ∧
      (windowDone 1000000 300000000 2).link.silenceExpired = false ∧
      (windowDone 1000000 300000000 2).lower.seq.work.dry.confirm = 3 ∧
      (windowDone 1000000 300000000 2).lower.seq.work.quals.holdAtEnd = true ∧
      (windowDone 1000000 300000000 2).lower.seq.work.dry.target = 200 ∧
      (windowDone 1000000 300000001 2).lower.seq.work.dry.minTime * 1000000 <
        (windowDone 1000000 300000001 2).lower.seq.phaseTimer ∧
      (after (.windowEnd .lower) (windowDone 1000000 300000000 2)).lower.seq.run = .running ∧
      (after (.windowEnd .lower) (windowDone 1000000 300000001 1)).lower.seq.confirm = 2 ∧
      (after (.windowEnd .lower) (windowDone 1000000 300000001 2)).lower.seq.run = .held ∧
      (after (.windowEnd .lower) (windowDone 999999 300000001 2)).lower.seq.confirm = 2 ∧
      (unheld 300000001).lower.seq.work.quals.holdAtEnd = false ∧
      (unheld 300000001).lower.seq.work.next = none ∧
      (after (.windowEnd .lower) (unheld 300000001)).lower.seq.run = .done ∧
      (after (.windowEnd .lower) (withSeq (unheld 300000001) fun q => { q with run := .safe })).lower.seq.run = .done ∧
      (after (.windowEnd .lower) (withSeq (unheld 300000001) fun q => { q with confirm := 1 })).lower.seq.confirm = 2 ∧
      (after (.windowEnd .lower) (withSeq (unheld 300000001) fun q => { q with confirm := 1, run := .safe })).lower.seq.confirm = 2 ∧
      (after (.windowEnd .lower) (withMoist (unheld 300000001) fun m => { m with valid := false })).lower.seq.confirm = 0 ∧
      (after (.windowEnd .lower) (unheld 300000001)).trend.fillBank.map TrendRecord.reading = [.measured 200] ∧
      (after (.windowEnd .lower) (unheld 300000001)).trend.fillBank.map TrendRecord.ordinal = [1] ∧
      (after (.windowEnd .lower) (unheld 300000001)).lower.moist.sequence = 1 := by
  and_intros <;> first | rfl | decide +kernel

/-! ## Witnesses: refusals, temperatures and faults -/

/-- PocketRequestsRefusedByState: the greatest k, the first beyond it, and a state for each clause of START. -/
theorem witness_refused_by_state :
    pocketOf 0x00 = some .lower ∧
      slotOf 0x07 = some 7 ∧
      slotOf 0x08 = some 8 ∧
      (machineIn .safe .cool Quals.none none).lower.seq.run = .safe ∧
      State.reset.supply.configured = false ∧
      State.reset.lower.seq.run = .idle ∧
      (withSeq ready fun q => { q with run := .done }).lower.seq.run = .done ∧
      (withLower ready fun u => u.latch .sensor).lower.faults ≠ FaultSet.none ∧
      (withLower ready fun u => { u with pins := { u.pins with door := false } }).lower.pins.door = false ∧
      ready.pool[(7 : SlotNo)] = .empty ∧
      ready.pool[(0 : SlotNo)] = .loaded (record .timed Quals.none none) ∧
      (withDrum ready fun d => { d with table := d.table.set 1 MotionEntry.unwritten }).lower.drum.table[(1 : EntryNo)].written =
        false ∧
      2 ≤ (0x02 : Byte).toNat ∧
      48 ≤ (0x30 : Byte).toNat ∧
      (withMoist ready fun m => { m with calibration := some ⟨.isolated, 0, 0, 0⟩ }).lower.moist.calibration ≠ none ∧
      (machineIn .held .timed holding none).lower.seq.history.length ≤ (0x01 : Byte).toNat ∧
      (overPaused Quals.none).lower.seq.resumeTarget = .running ∧
      (overPaused Quals.none).lower.seq.history.length ≤ (0x01 : Byte).toNat ∧
      twoPhases.lower.seq.history.reverse[(0x01 : Byte).toNat]? = some ⟨1, 1, some 16, -2, some .cooled⟩ ∧
      ({ twoPhases with pool := twoPhases.pool.set 1 .empty } : State).pool[(1 : SlotNo)] = .empty ∧
      ({ twoPhases with pool := twoPhases.pool.set 1 (.active .upper (record .cool Quals.none none)) } : State).pool[(1 : SlotNo)] =
        .active (otherPocket .lower) (record .cool Quals.none none) ∧
      (withDrum twoPhases fun d => { d with table := d.table.set 1 MotionEntry.unwritten }).pool[(1 : SlotNo)].record? =
        some (record .cool Quals.none none) ∧
      (withDrum twoPhases fun d => { d with table := d.table.set 1 MotionEntry.unwritten }).lower.drum.table[(1 : EntryNo)].written =
        false := by
  and_intros <;> first | rfl | decide +kernel

/-- TemperatureRequestsByCases: the last channel, and the first number that is none. -/
theorem witness_setTempCal :
    channelOf 0x04 = some .ambient ∧
      5 ≤ (0x05 : Byte).toNat := by
  and_intros <;> decide +kernel

/-- LOWER in a COOL phase under HOLD_AT_END, AMBIENT healthy at 42.0 °C or not. -/
def cooling (healthy : Bool) (run : RunState := .running) (quals : Quals := holding) : State :=
  let s := machineIn run .cool quals none
  { s with temps := { s.temps with healthy := healthy, ambient := { s.temps.ambient with reading := some 420 } } }

/-- ConversionActsOnItsChannel: the counts at the limits of the classes, and the example of R31: a threshold of 470 with a
healthy AMBIENT, which a reading of 468 meets, and of 450 without, which it does not. -/
theorem witness_conversion :
    (15 : ConverterCount).toNat ≤ 15 ∧
      16 ≤ (16 : ConverterCount).toNat ∧
      (4079 : ConverterCount).toNat < 4080 ∧
      4080 ≤ (4080 : ConverterCount).toNat ∧
      (after (.channelConversion .lowerExhaust 1229) (cooling true)).temps.lowerExhaust.reading = some 468 ∧
      (cooling true).lower.seq.run = .running ∧
      (cooling true).lower.seq.newest = some (firstCheckpoint none) ∧
      (cooling true).lower.seq.work.kind = .cool ∧
      (cooling true).lower.seq.work.quals.holdAtEnd = true ∧
      (468 : Int) ≤ max (cooling true).lower.seq.work.cool.endTemp (420 + 50) ∧
      (after (.channelConversion .lowerExhaust 1229) (cooling true)).lower.seq.run = .held ∧
      (after (.channelConversion .lowerExhaust 1229) (cooling false)).lower.seq.run = .running ∧
      (cooling true).lower.seq.work.next = none ∧
      (after (.channelConversion .lowerExhaust 1229) (cooling true .running Quals.none)).lower.seq.run = .done ∧
      (after (.channelConversion .lowerExhaust 1229) (cooling true .safe)).lower.seq.run = .done ∧
      (cooling true).temps.lowerExhaust.badScans < 2 ∧
      (after (.channelConversion .lowerExhaust 4080)
        (after (.channelConversion .lowerExhaust 1229) (cooling false))).lower.seq.run = .running := by
  and_intros <;> first | rfl | decide +kernel

/-- LOWER's two channels after two bad scans, the exhaust reading at 46.8 °C. -/
def failing (s : State) : State :=
  { s with temps := { s.temps with
      lowerInlet := { s.temps.lowerInlet with badScans := 2 }
      lowerExhaust := { s.temps.lowerExhaust with badScans := 2, reading := some 468 } } }

/-- ConversionActsOnItsChannel: the third bad scan on a running, a held, a paused and an idle pocket, with a usable anchor,
none and an EMPTY one; with the COOL end met, SENSOR latched or not; and an inlet reading just above the limit of 120.0 °C.
-/
theorem witness_sensor :
    2 ≤ ((failing (machineIn .running .timed Quals.none none)).temps.channel .lowerInlet).badScans ∧
      (failing (machineIn .running .timed Quals.none none)).lower.faults.sensor = false ∧
      (failing (machineIn .running .timed Quals.none none)).lower.seq.newest = some (firstCheckpoint none) ∧
      found (failing (machineIn .running .timed Quals.none none)) 1 = .ok (record .cool Quals.none none) ∧
      (failing (machineIn .held .timed holding none)).lower.seq.run = .held ∧
      (failing (bound .running .timed none none)).lower.seq.anchor = none ∧
      found (failing (bound .running .timed none (some 3))) 3 = .error .slotEmpty ∧
      (after (.channelConversion .lowerInlet 0) (failing (overPaused Quals.none))).lower.seq.resumeTarget = .safe ∧
      (after (.channelConversion .lowerInlet 0) (failing State.reset)).lower.faults.sensor = true ∧
      (failing (cooling true)).lower.seq.work.kind = .cool ∧
      (failing (cooling true)).temps.lowerExhaust.reading = some 468 ∧
      (468 : Int) ≤ max (failing (cooling true)).lower.seq.work.cool.endTemp (420 + 50) ∧
      (withLower (failing (cooling true .safe)) fun u => u.latch .sensor).lower.faults.sensor = true ∧
      (withLower (failing (cooling true .safe)) fun u => u.latch .sensor).lower.seq.run = .safe ∧
      ((State.reset.temps.channel .lowerInlet).take 2402).reading = some 1201 ∧
      State.reset.supply.config.inletHigh = 1200 := by
  and_intros <;> first | decide +kernel | (rw [found_quiet (by decide +kernel)]; rfl) | rfl

/-- CutoutOpeningLatchesOverheat: a closed cutout on an idle pocket, a running one and a paused one. -/
theorem witness_cutout :
    State.reset.lower.pins.cutout = true ∧
      State.reset.lower.faults.overheat = false ∧
      State.reset.lower.seq.run.engaged = false ∧
      (machineIn .running .timed Quals.none none).lower.pins.cutout = true ∧
      (machineIn .running .timed Quals.none none).lower.seq.newest = some (firstCheckpoint none) ∧
      found (machineIn .running .timed Quals.none none) 1 = .ok (record .cool Quals.none none) ∧
      (bound .running .timed none none).lower.seq.anchor = none ∧
      found (bound .running .timed none (some 3)) 3 = .error .slotEmpty ∧
      (overPaused Quals.none).lower.pins.cutout = true ∧
      (overPaused Quals.none).lower.seq.resumeTarget = .running := by
  and_intros <;> first | decide +kernel | (rw [found_quiet (by decide +kernel)]; rfl)

/-! ## Witnesses: the Heat Regulator and the faults -/

/-- ConfigureByCases: a payload of another length, an engaged pocket, and none engaged. -/
theorem witness_configure :
    ([] : List Byte).length ≠ 17 ∧
      (machineIn .running .dry Quals.none none).lower.seq.run.engaged = true ∧
      State.reset.lower.seq.run.engaged = false ∧
      State.reset.upper.seq.run.engaged = false := by
  and_intros <;> first | rfl | decide +kernel

/-- LOWER heating: inlet 75.2 °C, exhaust 60.0 °C, three elements of weight 1, AIRF asserted, the frame at its boundary. -/
def heating : State :=
  let s := machineIn .running .dry Quals.none none
  { s with
    lower := { s.lower with pins := ⟨true, true, true⟩, drum := { s.lower.drum with state := .turning, commanded := 40 } }
    temps := { s.temps with
      lowerInlet := { s.temps.lowerInlet with reading := some 752 }
      lowerExhaust := { s.temps.lowerExhaust with reading := some 600 } }
    supply := { s.supply with config := { s.supply.config with budget := 2, weights := #v[1, 1, 1, 0, 0, 0] }, mainsPresent := true } }

/-- FrameBoundaryFormsDemand, with the demand of 36 of R159's table and the split of R162's. -/
theorem witness_frame_boundary :
    heating.supply.framePos = 0 ∧
      (heating.unit .lower).hasPermission = true ∧
      (heating.inlet .lower).reading = some 752 ∧
      (heating.exhaust .lower).reading = some 600 ∧
      (State.reset.unit .lower).hasPermission = false ∧
      (after .zeroCross heating).lower.heat.demand = 36 ∧
      (after .zeroCross heating).lower.heat.elements[(0 : Fin 3)].output = true ∧
      (after .zeroCross heating).lower.heat.elements[(1 : Fin 3)].accumulator = 11 := by
  and_intros <;> first | rfl | decide +kernel

/-- MainsAndAirflowEvents: the loss at 60 ms and a microsecond before, the edges of AIRF, and the timer at 5 s. -/
theorem witness_mains_airflow :
    heating.supply.mainsPresent = true ∧
      60000 ≤ ({ heating.supply with zcElapsed := 60000 } : Supply).zcElapsed ∧
      ({ heating.supply with zcElapsed := 59999 } : Supply).zcElapsed < 60000 ∧
      heating.lower.pins.airf = true ∧
      (withLower heating fun u => { u with heat := { u.heat with airTimer := some 5000000 } }).lower.heat.airTimer = some 5000000 ∧
      heating.lower.faults.airflow = false ∧
      heating.lower.seq.run = .running ∧
      heating.lower.seq.anchor = some 1 ∧
      found heating 1 = .ok (record .cool Quals.none none) ∧
      (withSeq heating fun q => { q with anchor := none }).lower.seq.anchor = none ∧
      found (withSeq heating fun q => { q with anchor := some 3 }) 3 = .error .slotEmpty := by
  and_intros <;> first | decide +kernel | (rw [found_quiet (by decide +kernel)]; rfl) | rfl

/-- ClearFaultByCases: all six faults, and the first set that names another. -/
theorem witness_clearFault :
    pocketOf 0x00 = some .lower ∧
      faultSetOf 0x3F = some ⟨true, true, true, true, true, true⟩ ∧
      64 ≤ (0x40 : Byte).toNat := by
  and_intros <;> decide +kernel

/-- StatusAndHistoryReports: a pocket, and the first code that is no target. -/
theorem witness_getStatus :
    pocketOf 0x01 = some .upper ∧
      3 ≤ (0x03 : Byte).toNat := by
  and_intros <;> decide +kernel

/-! ## Witnesses: the Trend Buffer and the Link Port -/

/-- A trend record. -/
def trendRecord : TrendRecord :=
  { pocket := .lower, slot := 0, ordinal := 1, sequence := 1, reading := .absent, estimate := none, inlet := none, exhaust := none,
    drum := .turning, twist := -1, granted := 11 }

/-- A buffer with `fill` records in the fill bank and `read` in the read bank, at the power-on threshold of 32. -/
def buffer (fill read : Nat) (mode : TrendMode) : TrendBuffer :=
  ⟨List.replicate fill trendRecord, List.replicate read trendRecord, .a, mode, 32, false⟩

/-- TrendWriteByCases: a full fill bank that is kept and one that is not, and counts of 31 and 32 below a full one. -/
theorem witness_trend_write :
    64 ≤ (buffer 64 1 .stop).fillBank.length ∧
      (buffer 64 1 .stop).mode = .stop ∧
      (buffer 64 1 .stop).readBank ≠ [] ∧
      (buffer 64 1 .swap).mode ≠ .stop ∧
      1 ≤ (buffer 64 1 .swap).threshold ∧
      (buffer 31 0 .swap).fillBank.length < (buffer 31 0 .swap).threshold ∧
      (buffer 32 0 .swap).threshold ≤ (buffer 32 0 .swap).fillBank.length ∧
      (buffer 63 1 .stop).fillBank.length < 64 := by
  and_intros <;> first | rfl | decide +kernel

/-- TrendRequestsByCases: a read of the last 4 records in STOP mode with 33 behind them, 5 records, an empty read bank, and the
modes and thresholds at their limits. -/
theorem witness_trend_requests :
    (buffer 33 4 .stop).readBank ≠ [] ∧
      (buffer 33 4 .stop).readBank.length ≤ 4 ∧
      (buffer 33 4 .stop).threshold < (buffer 33 4 .stop).fillBank.length ∧
      4 < (buffer 33 5 .stop).readBank.length ∧
      (buffer 32 4 .stop).fillBank.length ≤ (buffer 32 4 .stop).threshold ∧
      (buffer 1 0 .swap).readBank = [] ∧
      (buffer 1 0 .swap).fillBank ≠ [] ∧
      (0x01 : Byte).toNat ≤ 1 ∧
      2 ≤ (0x02 : Byte).toNat ∧
      (0x3F : Byte).toNat ≤ 63 := by
  and_intros <;> first | rfl | decide +kernel

/-- FramesAssembleToRequests: the longest payload, a well-formed request, the length bytes at their limits, and 10 ms of
silence in a frame. -/
theorem witness_frames :
    (List.replicate 63 (0 : Byte)).length ≤ 63 ∧
      LinkPort.powerOn.assembler = .hunt ∧
      LinkPort.powerOn.inbound.length < 2 ∧
      (Instr.getStatus 0x00).wellFormed = true ∧
      requestFrame (.getStatus 0x00) = some (0x20, [0x00]) ∧
      (LinkPort.powerOn.receive 0xB5 true).assembler = .length ∧
      64 < (0x41 : Byte).toNat ∧
      (0x00 : Byte).toNat = 0 ∧
      10000 ≤ ({ LinkPort.powerOn with assembler := .length, byteSilence := 10000 } : LinkPort).byteSilence ∧
      ({ LinkPort.powerOn with assembler := .body 2 [], byteSilence := 10261 } : LinkPort).atStartBit = .body 2 [] ∧
      ({ LinkPort.powerOn with assembler := .body 2 [], byteSilence := 10262 } : LinkPort).atStartBit = .hunt := by
  and_intros <;> first | rfl | decide +kernel

/-- The part with the silence timer as given, its timeout being 5 s. -/
def silent (s : State) (time : Nat) (expired : Bool) : State :=
  { s with link := { s.link with silence := time, silenceExpired := expired } }

/-- SilenceReportsLinkLost: the timer at the timeout and a microsecond short of it, on a RUNNING pocket and a PAUSED one,
and after the expiry a pause, a door opening, a START and the end of a phase under HOLD_AT_END. -/
theorem witness_silence :
    (silent (machineIn .running .timed Quals.none none) 5000000 false).supply.config.silence * 1000000 = 5000000 ∧
      (silent (machineIn .running .timed Quals.none none) 5000000 false).link.silenceExpired = false ∧
      (silent (machineIn .running .timed Quals.none none) 5000000 false).lower.seq.run.linkWatched = true ∧
      (silent (machineIn .running .timed Quals.none none) 5000000 false).lower.faults.linkLost = false ∧
      (overPaused Quals.none).lower.seq.run.linkWatched = true ∧
      State.reset.lower.seq.run.linkWatched = false ∧
      (silent State.reset 4999999 false).link.silence < (silent State.reset 4999999 false).supply.config.silence * 1000000 ∧
      (silent (machineIn .safe .cool Quals.none none) 0 true).link.silenceExpired = true ∧
      (machineIn .safe .cool Quals.none none).lower.seq.run.drives = true ∧
      (machineIn .safe .cool Quals.none none).lower.pins.door = true ∧
      (after (.start 0x00 0x00) (silent ready 0 true)).lower.seq.run = .safe ∧
      (machineIn .running .timed holding none).lower.seq.newest = some (firstCheckpoint none) ∧
      (machineIn .running .timed holding none).lower.seq.work.quals.holdAtEnd = true ∧
      (machineIn .running .timed holding none).lower.seq.work.maxTime * 1000000 ≤ 600000000 := by
  and_intros <;> first | rfl | decide +kernel

/-- SilenceReportsLinkLost: the entries that a request makes while the timer stands expired, a RESUME within the limit, from
a held phase, by retry and along next, an ADVANCE from HELD and from RUNNING, which is no entry, and a BACKSTEP from HELD
and from PAUSED; and the closing window and the COOL end under HOLD_AT_END. -/
theorem witness_silent_entries :
    (after (.resume 0x00) (silent (withSeq (overPaused Quals.none) fun q => { q with restored := true }) 0 true)).lower.seq.run =
        .safe ∧
      (after (.resume 0x00) (silent (withSeq (overPaused Quals.none) fun q => { q with restored := true, anchor := none }) 0
        true)).lower.seq.run = .halted ∧
      (after (.resume 0x00) (silent (withLower (overPaused Quals.none) fun u =>
        { u.latch .linkLost with seq := { u.seq with held := true } }) 0 true)).lower.seq.run = .held ∧
      (after (.resume 0x00) (silent (overPaused retrying) 0 true)).lower.seq.run = .safe ∧
      (after (.resume 0x00) (silent (overPausedAt 0) 0 true)).lower.seq.run = .safe ∧
      (after (.advance 0x00) (silent (machineIn .held .timed holding (some 0)) 0 true)).lower.seq.run = .safe ∧
      (after (.advance 0x00) (silent (machineIn .running .timed holding (some 0)) 0 true)).lower.seq.run = .running ∧
      (after (.advance 0x00) (silent (withLower (machineIn .held .timed holding (some 0)) fun u => u.latch .linkLost) 0
        true)).lower.seq.run = .running ∧
      (after (.backstep 0x00 0x00) (silent twoPhases 0 true)).lower.seq.resumeTarget = .safe ∧
      (after (.backstep 0x00 0x00) (silent (overPaused Quals.none) 0 true)).lower.seq.resumeTarget = .running ∧
      (silent (windowDone 1000000 300000001 2) 0 true).link.silenceExpired = true ∧
      min 15 ((silent (windowDone 1000000 300000001 2) 0 true).lower.seq.confirm + 1) =
        (silent (windowDone 1000000 300000001 2) 0 true).lower.seq.work.dry.confirm ∧
      (((silent (cooling true) 0 true).temps.channel .lowerExhaust).take 1229).reading = some 468 ∧
      468 ≤ (silent (cooling true) 0 true).temps.coolThreshold (silent (cooling true) 0 true).lower.seq.work.cool.endTemp := by
  and_intros <;> first | rfl | decide +kernel

/-- The part with a frame in the inbound queue. -/
def queued (f : InFrame) : State := { State.reset with link := { LinkPort.powerOn with inbound := [f] } }

/-- FrameTakenIsAnswered: a bad check, an unknown kind, a wrong length, and a request. -/
theorem witness_frame_taken :
    (queued ⟨0x22, [], false⟩).link.replySlot = none ∧
      (queued ⟨0x22, [], false⟩).link.inbound = ⟨0x22, [], false⟩ :: [] ∧
      requestOf 0x7F [] = .unknownKind ∧
      requestOf 0x22 [0x00] = .badLength ∧
      requestOf 0x22 [] = .request .getTemps ∧
      State.reset.link.inbound = [] := by
  and_intros <;> decide +kernel

/-- TransmissionsBeginAndEnd: a FRAME_ERROR reply waiting and one with a result, the line in the first bits of a frame and
in the last bit of its first byte, a marked pocket and a marked DEVICE, and a frame of 6 bytes at 1,563 µs, the first
microsecond at which its 60 bits at 38,400 baud have passed. -/
theorem witness_transmissions :
    (after .getTemps State.reset).link.tx = .idle ∧
      (after .getTemps State.reset).link.replySlot = (after .getTemps State.reset).link.answer ∧
      ((after .getTemps State.reset).link.answer.bind Reply.result) = some .ok ∧
      (after .replyTransmissionBegin (after .frameTaken (queued ⟨0x22, [], false⟩))).link.tx =
        .sending true [0xB5, 0x02, 0xFF, 0x00, 0x01] 0 ∧
      [0, 1, 2, 3].map (fun k : Nat => ({ LinkPort.powerOn with
        tx := .sending true [0xB5, 0x02] (k * 1000000 / 38400 + 1) } : LinkPort).txd) = [false, true, false, true] ∧
      ({ LinkPort.powerOn with tx := .sending true [0xB5, 0x02] 235 } : LinkPort).txd = true ∧
      ({ LinkPort.powerOn with tx := .sending true [0xB5, 0x02] 261 } : LinkPort).txd = false ∧
      (withLower State.reset fun u => u.raise .held).lower.noticeMark = true ∧
      (DeviceNotices.none.raise .mainsLost).mark = true ∧
      (frameBytes [0x70, 0x00, 0x02]).length * 10000000 ≤ 1563 * 38400 ∧
      1562 * 38400 < (frameBytes [0x70, 0x00, 0x02]).length * 10000000 := by
  and_intros <;> first | decide +kernel | rfl

/-- ResetsRestoreBlocks: an engaged pocket, and none. -/
theorem witness_reset_part :
    (machineIn .held .timed holding none).lower.seq.run.engaged = true ∧
      State.reset.lower.seq.run.engaged = false ∧
      State.reset.upper.seq.run.engaged = false ∧
      exec .powerOn heating = .next (after .powerOn heating) := by
  and_intros <;> first | decide +kernel | rfl

/-! ## Witnesses: the invariants -/

/-- A state that a step can leave: reset with a request in its queue. -/
def resetWithRequest : State := { State.reset with pending := [.getTemps] }

/-- The step that the four invariants are asked to survive. -/
theorem witness_step : step resetWithRequest = .next (after .getTemps State.reset) := rfl

/-- StepKeepsHeatGuarded. -/
theorem witness_heat_guarded : resetWithRequest.HeatGuarded ∧ resetWithRequest.HeatWithdrawn := by
  refine ⟨⟨?_, ?_⟩, ?_, ?_⟩ <;> intro j <;> revert j <;> decide +kernel

/-- StepKeepsDrumsGuarded, with an idle part. -/
theorem witness_drums_guarded :
    resetWithRequest.DriveGuarded ∧ resetWithRequest.OrderMatches ∧ resetWithRequest.OutputsMatch := by
  refine ⟨⟨?_, ?_⟩, ⟨?_, ?_⟩, ⟨?_, ?_⟩⟩
  · refine ⟨?_, ?_, ?_, ?_, ?_⟩ <;> decide +kernel
  · refine ⟨?_, ?_, ?_, ?_, ?_⟩ <;> decide +kernel
  · refine ⟨?_, ?_⟩ <;> decide +kernel
  · refine ⟨?_, ?_⟩ <;> decide +kernel
  · exact ⟨fun _ => rfl, (fun _ h => nomatch h), (fun h => nomatch h)⟩
  · exact ⟨fun _ => rfl, (fun _ h => nomatch h), (fun h => nomatch h)⟩

/-- StepKeepsSlotsAndPhases, and the ownership that StepKeepsDrumsGuarded asks for. -/
theorem witness_slots_and_phases :
    resetWithRequest.Ownership ∧ resetWithRequest.PhasesMatch ∧ resetWithRequest.AnchorsApart := by
  refine ⟨⟨?_, rfl, rfl⟩, ⟨⟨rfl, rfl⟩, ⟨rfl, rfl⟩⟩, fun i h => nomatch h.1⟩
  intro p i
  cases p <;> revert i <;> decide +kernel

/-- StepKeepsRanges. -/
theorem witness_ranges :
    resetWithRequest.TwistInRange ∧ resetWithRequest.AccumulatorsInRange ∧ resetWithRequest.BuffersBounded ∧
      1 ≤ resetWithRequest.trend.threshold := by
  refine ⟨⟨⟨by decide, fun c h => nomatch h⟩, ⟨by decide, fun c h => nomatch h⟩⟩, ⟨by decide, by decide, ?_⟩,
    ⟨by decide, by decide, by decide, by decide, by decide⟩, by decide⟩
  intro p j
  cases p <;> revert j <;> decide +kernel

end Sys2Proof.Tests
end

section
/-! How the operand bytes of the pool's requests are read: which codes each reader accepts, that a code accepted is given
back by the reply's code of the same field, and which bytes a group mask asks for. -/

namespace Sys2Proof.Machine

/-! ## Bytes of flags -/

/-- A byte is its lowest bit and twice the rest. -/
theorem lowBit_add_shifted (b : Byte) : (if b.getLsbD 0 then (1 : Byte) else 0) + 2 * (b >>> 1) = b := by
  have hbit : b.getLsbD 0 = decide (b.toNat % 2 = 1) := Nat.testBit_zero b.toNat
  apply BitVec.eq_of_toNat_eq
  rw [hbit, BitVec.toNat_add, BitVec.toNat_mul, BitVec.toNat_ushiftRight, Nat.shiftRight_eq_div_pow]
  by_cases hodd : b.toNat % 2 = 1
  · simp [hodd]
    omega
  · simp [hodd]
    omega

/-- The low `n` bits of a byte that has no other bit, collected again (R206). -/
theorem bitsByte_low_bits (n : Nat) (b : Byte) (h : b.toNat < 2 ^ n) :
    bitsByte ((List.range n).map fun k => b.getLsbD k) = b := by
  induction n generalizing b with
  | zero =>
    have hb : b.toNat = 0 := by omega
    exact (BitVec.eq_of_toNat_eq hb).symm
  | succ n ih =>
    have hshift : (b >>> 1).toNat < 2 ^ n := by
      rw [BitVec.toNat_ushiftRight, Nat.shiftRight_eq_div_pow]
      omega
    have htail : (List.range n).map ((fun k => b.getLsbD k) ∘ Nat.succ) = (List.range n).map fun k => (b >>> 1).getLsbD k :=
      List.map_congr_left fun k _ => by
        rw [Function.comp_apply, BitVec.getLsbD_ushiftRight, Nat.succ_eq_add_one, Nat.add_comm]
    rw [List.range_succ_eq_map, List.map_cons, List.map_map, htail, bitsByte, ih (b >>> 1) hshift]
    exact lowBit_add_shifted b

/-! ## Codes -/

/-- Two codes name a pocket (R206). -/
theorem pocketOf_isSome (b : Byte) : (pocketOf b).isSome = true ↔ b.toNat < 2 := by
  unfold pocketOf
  split <;> grind

/-- 48 codes name a slot (R1). -/
theorem slotOf_isSome (b : Byte) : (slotOf b).isSome = true ↔ b.toNat < 48 := by
  simp [slotOf]

/-- A slot's number is its code. -/
theorem slotOf_eq_some {b : Byte} {i : SlotNo} : slotOf b = some i ↔ b.toNat = i.val := by
  unfold slotOf
  split
  · exact Option.some_inj.trans Fin.ext_iff
  · next hb => exact ⟨nofun, fun h => absurd (h ▸ i.isLt) hb⟩

/-- A slot reference is a slot's code or 0xFF (R206). -/
theorem slotRefOf_isSome (b : Byte) : (slotRefOf b).isSome = true ↔ b.toNat < 48 ∨ b = 0xFF := by
  unfold slotRefOf
  split <;> simp_all [slotOf_isSome]

/-- A slot reference accepted is reported by the code it came in. -/
theorem slotRefCode_slotRefOf {b : Byte} {a : Option SlotNo} (h : slotRefOf b = some a) : slotRefCode a = b := by
  unfold slotRefOf at h
  split at h
  · next hb =>
    obtain rfl : none = a := by simpa using h
    exact hb.symm
  · obtain ⟨i, hi, rfl⟩ := Option.map_eq_some_iff.mp h
    rw [slotOf_eq_some] at hi
    simp [slotRefCode, ← hi]

/-- 32 codes name a motion entry (R69). -/
theorem entryOf_isSome (b : Byte) : (entryOf b).isSome = true ↔ b.toNat < 32 := by
  simp [entryOf]

/-- An entry's number is its code. -/
theorem entryOf_val {b : Byte} {j : EntryNo} (h : entryOf b = some j) : j.val = b.toNat := by
  unfold entryOf at h
  split at h
  · obtain rfl := Option.some.inj h
    rfl
  · cases h

/-- Four codes name a kind (R206). -/
theorem kindOf_isSome (b : Byte) : (kindOf b).isSome = true ↔ b.toNat < 4 := by
  unfold kindOf
  split <;> grind

/-- A kind accepted is reported by the code it came in. -/
theorem kindCode_kindOf {b : Byte} {k : Kind} (h : kindOf b = some k) : kindCode k = b := by
  unfold kindOf at h
  split at h
  case h_5 => cases h
  all_goals
    next hb =>
    obtain rfl := Option.some.inj h
    exact (BitVec.eq_of_toNat_eq hb).symm

/-- A qualifier field has no bit but the three (R3). -/
theorem qualsOf_isSome (b : Byte) : (qualsOf b).isSome = true ↔ b.toNat < 8 := by
  simp [qualsOf]

/-- A qualifier set accepted is reported by the byte it came in. -/
theorem byte_qualsOf {b : Byte} {q : Quals} (h : qualsOf b = some q) : q.byte = b := by
  unfold qualsOf at h
  split at h
  · next hb =>
    obtain rfl := Option.some.inj h
    exact bitsByte_low_bits 3 b hb
  · cases h

/-! ## Groups -/

/-- A reader that takes exactly `n` bytes from the head of a list, and fails on a shorter list alone. -/
def ReadsHead {α : Type} (n : Nat) (read : List Byte → Option (α × List Byte)) : Prop :=
  ∀ bytes, (bytes.length < n ∧ read bytes = none) ∨
    ∃ g rest, read bytes = some (g, rest) ∧ bytes.length = n + rest.length

theorem readHeat_readsHead : ReadsHead 8 readHeat
  | _ :: _ :: _ :: _ :: _ :: _ :: _ :: _ :: rest => .inr ⟨_, rest, rfl, by simp only [List.length_cons]; omega⟩
  | [] | [_] | [_, _] | [_, _, _] | [_, _, _, _] | [_, _, _, _, _] | [_, _, _, _, _, _] | [_, _, _, _, _, _, _] =>
    .inl ⟨by simp, rfl⟩

theorem readDry_readsHead : ReadsHead 7 readDry
  | _ :: _ :: _ :: _ :: _ :: _ :: _ :: rest => .inr ⟨_, rest, rfl, by simp only [List.length_cons]; omega⟩
  | [] | [_] | [_, _] | [_, _, _] | [_, _, _, _] | [_, _, _, _, _] | [_, _, _, _, _, _] =>
    .inl ⟨by simp, rfl⟩

theorem readCool_readsHead : ReadsHead 2 readCool
  | _ :: _ :: rest => .inr ⟨_, rest, rfl, by simp only [List.length_cons]; omega⟩
  | [] | [_] =>
    .inl ⟨by simp, rfl⟩

theorem readTangle_readsHead : ReadsHead 6 readTangle
  | _ :: _ :: _ :: _ :: _ :: _ :: rest => .inr ⟨_, rest, rfl, by simp only [List.length_cons]; omega⟩
  | [] | [_] | [_, _] | [_, _, _] | [_, _, _, _] | [_, _, _, _, _] =>
    .inl ⟨by simp, rfl⟩

/-- A group that may be named: it is read where it is named, and takes its bytes then alone. -/
theorem readIf_cases {α : Type} {n : Nat} {read : List Byte → Option (α × List Byte)} (hread : ReadsHead n read)
    (named : Bool) (bytes : List Byte) :
    (bytes.length < (if named then n else 0) ∧ readIf named read bytes = none) ∨
      ∃ g rest, readIf named read bytes = some (g, rest) ∧ g.isSome = named ∧
        bytes.length = (if named then n else 0) + rest.length := by
  cases named with
  | false => exact .inr ⟨none, bytes, rfl, rfl, by simp⟩
  | true =>
    rcases hread bytes with ⟨hlen, hnone⟩ | ⟨g, rest, hsome, hlen⟩
    · exact .inl ⟨hlen, by simp [readIf, hnone]⟩
    · exact .inr ⟨some g, rest, by simp [readIf, hsome], rfl, hlen⟩

/-- Groups are read exactly where the mask names no unknown group and the bytes are as many as the groups named have, and then
those groups are present (R10, 11.9). -/
theorem groupsOf_cases (mask : Byte) (bytes : List Byte) :
    (¬(mask.toNat < 16 ∧ bytes.length = groupsLength mask) ∧ groupsOf mask bytes = none) ∨
      ∃ g, groupsOf mask bytes = some g ∧ mask.toNat < 16 ∧ bytes.length = groupsLength mask ∧
        g.heat.isSome = mask.getLsbD 0 ∧ g.dry.isSome = mask.getLsbD 1 ∧ g.cool.isSome = mask.getLsbD 2 ∧
        g.tangle.isSome = mask.getLsbD 3 := by
  by_cases hmask : mask.toNat < 16
  case neg => exact .inl ⟨fun h => hmask h.1, by simp [groupsOf, hmask]⟩
  unfold groupsOf groupsLength
  rw [if_pos hmask]
  rcases readIf_cases readHeat_readsHead (mask.getLsbD 0) bytes with ⟨hlen, hnone⟩ | ⟨h, afterHeat, hh, hheat, hlen⟩
  · exact .inl ⟨by omega, by simp only [hnone, Option.bind_none]⟩
  rcases readIf_cases readDry_readsHead (mask.getLsbD 1) afterHeat with ⟨hlen', hnone⟩ | ⟨d, afterDry, hd, hdry, hlen'⟩
  · exact .inl ⟨by omega, by simp only [hh, hnone, Option.bind_some, Option.bind_none]⟩
  rcases readIf_cases readCool_readsHead (mask.getLsbD 2) afterDry with ⟨hlen'', hnone⟩ | ⟨c, afterCool, hc, hcool, hlen''⟩
  · exact .inl ⟨by omega, by simp only [hh, hd, hnone, Option.bind_some, Option.bind_none]⟩
  rcases readIf_cases readTangle_readsHead (mask.getLsbD 3) afterCool with ⟨hlen''', hnone⟩ | ⟨t, left, ht, htangle, hlen'''⟩
  · exact .inl ⟨by omega, by simp only [hh, hd, hc, hnone, Option.bind_some, Option.bind_none]⟩
  cases left with
  | nil =>
    refine .inr ⟨⟨h, d, c, t⟩, by simp only [hh, hd, hc, ht, Option.bind_some, reduceIte], hmask, ?_, hheat, hdry, hcool,
      htangle⟩
    rw [List.length_nil] at hlen'''
    omega
  | cons b rest =>
    refine .inl ⟨?_, by simp [-BitVec.getLsbD_eq_getElem, hh, hd, hc, ht]⟩
    rw [List.length_cons] at hlen'''
    omega

end Sys2Proof.Machine
end

section
/-! The requests to the default profiles and the record pool (chapter 1): what a PUT_PHASE carries, and SET_DEFAULTS,
PUT_PHASE, ERASE_PHASE and GET_PHASE by their cases. -/

namespace Sys2Proof.Machine

/-! ## The commands and their owners' operations -/

theorem exec_setDefaults (b mask : Byte) (groups : List Byte) (s : State) :
    exec (.setDefaults b mask groups) s = .next (reqSetDefaults b mask groups s) := rfl

theorem exec_putPhase (slot kind next segFirst segLast quals mask : Byte) (maxTime : Half) (groups : List Byte) (s : State) :
    exec (.putPhase slot kind next maxTime segFirst segLast quals mask groups) s =
      .next (reqPutPhase slot kind next maxTime segFirst segLast quals mask groups s) := rfl

theorem exec_erasePhase (slot : Byte) (s : State) : exec (.erasePhase slot) s = .next (reqErasePhase slot s) := rfl

theorem exec_getPhase (slot : Byte) (s : State) : exec (.getPhase slot) s = .next (reqGetPhase slot s) := rfl

/-- The result of a request that clamps: OK if it changed nothing, OK_CLAMPED otherwise. -/
theorem clampResult_decide_ne {α : Type} [DecidableEq α] (clamped given : α) :
    clampResult (decide (clamped ≠ given)) = if clamped = given then .ok else .okClamped := by
  by_cases h : clamped = given <;> simp [clampResult, h]

/-! ## SET_DEFAULTS (R8) -/

/-- Groups are accepted exactly where the mask and the length are in order (R10). -/
theorem groupsOf_isSome (mask : Byte) (groups : List Byte) :
    (groupsOf mask groups).isSome = true ↔ mask.toNat < 16 ∧ groups.length = groupsLength mask := by
  rcases groupsOf_cases mask groups with ⟨hbad, hnone⟩ | ⟨g, hsome, hmask, hlen, -⟩
  · simp [hnone, hbad]
  · simp [hsome, hmask, hlen]

/-- The groups accepted are those that the mask names. -/
theorem groupsOf_present {mask : Byte} {groups : List Byte} {g : Groups} (h : groupsOf mask groups = some g) :
    g.heat.isSome = mask.getLsbD 0 ∧ g.dry.isSome = mask.getLsbD 1 ∧ g.cool.isSome = mask.getLsbD 2 ∧
      g.tangle.isSome = mask.getLsbD 3 := by
  rcases groupsOf_cases mask groups with ⟨-, hnone⟩ | ⟨g', hsome, -, -, hpresent⟩
  · rw [hnone] at h
    cases h
  · obtain rfl : g' = g := Option.some.inj (hsome.symm.trans h)
    exact hpresent

/-- SET_DEFAULTS whose operands are in order (R8). -/
theorem reqSetDefaults_accepted {b mask : Byte} {groups : List Byte} {p : Pocket} {g : Groups} (hp : pocketOf b = some p)
    (hg : groupsOf mask groups = some g) (s : State) :
    reqSetDefaults b mask groups s =
      (s.onUnit p fun u => { u with seq := { u.seq with profile := u.seq.profile.overwrite g.clamped } }).reply 0x04
        (if g.clamped = g then .ok else .okClamped) [] := by
  simp only [reqSetDefaults, hp, hg, clampResult_decide_ne]

/-- SET_DEFAULTS with an operand that is not in order (R8). -/
theorem reqSetDefaults_refused {b mask : Byte} {groups : List Byte}
    (h : ¬((pocketOf b).isSome = true ∧ (groupsOf mask groups).isSome = true)) (s : State) :
    reqSetDefaults b mask groups s = s.reply 0x04 .badRequest [] := by
  unfold reqSetDefaults
  split
  · next p g hp hg => simp [hp, hg] at h
  · rfl

/-- Settles O6: the accepted request, what the readers accept and give, and the refusals. -/
theorem setDefaultsReplacesCarriedGroups : Obligations.SetDefaultsReplacesCarriedGroups := by
  unfold Obligations.SetDefaultsReplacesCarriedGroups
  refine ⟨?accepted, groupsOf_isSome, fun mask groups g => groupsOf_present, ?refused⟩
  case accepted =>
    intro b mask groups p g s hp hg
    rw [exec_setDefaults, reqSetDefaults_accepted hp hg]
    rfl
  case refused =>
    intro b mask groups s h
    rw [exec_setDefaults, reqSetDefaults_refused]
    rw [pocketOf_isSome, groupsOf_isSome]
    omega

/-! ## PUT_PHASE (R10) -/

/-- The record a PUT_PHASE carries, from its operands one by one. -/
theorem recordOf_eq_some {kind next segFirst segLast quals mask : Byte} {maxTime : Half} {groups : List Byte}
    {r : PhaseRecord} :
    recordOf kind next maxTime segFirst segLast quals mask groups = some r ↔
      groupsOf mask groups = some { heat := r.heat, dry := r.dry, cool := r.cool, tangle := r.tangle } ∧
        kindOf kind = some r.kind ∧ slotRefOf next = some r.next ∧ maxTime.toNat = r.maxTime ∧
        entryOf segFirst = some r.segFirst ∧ entryOf segLast = some r.segLast ∧ qualsOf quals = some r.quals := by
  unfold recordOf
  split
  · next g k n a b q hg hk hn ha hb hq =>
    constructor
    · rintro ⟨⟩
      exact ⟨hg, hk, hn, rfl, ha, hb, hq⟩
    · rw [hg, hk, hn, ha, hb, hq]
      rintro ⟨⟨⟩, ⟨⟩, ⟨⟩, ht, ⟨⟩, ⟨⟩, ⟨⟩⟩
      rw [ht]
  · next hnone =>
    refine ⟨nofun, ?_⟩
    rintro ⟨hg, hk, hn, -, ha, hb, hq⟩
    exact (hnone _ _ _ _ _ _ hg hk hn ha hb hq).elim

/-- A PUT_PHASE carries a record exactly where every operand but the slot is in order (R10, check 1). -/
theorem recordOf_isSome {kind next segFirst segLast quals mask : Byte} {maxTime : Half} {groups : List Byte} :
    (recordOf kind next maxTime segFirst segLast quals mask groups).isSome = true ↔
      kind.toNat < 4 ∧ (next.toNat < 48 ∨ next = 0xFF) ∧ segFirst.toNat < 32 ∧ segLast.toNat < 32 ∧ quals.toNat < 8 ∧
        mask.toNat < 16 ∧ groups.length = groupsLength mask := by
  rw [← groupsOf_isSome, ← kindOf_isSome, ← slotRefOf_isSome, ← entryOf_isSome, ← entryOf_isSome, ← qualsOf_isSome]
  simp only [Option.isSome_iff_exists, recordOf_eq_some]
  constructor
  · rintro ⟨r, hg, hk, hn, -, ha, hb, hq⟩
    exact ⟨⟨_, hk⟩, ⟨_, hn⟩, ⟨_, ha⟩, ⟨_, hb⟩, ⟨_, hq⟩, ⟨_, hg⟩⟩
  · rintro ⟨⟨k, hk⟩, ⟨n, hn⟩, ⟨a, ha⟩, ⟨b, hb⟩, ⟨q, hq⟩, ⟨g, hg⟩⟩
    exact ⟨{ kind := k, next := n, maxTime := maxTime.toNat, segFirst := a, segLast := b, quals := q, heat := g.heat,
             dry := g.dry, cool := g.cool, tangle := g.tangle }, hg, hk, hn, rfl, ha, hb, hq⟩

/-- The group mask reported of a record is the one it came with (R206). -/
theorem maskByte_of_groupsOf {mask : Byte} {groups : List Byte} {r : PhaseRecord}
    (h : groupsOf mask groups = some { heat := r.heat, dry := r.dry, cool := r.cool, tangle := r.tangle }) :
    r.maskByte = mask := by
  have hmask : mask.toNat < 16 := ((groupsOf_isSome mask groups).mp (by rw [h]; rfl)).1
  obtain ⟨hheat, hdry, hcool, htangle⟩ := groupsOf_present h
  dsimp only at hheat hdry hcool htangle
  rw [PhaseRecord.maskByte, hheat, hdry, hcool, htangle]
  exact bitsByte_low_bits 4 mask hmask

/-- A record's core fields are reported by the codes they came in (R206, R207). -/
theorem recordOf_codes {kind next segFirst segLast quals mask : Byte} {maxTime : Half} {groups : List Byte} {r : PhaseRecord}
    (h : recordOf kind next maxTime segFirst segLast quals mask groups = some r) :
    kindCode r.kind = kind ∧ slotRefCode r.next = next ∧ r.maxTime = maxTime.toNat ∧ r.segFirst.val = segFirst.toNat ∧
      r.segLast.val = segLast.toNat ∧ r.quals.byte = quals ∧ r.maskByte = mask := by
  obtain ⟨hg, hk, hn, ht, ha, hb, hq⟩ := recordOf_eq_some.mp h
  exact ⟨kindCode_kindOf hk, slotRefCode_slotRefOf hn, ht.symm, entryOf_val ha, entryOf_val hb, byte_qualsOf hq,
    maskByte_of_groupsOf hg⟩

/-- PUT_PHASE whose operands are in order: answered alone if its write was carried out inside an activation, refused if its
slot is ACTIVE, carried out otherwise (R10, R20). -/
theorem reqPutPhase_of_operands {slot kind next segFirst segLast quals mask : Byte} {maxTime : Half} {groups : List Byte}
    {i : SlotNo} {r : PhaseRecord} (hi : slotOf slot = some i)
    (hr : recordOf kind next maxTime segFirst segLast quals mask groups = some r) (s : State) :
    reqPutPhase slot kind next maxTime segFirst segLast quals mask groups s =
      if s.raced = some (.putPhase slot kind next maxTime segFirst segLast quals mask groups) then
        s.answerRaced.reply 0x06 (if r.clamped = r then .ok else .okClamped) []
      else if s.pool[i].isActive then s.reply 0x06 .inUse []
      else ({ s with pool := s.pool.set i (.loaded r.clamped) } : State).reply 0x06
        (if r.clamped = r then .ok else .okClamped) [] := by
  simp only [reqPutPhase, hi, hr, clampResult_decide_ne]

/-- PUT_PHASE with an operand that is not in order (R10, check 1). -/
theorem reqPutPhase_refused {slot kind next segFirst segLast quals mask : Byte} {maxTime : Half} {groups : List Byte}
    (h : ¬((slotOf slot).isSome = true ∧
      (recordOf kind next maxTime segFirst segLast quals mask groups).isSome = true)) (s : State) :
    reqPutPhase slot kind next maxTime segFirst segLast quals mask groups s = s.reply 0x06 .badRequest [] := by
  unfold reqPutPhase
  split
  · next i r hi hr => simp [hi, hr] at h
  · rfl

/-- Settles O7, case by case in the order of the checks. -/
theorem putPhaseStoresClampedRecord : Obligations.PutPhaseStoresClampedRecord := by
  unfold Obligations.PutPhaseStoresClampedRecord
  refine ⟨?stored, ?inUse, ?raced, ?refused, ?codes⟩
  case stored =>
    intro slot kind next segFirst segLast quals mask maxTime groups i r s hi hr hraced hidle
    rw [exec_putPhase, reqPutPhase_of_operands hi hr, if_neg hraced, if_neg (ne_true_of_eq_false hidle)]
    rfl
  case inUse =>
    intro slot kind next segFirst segLast quals mask maxTime groups i r s hi hr hraced hactive
    rw [exec_putPhase, reqPutPhase_of_operands hi hr, if_neg hraced, if_pos hactive]
  case raced =>
    intro slot kind next segFirst segLast quals mask maxTime groups i r s hi hr hraced
    rw [exec_putPhase, reqPutPhase_of_operands hi hr, if_pos hraced]
    rfl
  case refused =>
    intro slot kind next segFirst segLast quals mask maxTime groups s h
    rw [exec_putPhase, reqPutPhase_refused]
    rw [slotOf_isSome, recordOf_isSome]
    rintro ⟨hslot, hkind, hnext, hfirst, hlast, hquals, hmask, hlen⟩
    rcases h with h | h | ⟨h, hend⟩ | h | h | h | h | h
    case inr.inr.inl => exact hnext.elim (fun hn => by omega) hend
    all_goals omega
  case codes =>
    intro kind next segFirst segLast quals mask maxTime groups hkind hnext hfirst hlast hquals hmask hlen
    have hsome := recordOf_isSome (maxTime := maxTime).mpr ⟨hkind, hnext, hfirst, hlast, hquals, hmask, hlen⟩
    obtain ⟨r, hr⟩ := Option.isSome_iff_exists.mp hsome
    exact ⟨r, hr, recordOf_codes hr⟩

/-! ## ERASE_PHASE (R12) -/

/-- ERASE_PHASE of a code that names no slot (R12). -/
theorem reqErasePhase_of_no_slot {slot : Byte} (h : ¬slot.toNat < 48) (s : State) :
    reqErasePhase slot s = s.reply 0x07 .badRequest [] := by
  simp [reqErasePhase, slotOf, h]

/-- ERASE_PHASE of a slot, in the order of its checks (R12, R20). -/
theorem reqErasePhase_of_slot {slot : Byte} {i : SlotNo} (h : slotOf slot = some i) (s : State) :
    reqErasePhase slot s =
      if s.raced = some (.erasePhase slot) then s.answerRaced.reply 0x07 .ok []
      else if s.pool[i].isActive = true ∨ s.lower.seq.anchor = some i ∨ s.upper.seq.anchor = some i then
        s.reply 0x07 .inUse []
      else ({ s with pool := s.pool.set i .empty } : State).reply 0x07 .ok [] := by
  simp only [reqErasePhase, h, PocketUnit.anchoredAt, Bool.or_eq_true, decide_eq_true_eq, or_assoc]

/-- Settles O8, by whether the code names a slot. -/
theorem erasePhaseByCases : Obligations.ErasePhaseByCases := by
  unfold Obligations.ErasePhaseByCases
  intro slot s
  rw [exec_erasePhase]
  by_cases h : slot.toNat < 48
  · rw [dif_pos h, reqErasePhase_of_slot (slotOf_eq_some.mpr rfl : slotOf slot = some ⟨slot.toNat, h⟩)]
    rfl
  · rw [dif_neg h, reqErasePhase_of_no_slot h]

/-! ## GET_PHASE (R11) -/

/-- The first byte of GET_PHASE's reply: the slot state and its pocket in bits 0 to 2, the anchor marks in bits 3 and 4. -/
theorem stateByte_toNat (x : Slot) (lower upper : Prop) [Decidable lower] [Decidable upper] :
    (bitsByte (x.stateBits ++ [decide lower, decide upper])).toNat =
      (match x with
        | .empty => 0
        | .loaded _ => 1
        | .active .lower _ => 2
        | .active .upper _ => 6) +
      (if lower then 8 else 0) + (if upper then 16 else 0) := by
  rcases x with _ | _ | ⟨_ | _, _⟩ <;> by_cases hlower : lower <;> by_cases hupper : upper <;>
    simp only [hlower, hupper] <;> rfl

/-- GET_PHASE's reply data are the byte of the slot and, where the slot holds a record, the record (R11). -/
theorem phaseData_eq (s : State) (i : SlotNo) :
    s.phaseData i =
      bitsByte (s.pool[i].stateBits ++ [s.lower.anchoredAt i, s.upper.anchoredAt i]) ::
        (s.pool[i].record?.map PhaseRecord.bytes).getD [] := rfl

/-- Settles O9: the refusal, then the reply's data by the slot's state. -/
theorem getPhaseReportsSlot : Obligations.GetPhaseReportsSlot := by
  unfold Obligations.GetPhaseReportsSlot
  constructor
  · intro slot s h
    have hnone : slotOf slot = none := by simp [slotOf, h]
    simp only [exec_getPhase, reqGetPhase, hnone]
  · intro slot i s hi
    refine ⟨?_, ?_, ?_, ?_⟩
    · simp only [exec_getPhase, reqGetPhase, hi]
    · intro hempty
      rw [phaseData_eq, hempty]
      rfl
    · intro r hr
      rw [phaseData_eq, hr]
      simp [PhaseRecord.bytes]
    · rw [phaseData_eq, List.headD_cons]
      exact stateByte_toNat s.pool[i] _ _

end Sys2Proof.Machine
end

section
/-! The activation of a slot (chapter 1): when the check passes, what the working set takes, and a write that races with the
activation (entry 19). -/

namespace Sys2Proof.Machine

/-! ## The check (R14) -/

/-- A segment is written where every entry from its first to its last is (R14). -/
theorem Drum.segmentWritten_iff (d : Drum) (first last : EntryNo) :
    d.segmentWritten first last = true ↔ ∀ j : EntryNo, first ≤ j → j ≤ last → d.table[j].written = true := by
  simp only [Drum.segmentWritten, List.all_eq_true, List.mem_finRange, true_imp_iff]
  refine forall_congr' fun j => ?_
  by_cases hfirst : first ≤ j <;> by_cases hlast : j ≤ last <;> simp [hfirst, hlast]

/-- Conditions 2 and 3 of R14. -/
theorem segmentUsable_iff (r : PhaseRecord) (d : Drum) :
    segmentUsable r d = true ↔
      r.segFirst ≤ r.segLast ∧ ∀ j : EntryNo, r.segFirst ≤ j → j ≤ r.segLast → d.table[j].written = true := by
  rw [segmentUsable, Bool.and_eq_true, decide_eq_true_eq, Drum.segmentWritten_iff]

/-- The check passes on a LOADED slot with a usable segment alone (R14). -/
theorem PocketView.check_eq_ok (v : PocketView) (i : SlotNo) (r : PhaseRecord) :
    v.check i = .ok r ↔ v.pool[i] = .loaded r ∧ segmentUsable r v.unit.drum = true := by
  unfold PocketView.check
  split
  case h_1 hempty => simp [hempty]
  case h_2 hactive => simp [hactive]
  case h_3 r' hloaded =>
    rw [hloaded, Slot.loaded.injEq]
    by_cases husable : segmentUsable r' v.unit.drum = true
    · rw [if_pos husable, Except.ok.injEq]
      exact ⟨fun h => ⟨h, h ▸ husable⟩, And.left⟩
    · rw [if_neg husable]
      exact ⟨nofun, fun ⟨h, hr⟩ => absurd (h ▸ hr) husable⟩

/-- The check of an EMPTY slot (R15). -/
theorem PocketView.check_of_empty {v : PocketView} {i : SlotNo} (h : v.pool[i] = .empty) :
    v.check i = .error .slotEmpty := by
  simp only [PocketView.check, h]

/-! ## The working set (R16, R18) -/

/-- The working set after it was taken (R16). -/
theorem PocketUnit.takeWork_work (i : SlotNo) (r : PhaseRecord) (u : PocketUnit) :
    (u.takeWork i r).seq.work = workFrom i r u.seq.profile u.moist.valid := by
  rw [PocketUnit.takeWork_seq]

/-- NO_DRYNESS is raised by the taking of a timed-only working set (R18). -/
theorem PocketUnit.takeWork_noDryness (i : SlotNo) (r : PhaseRecord) (u : PocketUnit) :
    (u.takeWork i r).notices.noDryness =
      (u.notices.noDryness || (workFrom i r u.seq.profile u.moist.valid).timedOnly) := by
  unfold PocketUnit.takeWork
  dsimp only
  split
  · next htimed => simp [htimed, NoticeSet.add]
  · next htimed => simp [htimed]

/-- A working set is marked timed-only for a DRY phase without a valid calibration (R18). -/
theorem workFrom_timedOnly (i : SlotNo) (r : PhaseRecord) (f : Profile) (calibrated : Bool) :
    (workFrom i r f calibrated).timedOnly = true ↔ r.kind = .dry ∧ calibrated = false := by
  simp [workFrom]

/-! ## A write between the release and the check (R20) -/

/-- A pocket's own slot is LOADED after the release, with its record (R22). -/
theorem PocketView.release_pool_of_active {v : PocketView} {p : Pocket} {i : SlotNo} {r : PhaseRecord}
    (ha : v.unit.seq.work.active = some i) (hi : v.pool[i] = .active p r) : (v.release p).pool[i] = .loaded r := by
  obtain ⟨-, -, hpool⟩ := v.release_does p
  rw [hpool i ha, hi, Slot.releasedBy, if_pos rfl]

/-- A write that races with the re-activation of a pocket's own slot reaches the slot at the release (R20). -/
theorem PocketView.vacate_of_race {env : Env} {v : PocketView} {i : SlotNo} {x : Slot} (hrace : env.racing = some (i, x))
    (ha : v.unit.seq.work.active = some i) (hraced : v.raced = false) :
    v.vacate env i = { v.release env.pocket with pool := (v.release env.pocket).pool.set i x, raced := true } := by
  simp [PocketView.vacate, hrace, ha, hraced]

/-- An activation succeeds exactly where the check passes after the release (R14, R15). -/
theorem PocketView.activate_succeeds_iff (env : Env) (i : SlotNo) (v : PocketView) :
    (v.activate env i).2 = none ↔ ∃ r, (v.vacate env i).check i = .ok r := by
  rcases v.activate_cases env i with ⟨r, hcheck, hact⟩ | ⟨e, hcheck, hact⟩ <;> simp [hcheck, hact]

/-- An activation whose check passes (R14, R16, R17). -/
theorem PocketView.activate_of_check {env : Env} {i : SlotNo} {r : PhaseRecord} {v : PocketView}
    (h : (v.vacate env i).check i = .ok r) : v.activate env i = ((v.vacate env i).enterSlot env i r, none) := by
  simp only [PocketView.activate, h]

/-- An activation whose check fails (R15). -/
theorem PocketView.activate_of_check_fails {env : Env} {i : SlotNo} {e : ActivationFailure} {v : PocketView}
    (h : (v.vacate env i).check i = .error e) : v.activate env i = (v.vacate env i, some e) := by
  simp only [PocketView.activate, h]

/-- Whether a racing write was taken is settled at the release. -/
theorem PocketView.activate_raced (env : Env) (i : SlotNo) (v : PocketView) :
    (v.activate env i).1.raced = (v.vacate env i).raced := by
  rcases v.activate_cases env i with ⟨r, -, hact⟩ | ⟨e, -, hact⟩ <;> rw [hact]
  rfl

section Reactivation

variable {env : Env} {i : SlotNo} {r : PhaseRecord} {x : Slot} {v : PocketView}

/-- A pocket that re-activates its own slot, no write racing, finds its record there (R14). -/
theorem PocketView.reactivate_succeeds_iff (ha : v.unit.seq.work.active = some i)
    (hi : v.pool[i] = .active env.pocket r) (hrace : env.racing = none) :
    (v.activate env i).2 = none ↔ segmentUsable r v.unit.drum = true := by
  rw [PocketView.activate_succeeds_iff, PocketView.vacate_of_no_race hrace]
  simp only [PocketView.check_eq_ok, PocketView.release_pool_of_active ha hi, PocketView.release_unit,
    Slot.loaded.injEq, exists_eq_left']

/-- The slot re-activated holds what the racing write left there (R20). -/
theorem PocketView.vacate_pool_of_race (hrace : env.racing = some (i, x)) (ha : v.unit.seq.work.active = some i)
    (hraced : v.raced = false) : (v.vacate env i).pool[i] = x := by
  rw [PocketView.vacate_of_race hrace ha hraced]
  simp

/-- An erase carried out inside the re-activation makes it fail (R15, R20). -/
theorem PocketView.reactivate_erased (hrace : env.racing = some (i, .empty)) (ha : v.unit.seq.work.active = some i)
    (hraced : v.raced = false) :
    (v.activate env i).2 = some .slotEmpty ∧ (v.activate env i).1.pool[i] = .empty := by
  have hempty := PocketView.vacate_pool_of_race hrace ha hraced
  rw [PocketView.activate_of_check_fails (PocketView.check_of_empty hempty)]
  exact ⟨rfl, hempty⟩

/-- A record written inside the re-activation is the one that is taken into use (R16, R20). -/
theorem PocketView.reactivate_rewritten {q : PhaseRecord} (hrace : env.racing = some (i, .loaded q))
    (ha : v.unit.seq.work.active = some i) (hraced : v.raced = false) (husable : segmentUsable q v.unit.drum = true) :
    (v.activate env i).2 = none ∧ (v.activate env i).1.pool[i] = .active env.pocket q ∧
      (v.activate env i).1.unit.seq.work = workFrom i q v.unit.seq.profile v.unit.moist.valid := by
  have hcheck : (v.vacate env i).check i = .ok q := by
    rw [PocketView.check_eq_ok, PocketView.vacate_unit, PocketView.release_unit]
    exact ⟨PocketView.vacate_pool_of_race hrace ha hraced, husable⟩
  rw [PocketView.activate_of_check hcheck]
  obtain ⟨hpool, -, hseq, -⟩ := PocketView.enterSlot_does env i q (v.vacate env i)
  refine ⟨rfl, hpool, ?_⟩
  rw [hseq, PocketView.vacate_unit, PocketView.release_unit]

end Reactivation

/-- A write is taken inside an event's activation, or not (entry 19). -/
theorem State.eventEnv_racing (s : State) (p : Pocket) :
    (s.eventEnv p).racing = none ∨ (s.eventEnv p).racing = s.racingWrite p := by
  unfold State.eventEnv
  by_cases h : Config.writeBetween s.free = true
  · exact .inr (if_pos h)
  · exact .inl (if_neg h)

/-- The write of a waiting PUT_PHASE of the pocket's active slot races with the pocket's events (R20). -/
theorem State.racingWrite_of_putPhase {slot kind next segFirst segLast quals mask : Byte} {maxTime : Half}
    {groups : List Byte} {i : SlotNo} {r : PhaseRecord} {rest : List Instr} {p : Pocket} {s : State}
    (hi : slotOf slot = some i) (hr : recordOf kind next maxTime segFirst segLast quals mask groups = some r)
    (hq : s.pending = .putPhase slot kind next maxTime segFirst segLast quals mask groups :: rest) (hraced : s.raced = none)
    (ha : (s.unit p).seq.work.active = some i) : s.racingWrite p = some (i, .loaded r.clamped) := by
  simp [State.racingWrite, State.nextRequest, hq, State.writeOf, hi, hr, hraced, ha]

/-- Settles O11: the check, the working set, a re-activation with and without a racing write, and where such a write comes
from. -/
theorem activationCheckAndWorkingSet : Obligations.ActivationCheckAndWorkingSet := by
  unfold Obligations.ActivationCheckAndWorkingSet
  refine ⟨?check, ?work, ?reactivation, ?putPhase⟩
  case check =>
    intro v i r
    rw [PocketView.check_eq_ok, segmentUsable_iff]
  case work =>
    intro i r u
    dsimp only
    rw [PocketUnit.takeWork_work, PocketUnit.takeWork_noDryness, Bool.or_eq_true, workFrom_timedOnly]
    refine ⟨rfl, rfl, rfl, rfl, rfl, rfl, rfl, ?heat, ?dry, ?cool, ?tangle, Iff.rfl, Iff.rfl⟩
    case heat => cases h : r.heat <;> simp [workFrom, h]
    case dry => cases h : r.dry <;> simp [workFrom, h]
    case cool => cases h : r.cool <;> simp [workFrom, h]
    case tangle => cases h : r.tangle <;> simp [workFrom, h]
  case reactivation =>
    intro env i r x v ha hi hraced
    refine ⟨PocketView.reactivate_succeeds_iff ha hi, fun hrace => ⟨?_, ?_, ?_⟩⟩
    · rw [PocketView.activate_raced, PocketView.vacate_of_race hrace ha hraced]
    · rintro rfl
      exact PocketView.reactivate_erased hrace ha hraced
    · rintro q rfl husable
      exact PocketView.reactivate_rewritten hrace ha hraced husable
  case putPhase =>
    intro slot kind next segFirst segLast quals mask maxTime groups i r rest p s hi hr hq hraced ha
    rw [← State.racingWrite_of_putPhase hi hr hq hraced ha]
    exact s.eventEnv_racing p

end Sys2Proof.Machine
end

section
/-! The two resets: the standing conditions that RESET_PART latches again, the blocks after RESET_PART, and POWER_ON with
the report of an open cutout. -/

namespace Sys2Proof.Machine

theorem exec_resetPart (s : State) : exec .resetPart s = .next (reqResetPart s) := rfl

theorem exec_powerOn (s : State) :
    exec .powerOn s = .next (State.reportOpenCutout .upper (State.reportOpenCutout .lower s.atPowerOn)) := rfl

/-- A change of a pocket that leaves its part as it is leaves the state. -/
theorem State.onUnit_of_fixed {s : State} {p : Pocket} {f : PocketUnit → PocketUnit} (h : f (s.unit p) = s.unit p) :
    s.onUnit p f = s := by
  rw [State.onUnit, h]
  cases p <;> rfl

/-- A step of a sequencer that changes the pocket's own part alone. -/
theorem State.onPocket_of_onUnit {s : State} {p : Pocket} {f : PocketView → PocketView} {g : PocketUnit → PocketUnit}
    (h : f (s.view p) = (s.view p).onUnit g) : s.onPocket p f = s.onUnit p g := by
  rw [State.onPocket, h]
  cases p <;> rfl

/-! ## The faults latched again (R185) -/

/-- A pocket with the faults latched whose conditions stand. -/
def PocketUnit.relatched (sensor overheat : Bool) (u : PocketUnit) : PocketUnit :=
  let v := if sensor then u.latch .sensor else u
  if overheat then v.latch .overheat else v

/-- Latching again leaves everything but the fault set and the notices. -/
theorem PocketUnit.relatched_keeps (sensor overheat : Bool) (u : PocketUnit) :
    (u.relatched sensor overheat).seq = u.seq ∧ (u.relatched sensor overheat).drum = u.drum ∧
      (u.relatched sensor overheat).moist = u.moist ∧ (u.relatched sensor overheat).heat = u.heat ∧
      (u.relatched sensor overheat).pins = u.pins := by
  cases sensor <;> cases overheat <;> simp [PocketUnit.relatched]

/-- The faults latched again on a pocket without faults are those whose conditions stand. -/
theorem PocketUnit.relatched_faults {u : PocketUnit} (h : u.faults = FaultSet.none) (sensor overheat : Bool) :
    (u.relatched sensor overheat).faults = { FaultSet.none with sensor := sensor, overheat := overheat } := by
  cases sensor <;> cases overheat <;>
    simp [PocketUnit.relatched, PocketUnit.latch_faults, h, FaultSet.put, FaultSet.none]

/-- Faults latched on a pocket without faults and notices leave FAULT_LATCHED alone and mark it; with none latched nothing
is raised. -/
theorem PocketUnit.relatched_notices {u : PocketUnit} (hfaults : u.faults = FaultSet.none)
    (hnotices : u.notices = NoticeSet.none) (hmark : u.noticeMark = false) (sensor overheat : Bool) :
    let v := u.relatched sensor overheat
    v.notices = (if v.faults = FaultSet.none then NoticeSet.none else NoticeSet.none.add .faultLatched) ∧
      v.noticeMark = !v.faults.isEmpty := by
  obtain ⟨seq, drum, moist, heat, faults, notices, noticeMark, pins⟩ := u
  dsimp only at hfaults hnotices hmark
  subst hfaults hnotices hmark
  cases sensor <;> cases overheat <;> exact ⟨rfl, rfl⟩

/-- The step of R185 changes the pocket's part alone. -/
theorem State.relatch_eq (p : Pocket) (s : State) :
    State.relatch p s = s.onUnit p (PocketUnit.relatched (s.sensorStands p) (s.overheatStands p)) := by
  have hlatched : (s.onUnit p (PocketUnit.latch .sensor)).overheatStands p = s.overheatStands p := by
    simp [State.overheatStands, State.inletHot, State.inlet]
  unfold State.relatch
  cases hs : s.sensorStands p <;> cases ho : s.overheatStands p <;>
    simp only [hlatched, ho, reduceIte, Bool.false_eq_true] <;> cases p <;> rfl

/-! ## RESET_PART (R204) -/

/-- Every block of the part after RESET_PART, before faults are latched again. -/
def State.resetBlocks (s : State) : State :=
  { s with
    pool   := s.pool.map Slot.deactivated
    lower  := s.lower.resetPart
    upper  := s.upper.resetPart
    device := DeviceNotices.none
    trend  := s.trend.resetPart }

/-- RESET_PART resets every block and latches the standing conditions again, pocket by pocket (R185, R204). -/
theorem State.resetPart_eq (s : State) :
    s.resetPart = State.relatch .upper (State.relatch .lower s.resetBlocks) := rfl

/-- A pocket after RESET_PART (R185, R204). The condition of a fault is judged by what RESET_PART keeps. -/
theorem State.resetPart_unit (s : State) (p : Pocket) :
    s.resetPart.unit p = (s.unit p).resetPart.relatched (s.sensorStands p) (s.overheatStands p) := by
  rw [State.resetPart_eq, State.relatch_eq, State.relatch_eq]
  cases p <;> rfl

/-- A pocket after RESET_PART, block by block (R23, R55, R68, R94, R110, R119, R137, R173, R185). -/
theorem State.resetPart_pocket (s : State) (p : Pocket) :
    let v := s.resetPart.unit p
    v.seq = (s.unit p).seq.resetPart ∧ v.drum = (s.unit p).drum.resetPart ∧ v.moist = (s.unit p).moist.resetPart ∧
      v.heat = PocketHeat.powerOn ∧ v.pins = (s.unit p).pins ∧
      v.faults = { FaultSet.none with sensor := s.sensorStands p, overheat := s.overheatStands p } ∧
      v.notices = (if v.faults = FaultSet.none then NoticeSet.none else NoticeSet.none.add .faultLatched) ∧
      (v.noticeMark = true ↔ v.faults ≠ FaultSet.none) := by
  dsimp only
  rw [State.resetPart_unit]
  obtain ⟨hseq, hdrum, hmoist, hheat, hpins⟩ :=
    (s.unit p).resetPart.relatched_keeps (s.sensorStands p) (s.overheatStands p)
  obtain ⟨hnotices, hmark⟩ :=
    PocketUnit.relatched_notices (u := (s.unit p).resetPart) rfl rfl rfl (s.sensorStands p) (s.overheatStands p)
  exact ⟨hseq, hdrum, hmoist, hheat, hpins, PocketUnit.relatched_faults rfl _ _, hnotices,
    by rw [hmark]; simp [FaultSet.isEmpty]⟩

/-- What RESET_PART does beside the pockets (R194, R204). -/
theorem State.resetPart_shared (s : State) :
    s.resetPart.pool = s.pool.map Slot.deactivated ∧ s.resetPart.temps = s.temps ∧ s.resetPart.supply = s.supply ∧
      s.resetPart.device = DeviceNotices.none ∧ s.resetPart.trend = s.trend.resetPart ∧ s.resetPart.link = s.link := by
  rw [State.resetPart_eq, State.relatch_eq, State.relatch_eq]
  exact ⟨rfl, rfl, rfl, rfl, rfl, rfl⟩

/-- A slot after RESET_PART is not ACTIVE and keeps its record (R23). -/
theorem Slot.deactivated_does (x : Slot) : x.deactivated.record? = x.record? ∧ x.deactivated.isActive = false := by
  cases x <;> exact ⟨rfl, rfl⟩

/-- Heat at power-on is off (R173). -/
theorem PocketHeat.powerOn_isOff : PocketHeat.powerOn.IsOff := by
  refine ⟨rfl, rfl, fun j => ?_⟩
  simp [PocketHeat.powerOn, Element.off]

/-- No reserve stands and nothing is granted at power-on (R173). -/
theorem PocketHeat.powerOn_reserves :
    PocketHeat.powerOn.reserve = 0 ∧ PocketHeat.powerOn.grantedNow = 0 ∧ PocketHeat.powerOn.grantedLast = 0 :=
  ⟨rfl, rfl, rfl⟩

/-- RESET_PART with a pocket engaged is refused (R204). -/
theorem reqResetPart_busy {s : State} (h : s.lower.seq.run.engaged = true ∨ s.upper.seq.run.engaged = true) :
    reqResetPart s = s.reply 0x30 .busy [] :=
  if_pos (Bool.or_eq_true_iff.mpr h)

/-- RESET_PART with no pocket engaged is carried out (R204). -/
theorem reqResetPart_carriedOut {s : State} (hl : s.lower.seq.run.engaged = false) (hu : s.upper.seq.run.engaged = false) :
    reqResetPart s = s.resetPart.reply 0x30 .ok [] :=
  if_neg (by simp [hl, hu])

/-- SENSOR is latched again where a channel of the pocket has failed three scans (R143, R185). -/
theorem State.sensorStands_iff (s : State) (p : Pocket) :
    s.sensorStands p = true ↔ (s.inlet p).badScans = 3 ∨ (s.exhaust p).badScans = 3 := by
  simp [State.sensorStands, TempChannel.failing]

/-- OVERHEAT is latched again where the cutout is open or the inlet reads above its limit (R146, R147, R185). -/
theorem State.overheatStands_iff (s : State) (p : Pocket) :
    s.overheatStands p = true ↔
      (s.unit p).pins.cutout = false ∨ ∃ x : Int, (s.inlet p).reading = some x ∧ s.supply.config.inletHigh < x := by
  cases h : (s.inlet p).reading <;> simp [State.overheatStands, State.inletHot, h, or_comm]

/-! ## POWER_ON (R205) -/

/-- No write races with an event of a pocket that has no active slot (R20). -/
theorem State.racingWrite_of_inactive {s : State} {p : Pocket} (h : (s.unit p).seq.work.active = none) :
    s.racingWrite p = none := by
  unfold State.racingWrite
  split
  · rfl
  · split
    · rfl
    · simp [h]

/-- An IDLE pocket does not respond to a fault (R177). -/
theorem PocketView.respond_of_idle (env : Env) (f : PocketFault) {v : PocketView} (h : v.unit.seq.run = .idle) :
    v.respond env f = v := by
  cases f <;> simp [PocketView.respond, PocketView.orderHalt, RunState.engaged, h]

/-- A report to an IDLE pocket latches the fault and does no more (R176, R177). -/
theorem PocketView.report_of_idle (env : Env) (f : PocketFault) {v : PocketView} (h : v.unit.seq.run = .idle) :
    v.report env f = v.onUnit fun u => (u.latch f).checkHeat := by
  rcases v.report_cases env f with ⟨-, hrep⟩ | ⟨-, -, hpaused, -⟩ | ⟨hlatched, -, hrep⟩
  · rw [hrep, PocketView.respond_of_idle env f (by simpa using h)]
    rfl
  · rw [h] at hpaused
    cases hpaused
  · rw [hrep]
    simp [PocketView.onUnit, PocketUnit.latch, hlatched]

/-- A pocket after the test of its cutout input at the release of RESET_N (R147). -/
def PocketUnit.cutoutReported (u : PocketUnit) : PocketUnit :=
  if u.pins.cutout then u else (u.latch .overheat).checkHeat

/-- An open cutout is reported to an IDLE pocket that has no active slot: OVERHEAT is latched (R147, R177). -/
theorem State.reportOpenCutout_eq {s : State} {p : Pocket} (hrun : (s.unit p).seq.run = .idle)
    (ha : (s.unit p).seq.work.active = none) :
    State.reportOpenCutout p s = s.onUnit p PocketUnit.cutoutReported := by
  unfold State.reportOpenCutout
  cases hcut : (s.unit p).pins.cutout
  case false =>
    have hreport : (s.view p).report (s.env p) .overheat = (s.view p).onUnit PocketUnit.cutoutReported := by
      rw [PocketView.report_of_idle _ _ hrun]
      simp [PocketView.onUnit, PocketUnit.cutoutReported, hcut]
    rw [if_neg Bool.false_ne_true, State.reportTo, State.onEvent_of_no_write (State.racingWrite_of_inactive ha),
      State.onPocket_of_onUnit hreport]
  case true =>
    rw [if_pos rfl, State.onUnit_of_fixed (by simp [PocketUnit.cutoutReported, hcut])]

/-- The state after POWER_ON: both pockets with their cutouts tested, everything else at its power-on value (R205). -/
theorem State.powerOn_eq (s : State) :
    State.reportOpenCutout .upper (State.reportOpenCutout .lower s.atPowerOn) =
      (s.atPowerOn.onUnit .lower PocketUnit.cutoutReported).onUnit .upper PocketUnit.cutoutReported := by
  rw [State.reportOpenCutout_eq (p := .lower) rfl rfl, State.reportOpenCutout_eq (p := .upper) rfl rfl]

/-- A pocket at power-on with its pins as they stand, its cutout tested (R147, R205). -/
theorem PocketUnit.powerOn_cutoutReported (pins : Pins) :
    let v := PocketUnit.cutoutReported { PocketUnit.powerOn with pins := pins }
    v.seq = Sequencer.powerOn ∧ v.drum = Drum.powerOn ∧ v.moist = Moisture.powerOn ∧ v.heat = PocketHeat.powerOn ∧
      v.pins = pins ∧ v.faults = (if pins.cutout then FaultSet.none else FaultSet.none.put .overheat true) ∧
      v.notices = (if pins.cutout then NoticeSet.none else NoticeSet.none.add .faultLatched) := by
  obtain ⟨door, airf, cutout⟩ := pins
  cases cutout <;> exact ⟨rfl, rfl, rfl, rfl, rfl, rfl, rfl⟩

/-! ## The statement -/

/-- Settles O55: RESET_PART refused, RESET_PART carried out, and POWER_ON. -/
theorem resetsRestoreBlocks : Obligations.ResetsRestoreBlocks := by
  unfold Obligations.ResetsRestoreBlocks
  refine ⟨?busy, ?carriedOut, ?powerOn⟩
  case busy =>
    intro s h
    rw [exec_resetPart, reqResetPart_busy h]
  case carriedOut =>
    intro s hl hu
    obtain ⟨hpool, htemps, hsupply, hdevice, htrend, hlink⟩ := s.resetPart_shared
    refine ⟨s.resetPart.reply 0x30 .ok [], by rw [exec_resetPart, reqResetPart_carriedOut hl hu],
      State.reply_link_congr hlink _ _ _, htemps, hsupply, hdevice, htrend, ?slots, ?pockets⟩
    case slots =>
      intro i
      simp only [State.reply_pool, hpool, Fin.getElem_fin, Vector.getElem_map]
      exact Slot.deactivated_does _
    case pockets =>
      intro p
      obtain ⟨hseq, hdrum, hmoist, hheat, hpins, hfaults, hnotices, hmark⟩ := s.resetPart_pocket p
      dsimp only
      rw [State.reply_unit, hnotices, hmark, hseq, hdrum, hmoist, hheat, hpins, hfaults, ← State.sensorStands_iff,
        ← State.overheatStands_iff]
      simp [Sequencer.resetPart, Drum.resetPart, Moisture.resetPart, PocketHeat.powerOn_isOff,
        PocketHeat.powerOn_reserves, FaultSet.none]
  case powerOn =>
    intro s
    refine ⟨(s.atPowerOn.onUnit .lower PocketUnit.cutoutReported).onUnit .upper PocketUnit.cutoutReported,
      by rw [exec_powerOn, State.powerOn_eq], rfl, rfl, rfl, rfl, rfl, rfl, fun p => ?_⟩
    cases p
    case lower => exact PocketUnit.powerOn_cutoutReported s.lower.pins
    case upper => exact PocketUnit.powerOn_cutoutReported s.upper.pins

end Sys2Proof.Machine
end

section
/-! What every command does to the DIR outputs of the drums (R77): only the expiry of the standstill in SETTLE and power-on
set them. Here the operations of a drum, and then those of a pocket's sequencer. -/

namespace Sys2Proof.Machine

/-! ## The drum -/

@[simp] theorem Drum.stopCommand_dir (d : Drum) : d.stopCommand.dir = d.dir := by
  obtain ⟨-, -, -, -, -, hdir, -⟩ := d.stopCommand_keeps
  exact hdir

@[simp] theorem Drum.takeMeasurement_dir (d : Drum) : d.takeMeasurement.dir = d.dir := by
  unfold Drum.takeMeasurement
  split
  · split <;> rfl
  · rw [Drum.testSpeedLoss_eq]

@[simp] theorem Drum.suspend_dir (d : Drum) : d.suspend.dir = d.dir := by
  obtain ⟨⟨-, -, hdir, -⟩, -⟩ := d.suspend_stops
  exact hdir

@[simp] theorem Drum.discard_dir (d : Drum) : d.discard.dir = d.dir := by
  obtain ⟨⟨-, -, hdir, -⟩, -⟩ := d.discard_stops
  exact hdir

@[simp] theorem PocketUnit.beginRun_dir (cycles : Nat) (dir : Dir) (speed : Nat) (u : PocketUnit) :
    (u.beginRun cycles dir speed).drum.dir = u.drum.dir :=
  (u.beginRun_step cycles dir speed).2.1

@[simp] theorem PocketUnit.trigger_dir (k : TriggerKind) (u : PocketUnit) : (u.trigger k).drum.dir = u.drum.dir :=
  (u.trigger_step k).2.1

@[simp] theorem PocketUnit.twistCheck_dir (u : PocketUnit) : u.twistCheck.drum.dir = u.drum.dir :=
  u.twistCheck_step.2.1

@[simp] theorem PocketUnit.nextEntry_dir (cycles : Nat) (u : PocketUnit) : (u.nextEntry cycles).drum.dir = u.drum.dir :=
  (u.nextEntry_step cycles).2.1

@[simp] theorem PocketUnit.endUnwind_dir (cycles : Nat) (u : PocketUnit) : (u.endUnwind cycles).drum.dir = u.drum.dir :=
  (u.endUnwind_step cycles).2.1

@[simp] theorem PocketUnit.holdDrum_dir (cycles : Nat) (u : PocketUnit) : (u.holdDrum cycles).drum.dir = u.drum.dir :=
  (u.holdDrum_step cycles).2

@[simp] theorem PocketUnit.handRunning_dir (cycles : Nat) (first last : EntryNo) (u : PocketUnit) :
    (u.handRunning cycles first last).drum.dir = u.drum.dir := by
  obtain ⟨-, -, -, -, -, -, -, -, hdir, -⟩ := u.handRunning_keeps cycles first last
  exact hdir

@[simp] theorem PocketUnit.resumeEntry_dir (cycles : Nat) (u : PocketUnit) :
    (u.resumeEntry cycles).drum.dir = u.drum.dir := by
  obtain ⟨-, -, -, -, -, -, -, -, hdir, -⟩ := u.resumeEntry_keeps cycles
  exact hdir

/-- A completed revolution sets no direction: it triggers an unwind, ends one, or is checked for twist (R96). -/
@[simp] theorem PocketUnit.revolution_dir (free cycles : Nat) (u : PocketUnit) :
    (u.revolution free cycles).drum.dir = u.drum.dir := by
  have hcounted : (PocketUnit.monitorRevolution free { u with drum := u.drum.countRevolution }).drum.dir = u.drum.dir := rfl
  unfold PocketUnit.revolution
  dsimp only
  split
  · rw [PocketUnit.trigger_dir, hcounted]
  · split
    · split
      · rw [PocketUnit.endUnwind_dir, hcounted]
      · exact hcounted
    · rw [PocketUnit.twistCheck_dir, hcounted]

/-- An edge moves the drum's state and not its direction (R79, R81, R82). -/
@[simp] theorem PocketUnit.edgeOnDrum_dir (u : PocketUnit) : u.edgeOnDrum.drum.dir = u.drum.dir := by
  unfold PocketUnit.edgeOnDrum
  split
  case h_3 =>
    dsimp only
    split <;> simp
  all_goals simp

theorem PocketUnit.tachEdge_dir (free cycles : Nat) (u : PocketUnit) : (u.tachEdge free cycles).drum.dir = u.drum.dir := by
  unfold PocketUnit.tachEdge
  dsimp only
  split <;> simp [Drum.addPulse, Drum.captureEdge]

/-- The confirmation of a stop, also where an unwind's run begins at once, waits for the standstill with DIR as it is
(R81, R103). -/
theorem PocketUnit.confirmStop_dir (cycles : Nat) (u : PocketUnit) : (u.confirmStop cycles).drum.dir = u.drum.dir := by
  unfold PocketUnit.confirmStop
  split
  · rfl
  · unfold PocketUnit.unwindAfterStop
    split
    · split
      · split <;> simp
      · rfl
    · rfl

theorem PocketUnit.loosenOver_dir (cycles : Nat) (u : PocketUnit) : (u.loosenOver cycles).drum.dir = u.drum.dir := by
  unfold PocketUnit.loosenOver
  split <;> simp

/-! ## The sequencer -/

@[simp] theorem PocketView.enterSlot_dir (env : Env) (i : SlotNo) (r : PhaseRecord) (v : PocketView) :
    (v.enterSlot env i r).unit.drum.dir = v.unit.drum.dir := by
  obtain ⟨-, -, -, -, -, -, -, -, -, -, hdir, -⟩ := v.enterSlot_does env i r
  exact hdir

/-- An activation, passed or failed, sets no direction (R14 to R17). -/
theorem PocketView.activate_dir {env : Env} {i : SlotNo} {v w : PocketView} {e : Option ActivationFailure}
    (h : v.activate env i = (w, e)) : w.unit.drum.dir = v.unit.drum.dir := by
  obtain ⟨r, -, ha⟩ | ⟨f, -, ha⟩ := v.activate_cases env i <;> rw [ha] at h <;> cases h <;> simp

@[simp] theorem PocketView.enterHalted_dir (env : Env) (v : PocketView) :
    (v.enterHalted env).unit.drum.dir = v.unit.drum.dir := by
  obtain ⟨-, -, hdrum, -⟩ := v.enterHalted_does env
  rw [hdrum, Drum.discard_dir]

@[simp] theorem PocketView.enterDone_dir (env : Env) (v : PocketView) :
    (v.enterDone env).unit.drum.dir = v.unit.drum.dir := by
  obtain ⟨-, -, hdrum, -⟩ := v.enterDone_does env
  rw [hdrum, Drum.discard_dir]

@[simp] theorem PocketView.chainHalt_dir (env : Env) (v : PocketView) :
    (v.chainHalt env).unit.drum.dir = v.unit.drum.dir := by
  obtain ⟨-, hdrum, -⟩ := v.chainHalt_does env
  rw [hdrum, Drum.discard_dir]

@[simp] theorem PocketView.enterSafe_dir (env : Env) (v : PocketView) :
    (v.enterSafe env).unit.drum.dir = v.unit.drum.dir := by
  unfold PocketView.enterSafe
  dsimp only
  split
  · simp [PocketUnit.clearQuals]
  · split <;> next ha => simp [PocketView.activate_dir ha, PocketUnit.becomeSafe, PocketUnit.clearQuals]

@[simp] theorem PocketUnit.retargetSafe_dir (o : PhaseOutcome) (u : PocketUnit) :
    (u.retargetSafe o).drum.dir = u.drum.dir := by
  simp [PocketUnit.retargetSafe]

@[simp] theorem PocketView.orderSafe_dir (env : Env) (v : PocketView) :
    (v.orderSafe env).unit.drum.dir = v.unit.drum.dir := by
  unfold PocketView.orderSafe
  split
  case h_3 => split <;> simp
  all_goals simp

@[simp] theorem PocketView.orderHalt_dir (env : Env) (v : PocketView) :
    (v.orderHalt env).unit.drum.dir = v.unit.drum.dir := by
  unfold PocketView.orderHalt
  split <;> simp

@[simp] theorem PocketView.abandonedByHost_dir (env : Env) (v : PocketView) :
    (v.abandonedByHost env).unit.drum.dir = v.unit.drum.dir := by
  simp [PocketView.abandonedByHost, PocketUnit.markUnattended]

/-- The response to a fault is an order to enter SAFE, an order to halt, or nothing (R177). -/
@[simp] theorem PocketView.respond_dir (env : Env) (f : PocketFault) (v : PocketView) :
    (v.respond env f).unit.drum.dir = v.unit.drum.dir := by
  unfold PocketView.respond
  split
  case h_4 => simp
  case h_5 => rfl
  all_goals split <;> simp

@[simp] theorem PocketView.report_dir (env : Env) (f : PocketFault) (v : PocketView) :
    (v.report env f).unit.drum.dir = v.unit.drum.dir := by
  obtain ⟨-, h⟩ | ⟨-, -, -, h⟩ | ⟨-, -, h⟩ := v.report_cases env f <;> simp [h]

@[simp] theorem PocketView.become_dir (env : Env) (st : RunState) (v : PocketView) :
    (v.become env st).unit.drum.dir = v.unit.drum.dir := by
  unfold PocketView.become PocketView.reportOnEntry
  split <;> simp

@[simp] theorem PocketView.advance_dir (env : Env) (v : PocketView) :
    (v.advance env).unit.drum.dir = v.unit.drum.dir := by
  unfold PocketView.advance
  dsimp only
  split
  · simp [PocketUnit.clearQuals]
  · split <;> next ha => split <;> simp [PocketView.activate_dir ha, PocketUnit.clearQuals]

@[simp] theorem PocketView.endPhase_dir (env : Env) (o : PhaseOutcome) (v : PocketView) :
    (v.endPhase env o).unit.drum.dir = v.unit.drum.dir := by
  obtain ⟨-, -, -, h⟩ | ⟨-, h⟩ := v.endPhase_cases env o <;> simp [h, PocketView.enterHeld, PocketUnit.alignWindow]

@[simp] theorem PocketView.enterPaused_dir (env : Env) (v : PocketView) :
    (v.enterPaused env).unit.drum.dir = v.unit.drum.dir := by
  simp [PocketView.enterPaused]

@[simp] theorem PocketUnit.restore_dir (c : Checkpoint) (r : PhaseRecord) (u : PocketUnit) :
    (u.restore c r).drum.dir = u.drum.dir := by
  simp [PocketUnit.restore, PocketUnit.rewind]

@[simp] theorem PocketView.continueIn_dir (env : Env) (st : RunState) (v : PocketView) :
    (v.continueIn env st).unit.drum.dir = v.unit.drum.dir := by
  simp [PocketView.continueIn, PocketUnit.alignWindow]

@[simp] theorem PocketView.retry_dir (env : Env) (v : PocketView) : (v.retry env).unit.drum.dir = v.unit.drum.dir := by
  unfold PocketView.retry
  split
  · rfl
  · split <;> simp [PocketUnit.alignWindow]

@[simp] theorem PocketView.resumeToSafe_dir (env : Env) (v : PocketView) :
    (v.resumeToSafe env).unit.drum.dir = v.unit.drum.dir := by
  unfold PocketView.resumeToSafe
  split <;> simp

/-- A resume continues the phase, retries it, closes it, or enters SAFE (R41 to R46). -/
theorem PocketView.resume_dir (env : Env) (v : PocketView) : (v.resume env).unit.drum.dir = v.unit.drum.dir := by
  unfold PocketView.resume
  dsimp only
  split
  · simp [PocketUnit.leavePause]
  · split
    · simp [PocketUnit.leavePause]
    · split
      · simp [PocketUnit.leavePause]
      · split <;> simp [PocketUnit.leavePause]

theorem PocketView.startChain_dir (env : Env) (i : SlotNo) (r : PhaseRecord) (v : PocketView) :
    (v.startChain env i r).unit.drum.dir = v.unit.drum.dir := by
  simp [PocketView.startChain, PocketUnit.freshMarks, PocketUnit.freshRun]

@[simp] theorem PocketView.moveTo_dir (p : Pocket) (i : SlotNo) (r : PhaseRecord) (v : PocketView) :
    (v.moveTo p i r).unit.drum.dir = v.unit.drum.dir := by
  unfold PocketView.moveTo
  split <;> simp

theorem PocketView.backstep_dir (env : Env) (k : Nat) (c : Checkpoint) (r : PhaseRecord) (v : PocketView) :
    (v.backstep env k c r).unit.drum.dir = v.unit.drum.dir := by
  simp [PocketView.backstep, Drum.handStopped, Drum.handed, PocketUnit.abandonWindow]

theorem PocketView.driveReport_dir (env : Env) (v : PocketView) :
    (v.driveReport env).unit.drum.dir = v.unit.drum.dir := by
  simp [PocketView.driveReport]

theorem PocketView.openDoor_dir (env : Env) (v : PocketView) : (v.openDoor env).unit.drum.dir = v.unit.drum.dir := by
  unfold PocketView.openDoor
  dsimp only
  split <;> simp [PocketUnit.setDoor]

end Sys2Proof.Machine
end

section
/-! The DIR outputs of both drums under every command and the clock, and the statement of R77. -/

namespace Sys2Proof.Machine

/-! ## Steps that leave DIR -/

/-- DIR of either drum is in `t` as it was in `s`. -/
def State.KeepsDir (s t : State) : Prop := ∀ p : Pocket, (t.unit p).drum.dir = (s.unit p).drum.dir

theorem State.KeepsDir.refl (s : State) : s.KeepsDir s := fun _ => rfl

theorem State.KeepsDir.trans {s t r : State} (h : s.KeepsDir t) (k : t.KeepsDir r) : s.KeepsDir r := fun p =>
  (k p).trans (h p)

/-- A step on both pockets at once, or on the shared blocks alone. -/
theorem State.KeepsDir.both {s t : State} (hl : t.lower.drum.dir = s.lower.drum.dir)
    (hu : t.upper.drum.dir = s.upper.drum.dir) : s.KeepsDir t
  | .lower => hl
  | .upper => hu

theorem State.KeepsDir.reply {s t : State} {k : Byte} {c : ResultCode} {d : List Byte} (h : s.KeepsDir t) :
    s.KeepsDir (t.reply k c d) := fun p => by
  rw [State.reply_unit, h p]

/-- A request that is refused, or that only reports. -/
theorem State.keepsDir_reply {s : State} {k : Byte} {c : ResultCode} {d : List Byte} : s.KeepsDir (s.reply k c d) :=
  .reply (.refl s)

section
variable {s : State} {p : Pocket}

theorem State.KeepsDir.onUnit {f : PocketUnit → PocketUnit} (hf : ∀ u, (f u).drum.dir = u.drum.dir) :
    s.KeepsDir (s.onUnit p f) := fun q => by
  obtain rfl | rfl := eq_or_eq_otherPocket p q <;> simp [hf]

theorem State.KeepsDir.onPocket {f : PocketView → PocketView} (hf : ∀ v, (f v).unit.drum.dir = v.unit.drum.dir) :
    s.KeepsDir (s.onPocket p f) := fun q => by
  obtain rfl | rfl := eq_or_eq_otherPocket p q <;> simp [hf]

theorem State.KeepsDir.onEvent {f : Env → PocketView → PocketView}
    (hf : ∀ env v, (f env v).unit.drum.dir = v.unit.drum.dir) : s.KeepsDir (s.onEvent p f) := fun q => by
  obtain rfl | rfl := eq_or_eq_otherPocket p q <;> simp [hf]

end

/-! ## Requests -/

theorem reqConfigure_keepsDir (fields : ConfigureFields) (s : State) : s.KeepsDir (reqConfigure fields s) := by
  unfold reqConfigure
  split
  · exact State.keepsDir_reply
  · exact .reply (.both rfl rfl)

theorem reqSetTempCal_keepsDir (channel : Byte) (cLo tLo cHi tHi : Half) (s : State) :
    s.KeepsDir (reqSetTempCal channel cLo tLo cHi tHi s) := by
  unfold reqSetTempCal
  split
  · exact State.keepsDir_reply
  · dsimp only
    split
    · exact State.keepsDir_reply
    · exact .reply (.both rfl rfl)

theorem reqCalMoisture_keepsDir (pocket : Byte) (s : State) : s.KeepsDir (reqCalMoisture pocket s) := by
  unfold reqCalMoisture
  split
  · exact State.keepsDir_reply
  · split
    · exact State.keepsDir_reply
    · exact .reply (.onUnit fun _ => rfl)

theorem reqSetDefaults_keepsDir (pocket mask : Byte) (groups : List Byte) (s : State) :
    s.KeepsDir (reqSetDefaults pocket mask groups s) := by
  unfold reqSetDefaults
  split
  · exact .reply (.onUnit fun _ => rfl)
  · exact State.keepsDir_reply

theorem reqPutMotion_keepsDir (pocket index direction speed duration : Byte) (s : State) :
    s.KeepsDir (reqPutMotion pocket index direction speed duration s) := by
  unfold reqPutMotion
  split
  · split
    · exact State.keepsDir_reply
    · exact .reply (.onUnit fun _ => rfl)
  · exact State.keepsDir_reply

theorem reqPutPhase_keepsDir (slot kind next : Byte) (maxTime : Half) (segFirst segLast quals mask : Byte)
    (groups : List Byte) (s : State) :
    s.KeepsDir (reqPutPhase slot kind next maxTime segFirst segLast quals mask groups s) := by
  unfold reqPutPhase
  split
  · split
    · exact .reply (.both rfl rfl)
    · split
      · exact State.keepsDir_reply
      · exact .reply (.both rfl rfl)
  · exact State.keepsDir_reply

theorem reqErasePhase_keepsDir (slot : Byte) (s : State) : s.KeepsDir (reqErasePhase slot s) := by
  unfold reqErasePhase
  split
  · exact State.keepsDir_reply
  · split
    · exact .reply (.both rfl rfl)
    · split
      · exact State.keepsDir_reply
      · exact .reply (.both rfl rfl)

theorem reqGetPhase_keepsDir (slot : Byte) (s : State) : s.KeepsDir (reqGetPhase slot s) := by
  unfold reqGetPhase
  split <;> exact State.keepsDir_reply

theorem reqSetSafe_keepsDir (pocket slot : Byte) (s : State) : s.KeepsDir (reqSetSafe pocket slot s) := by
  unfold reqSetSafe
  split
  · split
    · exact State.keepsDir_reply
    · split
      · exact State.keepsDir_reply
      · exact .reply (.onUnit fun _ => rfl)
  · exact State.keepsDir_reply

theorem reqStart_keepsDir (pocket slot : Byte) (s : State) : s.KeepsDir (reqStart pocket slot s) := by
  unfold reqStart
  split
  · split
    · exact State.keepsDir_reply
    · split
      · exact State.keepsDir_reply
      · exact .reply (.onPocket (PocketView.startChain_dir _ _ _))
  · exact State.keepsDir_reply

theorem reqPause_keepsDir (pocket : Byte) (s : State) : s.KeepsDir (reqPause pocket s) := by
  unfold reqPause
  split
  · exact State.keepsDir_reply
  · split
    case h_1 | h_2 | h_3 => exact .reply (.onPocket (PocketView.enterPaused_dir _))
    all_goals exact State.keepsDir_reply

theorem reqResume_keepsDir (pocket : Byte) (s : State) : s.KeepsDir (reqResume pocket s) := by
  unfold reqResume
  split
  · exact State.keepsDir_reply
  · split
    · exact State.keepsDir_reply
    · split
      · exact State.keepsDir_reply
      · exact .reply (.onPocket (PocketView.resume_dir _))

theorem reqAdvance_keepsDir (pocket : Byte) (s : State) : s.KeepsDir (reqAdvance pocket s) := by
  unfold reqAdvance
  split
  · exact State.keepsDir_reply
  · split
    case h_1 => exact .reply (.onPocket (PocketView.advance_dir _))
    case h_2 | h_3 => exact .reply (.onPocket fun v => by simp [PocketView.skip])
    all_goals exact State.keepsDir_reply

theorem reqAbort_keepsDir (pocket : Byte) (s : State) : s.KeepsDir (reqAbort pocket s) := by
  unfold reqAbort
  split
  · exact State.keepsDir_reply
  · split
    case h_1 | h_2 => exact .reply (.onPocket fun v => by simp [PocketView.abort])
    case h_3 => exact .reply (.onUnit (PocketUnit.retargetSafe_dir _))
    all_goals exact State.keepsDir_reply

theorem reqBackstep_keepsDir (pocket k : Byte) (s : State) : s.KeepsDir (reqBackstep pocket k s) := by
  unfold reqBackstep
  split
  · exact State.keepsDir_reply
  · split
    · exact State.keepsDir_reply
    · split
      · exact State.keepsDir_reply
      · split
        · exact State.keepsDir_reply
        · exact .reply (.onPocket (PocketView.backstep_dir _ _ _ _))

theorem PocketUnit.clearTo_dir (fs : FaultSet) (u : PocketUnit) : (u.clearTo fs).drum.dir = u.drum.dir := by
  unfold PocketUnit.clearTo PocketUnit.leaveHalted
  split <;> rfl

theorem reqClearFault_keepsDir (pocket faults : Byte) (s : State) : s.KeepsDir (reqClearFault pocket faults s) := by
  unfold reqClearFault
  split
  · exact .reply (.onUnit (PocketUnit.clearTo_dir _))
  · exact State.keepsDir_reply

theorem reqGetStatus_keepsDir (target : Byte) (s : State) : s.KeepsDir (reqGetStatus target s) := by
  unfold reqGetStatus
  split
  case h_1 | h_2 => exact .reply (.onUnit fun _ => rfl)
  case h_3 => exact .reply (.both rfl rfl)
  case h_4 => exact State.keepsDir_reply

theorem reqGetHistory_keepsDir (pocket : Byte) (s : State) : s.KeepsDir (reqGetHistory pocket s) := by
  unfold reqGetHistory
  split <;> exact State.keepsDir_reply

theorem reqFlushTrend_keepsDir (s : State) : s.KeepsDir (reqFlushTrend s) := by
  unfold reqFlushTrend
  split
  · exact .reply (.both rfl rfl)
  · exact State.keepsDir_reply

theorem reqTrendMode_keepsDir (mode threshold : Byte) (s : State) : s.KeepsDir (reqTrendMode mode threshold s) := by
  unfold reqTrendMode
  split
  · exact State.keepsDir_reply
  · exact .reply (.both rfl rfl)

/-- RESET_PART keeps DIR with the rest of the drum's outputs (R94). -/
theorem reqResetPart_keepsDir (s : State) : s.KeepsDir (reqResetPart s) := by
  unfold reqResetPart
  split
  · exact State.keepsDir_reply
  · refine .reply fun p => ?_
    obtain ⟨-, hdrum, -⟩ := s.resetPart_pocket p
    rw [hdrum]
    rfl

/-- No request sets DIR, whether it comes from a frame or as its own command. -/
theorem runRequest_keepsDir (i : Instr) (s : State) : s.KeepsDir (runRequest i s) := by
  cases i with
  | configure => exact reqConfigure_keepsDir _ s
  | setTempCal => exact reqSetTempCal_keepsDir _ _ _ _ _ s
  | calMoisture => exact reqCalMoisture_keepsDir _ s
  | setDefaults => exact reqSetDefaults_keepsDir _ _ _ s
  | putMotion => exact reqPutMotion_keepsDir _ _ _ _ _ s
  | putPhase => exact reqPutPhase_keepsDir _ _ _ _ _ _ _ _ _ s
  | erasePhase => exact reqErasePhase_keepsDir _ s
  | getPhase => exact reqGetPhase_keepsDir _ s
  | setSafe => exact reqSetSafe_keepsDir _ _ s
  | start => exact reqStart_keepsDir _ _ s
  | pause => exact reqPause_keepsDir _ s
  | resume => exact reqResume_keepsDir _ s
  | advance => exact reqAdvance_keepsDir _ s
  | abort => exact reqAbort_keepsDir _ s
  | backstep => exact reqBackstep_keepsDir _ _ s
  | clearFault => exact reqClearFault_keepsDir _ _ s
  | getStatus => exact reqGetStatus_keepsDir _ s
  | getHistory => exact reqGetHistory_keepsDir _ s
  | getTemps => exact State.keepsDir_reply
  | readTrend => exact .reply (.both rfl rfl)
  | flushTrend => exact reqFlushTrend_keepsDir s
  | trendMode => exact reqTrendMode_keepsDir _ _ s
  | resetPart => exact reqResetPart_keepsDir s
  | _ => exact .refl s

/-! ## Events -/

theorem State.answerFrame_keepsDir (f : InFrame) (s : State) : s.KeepsDir (s.answerFrame f) := by
  unfold State.answerFrame
  split
  · split
    case h_3 => exact runRequest_keepsDir _ s
    all_goals exact State.keepsDir_reply
  · exact .both rfl rfl

theorem State.beginNotice_keepsDir (t : Target) (s : State) : s.KeepsDir (s.beginNotice t) := by
  cases t with
  | pocket p => cases p <;> exact .both rfl rfl
  | device => exact .both rfl rfl

theorem State.reportTo_keepsDir (s : State) (p : Pocket) (f : PocketFault) : s.KeepsDir (s.reportTo p f) :=
  .onEvent fun env => PocketView.report_dir env f

theorem State.reportSilence_keepsDir (p : Pocket) (s : State) : s.KeepsDir (s.reportSilence p) := by
  unfold State.reportSilence
  split
  · exact s.reportTo_keepsDir p .linkLost
  · exact .refl s

theorem State.expireSilence_keepsDir (s : State) : s.KeepsDir s.expireSilence := by
  unfold State.expireSilence
  dsimp only
  split
  all_goals
    refine .trans ?_ (State.reportSilence_keepsDir _ _)
    exact .trans (.both rfl rfl) (State.reportSilence_keepsDir _ _)

theorem State.endWindow_keepsDir (p : Pocket) (w : SenseWindow) (s : State) : s.KeepsDir (s.endWindow p w) := by
  have hjudged : s.KeepsDir (s.onUnit p (PocketUnit.judgeWindow w)) := .onUnit fun _ => rfl
  have hwritten (r : TrendRecord) : s.KeepsDir ((s.onUnit p (PocketUnit.judgeWindow w)).onTrend (TrendView.write r)) :=
    hjudged.trans (.both rfl rfl)
  unfold State.endWindow
  dsimp only
  split
  · exact (hwritten _).trans (.onEvent fun env => PocketView.endPhase_dir env .dry)
  · exact (hwritten _).trans (.onUnit fun _ => rfl)

theorem State.coolTest_keepsDir (s : State) (p : Pocket) : s.KeepsDir (s.coolTest p) := by
  unfold State.coolTest
  split
  · exact .onEvent fun env => PocketView.endPhase_dir env .cooled
  · exact .refl s

theorem State.afterInlet_keepsDir (s : State) (p : Pocket) : s.KeepsDir (s.afterInlet p) := by
  unfold State.afterInlet
  split
  · split
    · exact s.reportTo_keepsDir p .overheat
    · exact .refl s
  · split
    · exact s.reportTo_keepsDir p .sensor
    · exact .refl s

theorem State.reportThenEnd_keepsDir (s : State) (p : Pocket) : s.KeepsDir (s.reportThenEnd p) := by
  unfold State.reportThenEnd
  dsimp only
  split
  · exact (s.reportTo_keepsDir p .sensor).trans (State.coolTest_keepsDir _ p)
  · exact s.reportTo_keepsDir p .sensor

theorem State.afterExhaust_keepsDir (s : State) (p : Pocket) : s.KeepsDir (s.afterExhaust p) := by
  have hspent : s.KeepsDir s.spendFree := .both rfl rfl
  unfold State.afterExhaust
  split
  · split
    · exact hspent.trans (State.reportThenEnd_keepsDir _ p)
    · exact (hspent.trans (State.coolTest_keepsDir _ p)).trans (State.reportTo_keepsDir _ p .sensor)
  · exact s.coolTest_keepsDir p

theorem State.zeroCross_keepsDir (s : State) : s.KeepsDir s.zeroCross := by
  unfold State.zeroCross
  dsimp only
  split <;> exact .both rfl rfl

theorem State.driveCondition_keepsDir {drop : Drum → Drum} (hdrop : ∀ d, (drop d).dir = d.dir) (p : Pocket) (s : State) :
    s.KeepsDir (s.driveCondition p drop) := by
  unfold State.driveCondition
  split
  · exact .onPocket (PocketView.driveReport_dir _)
  · exact .onUnit fun u => hdrop u.drum

theorem PocketUnit.setCutout_dir (b : Bool) (u : PocketUnit) : (u.setCutout b).drum.dir = u.drum.dir := rfl

theorem PocketUnit.endReference_dir (openLimit measuredOpen : Nat) (u : PocketUnit) :
    (u.endReference openLimit measuredOpen).drum.dir = u.drum.dir := by
  unfold PocketUnit.endReference
  dsimp only
  split
  · unfold PocketUnit.completeCal
    dsimp only
    split <;> rfl
  · rfl

/-! ## Commands -/

/-- If the outcome is a state, DIR of either drum is in it as it was in `s`. -/
def State.OutcomeKeepsDir (s : State) (o : Host.Outcome State Fault Refusal) : Prop :=
  ∀ t : State, o = .next t → s.KeepsDir t

section
variable {s t : State}

theorem State.OutcomeKeepsDir.next (h : s.KeepsDir t) : s.OutcomeKeepsDir (.next t)
  | _, rfl => h

theorem State.OutcomeKeepsDir.ite {c : Prop} [Decidable c] {x y : Host.Outcome State Fault Refusal}
    (hx : s.OutcomeKeepsDir x) (hy : s.OutcomeKeepsDir y) : s.OutcomeKeepsDir (if c then x else y) := by
  split <;> assumption

/-- A command that acts only under its condition (entry 10). -/
theorem State.OutcomeKeepsDir.when {c : Prop} [Decidable c] (h : s.KeepsDir t) :
    s.OutcomeKeepsDir (if c then .next t else .next s) :=
  .ite (.next h) (.next (.refl s))

end

theorem execFrameTaken_keepsDir (s : State) : s.OutcomeKeepsDir (execFrameTaken s) := by
  unfold execFrameTaken
  split
  · exact .next (.trans (.both rfl rfl) (State.answerFrame_keepsDir _ _))
  · exact .next (.refl s)

theorem execReplyTransmissionBegin_keepsDir (s : State) : s.OutcomeKeepsDir (execReplyTransmissionBegin s) := by
  unfold execReplyTransmissionBegin
  split
  · exact .next (.both rfl rfl)
  · exact .next (.refl s)

theorem execNoticeFrameBegin_keepsDir (s : State) : s.OutcomeKeepsDir (execNoticeFrameBegin s) := by
  unfold execNoticeFrameBegin
  split
  · exact .next (s.beginNotice_keepsDir _)
  · exact .next (.refl s)

theorem execTransmissionEnd_keepsDir (s : State) : s.OutcomeKeepsDir (execTransmissionEnd s) := by
  unfold execTransmissionEnd
  split
  · exact .when (.both rfl rfl)
  · exact .next (.refl s)

theorem execCalIsolatedPartEnd_keepsDir (p : Pocket) (s : State) : s.OutcomeKeepsDir (execCalIsolatedPartEnd p s) := by
  unfold execCalIsolatedPartEnd
  split
  · exact .when (.onUnit fun _ => rfl)
  · exact .next (.refl s)

theorem execCalComplete_keepsDir (p : Pocket) (s : State) : s.OutcomeKeepsDir (execCalComplete p s) := by
  unfold execCalComplete
  split
  · split
    · exact .next (.onUnit (PocketUnit.endReference_dir _ _))
    · exact .next (.refl s)
  · exact .next (.refl s)

theorem execWindowEnd_keepsDir (p : Pocket) (s : State) : s.OutcomeKeepsDir (execWindowEnd p s) := by
  unfold execWindowEnd
  split
  · exact .when (s.endWindow_keepsDir p _)
  · exact .next (.refl s)

theorem execChannelConversion_keepsDir (channel : Channel) (count : ConverterCount) (s : State) :
    s.OutcomeKeepsDir (execChannelConversion channel count s) := by
  cases channel with
  | lowerInlet => exact .next (.trans (.both rfl rfl) (State.afterInlet_keepsDir _ .lower))
  | lowerExhaust => exact .next (.trans (.both rfl rfl) (State.afterExhaust_keepsDir _ .lower))
  | upperInlet => exact .next (.trans (.both rfl rfl) (State.afterInlet_keepsDir _ .upper))
  | upperExhaust => exact .next (.trans (.both rfl rfl) (State.afterExhaust_keepsDir _ .upper))
  | ambient => exact .next (.both rfl rfl)

/-- Every command but power-on and the expiry of a standstill leaves DIR of both drums (R77). -/
theorem exec_keepsDir (c : Instr) (s : State) (hpower : c ≠ .powerOn) (hstandstill : ∀ p, c ≠ .standstillExpiry p) :
    s.OutcomeKeepsDir (exec c s) := by
  have hrequest : s.KeepsDir (runRequest c s) := runRequest_keepsDir c s
  cases c with
  | powerOn => exact absurd rfl hpower
  | standstillExpiry p => exact absurd rfl (hstandstill p)
  | receiveByte => exact .next (.both rfl rfl)
  | receiveSilenceTimeout => exact .when (.both rfl rfl)
  | frameTaken => exact execFrameTaken_keepsDir s
  | replyTransmissionBegin => exact execReplyTransmissionBegin_keepsDir s
  | noticeFrameBegin => exact execNoticeFrameBegin_keepsDir s
  | transmissionEnd => exact execTransmissionEnd_keepsDir s
  | silenceTimerExpiry => exact .when s.expireSilence_keepsDir
  | doorOpening => exact .when (.onPocket (PocketView.openDoor_dir _))
  | doorClosing => exact .ite (.next (.refl s)) (.next (.onUnit fun _ => rfl))
  | phaseTimerExpiry => exact .when (.onEvent fun env => PocketView.endPhase_dir env _)
  | unattendedResume => exact .when (.onEvent fun env v => PocketView.resumeToSafe_dir env _)
  | fanRunOnExpiry => exact .when (.onUnit fun _ => rfl)
  | tachEdge => exact .next (.trans (.onUnit (PocketUnit.tachEdge_dir _ _)) (.both rfl rfl))
  | tachoCaptureOverflow => exact .when (.onUnit fun u => Drum.takeMeasurement_dir _)
  | unwindBoundExpiry => exact .when (.onUnit (PocketUnit.endUnwind_dir _))
  | loosenDwellExpiry => exact .when (.onUnit (PocketUnit.loosenOver_dir _))
  | stopConfirmed => exact .when (.onUnit (PocketUnit.confirmStop_dir _))
  | entryDurationExpiry => exact .when (.onUnit (PocketUnit.nextEntry_dir _))
  | startTimeout | speedLossTimeout | stopTimeout =>
    refine .when (State.driveCondition_keepsDir ?_ _ s)
    exact fun _ => rfl
  | mpulseEdge => exact .ite (.next (.refl s)) (.next (.onUnit fun _ => rfl))
  | forcedOpenPeriod => exact .when (.onUnit fun _ => rfl)
  | calIsolatedPartEnd => exact execCalIsolatedPartEnd_keepsDir _ s
  | calComplete => exact execCalComplete_keepsDir _ s
  | windowEnd => exact execWindowEnd_keepsDir _ s
  | channelConversion => exact execChannelConversion_keepsDir _ _ s
  | cutoutOpening => exact .when (.trans (.onUnit (PocketUnit.setCutout_dir false)) (State.reportTo_keepsDir _ _ .overheat))
  | zeroCross => exact .next s.zeroCross_keepsDir
  | mainsLoss => exact .when (.both rfl rfl)
  | airfDeasserted => exact .when (.onUnit fun _ => rfl)
  | airfAsserted => exact .next (.onUnit fun _ => rfl)
  | airflowTimeout => exact .when (.onEvent fun env => PocketView.report_dir env .airflow)
  | cutoutClosing => exact .next (.onUnit fun _ => rfl)
  | _ => exact .next hrequest

/-! ## The two commands that set DIR -/

theorem exec_standstillExpiry (p : Pocket) (s : State) :
    exec (.standstillExpiry p) s =
      if (s.unit p).drum.standstillDue then
        .next (s.onUnit p (PocketUnit.standstillOver s.supply.config.reserveCycles))
      else .next s := rfl

/-- The standstill has expired exactly where a SETTLE drum with a pending direction has stood 300 ms (R82). -/
theorem Drum.standstillDue_iff (d : Drum) :
    d.standstillDue = true ↔
      d.state = .settle ∧ (∃ dir, d.pendingDir = some dir) ∧ ∃ n, d.settleTimer = some n ∧ standstill ≤ n := by
  cases htimer : d.settleTimer <;>
    simp [Drum.standstillDue, timerReached, htimer, Option.isSome_iff_exists, and_assoc]

/-- At the expiry of the standstill DIR takes the pending direction (R77, R82). -/
theorem PocketUnit.standstillOver_dir (cycles : Nat) {dir : Dir} {u : PocketUnit} (h : u.drum.pendingDir = some dir) :
    (u.standstillOver cycles).drum.dir = dir := by
  simp [PocketUnit.standstillOver, PocketUnit.assertDirection, h]

/-- An expiry of a standstill that changes a drum's DIR is that drum's own, and the standstill has run (R77). -/
theorem standstillExpiry_changes_dir {p q : Pocket} {s t : State} (h : exec (.standstillExpiry q) s = .next t)
    (hne : (t.unit p).drum.dir ≠ (s.unit p).drum.dir) :
    q = p ∧ (s.unit p).drum.state = .settle ∧ (s.unit p).drum.pendingDir = some (t.unit p).drum.dir ∧
      ∃ n : Nat, (s.unit p).drum.settleTimer = some n ∧ 300000 ≤ n := by
  rw [exec_standstillExpiry] at h
  split at h <;> cases h
  case isFalse => exact absurd rfl hne
  case isTrue hdue =>
    obtain ⟨hstate, ⟨dir, hdir⟩, htimer⟩ := (Drum.standstillDue_iff _).mp hdue
    obtain rfl | rfl := eq_or_eq_otherPocket q p
    · rw [State.onUnit_unit, PocketUnit.standstillOver_dir _ hdir]
      exact ⟨rfl, hstate, hdir, htimer⟩
    · exact absurd (congrArg (·.drum.dir) (State.onUnit_unit_other s q _)) hne

/-- Power-on sets DIR of either drum to FWD (R205). -/
theorem powerOn_dir {s t : State} (h : exec .powerOn s = .next t) (p : Pocket) : (t.unit p).drum.dir = .fwd := by
  rw [exec_powerOn, State.powerOn_eq] at h
  cases h
  cases p
  case lower =>
    obtain ⟨-, hdrum, -⟩ := PocketUnit.powerOn_cutoutReported s.lower.pins
    exact congrArg Drum.dir hdrum
  case upper =>
    obtain ⟨-, hdrum, -⟩ := PocketUnit.powerOn_cutoutReported s.upper.pins
    exact congrArg Drum.dir hdrum

/-! ## The statement -/

/-- Settles O32, by the two commands that set DIR: every other keeps it, and so does the clock. -/
theorem dirChangesOnlyAtStandstill : Obligations.DirChangesOnlyAtStandstill := by
  unfold Obligations.DirChangesOnlyAtStandstill
  refine ⟨?commands, fun p s t h => powerOn_dir h p, ?clock⟩
  case commands =>
    intro c p s t h hne
    by_cases hpower : c = .powerOn
    · exact .inr hpower
    by_cases hstandstill : ∃ q, c = .standstillExpiry q
    · obtain ⟨q, rfl⟩ := hstandstill
      obtain ⟨rfl, hexpired⟩ := standstillExpiry_changes_dir h hne
      exact .inl ⟨rfl, hexpired⟩
    · exact absurd (exec_keepsDir c s hpower (not_exists.mp hstandstill) t h p) hne
  case clock =>
    intro p s
    rw [State.tick_unit]
    rfl

end Sys2Proof.Machine
end

section
/-! PUT_MOTION (chapter 4): which direction codes name a motion, and the request by its cases. -/

namespace Sys2Proof.Machine

/-- Three codes name a motion (R69). -/
theorem motionOf_isSome (b : Byte) : (motionOf b).isSome = true ↔ b.toNat < 3 := by
  unfold motionOf
  split <;> grind

theorem exec_putMotion (pocket index direction speed duration : Byte) (s : State) :
    exec (.putMotion pocket index direction speed duration) s =
      .next (reqPutMotion pocket index direction speed duration s) := rfl

/-- The result of a write: OK_CLAMPED where the duration, or the speed of a run entry, was clamped (R70). -/
theorem motionClamped_result (m : Motion) (speed duration : Nat) :
    (if motionClamped m speed duration then ResultCode.okClamped else .ok) =
      if (motionEntry m speed duration).duration = duration ∧
          (m = .dwell ∨ (motionEntry m speed duration).speed = speed) then .ok
      else .okClamped := by
  by_cases hduration : clampNat 1 240 duration = duration
  case neg => simp [motionClamped, motionEntry, hduration]
  case pos =>
    cases m with
    | run dir =>
      by_cases hspeed : clampNat 15 60 speed = speed <;> simp [motionClamped, motionEntry, hduration, hspeed]
    | dwell => simp [motionClamped, motionEntry, hduration]

/-- PUT_MOTION whose operands are in order: refused for the executing entry, written otherwise (R70, R71). -/
theorem reqPutMotion_of_operands {pocket index direction : Byte} {p : Pocket} {j : EntryNo} {m : Motion}
    (hp : pocketOf pocket = some p) (hj : entryOf index = some j) (hm : motionOf direction = some m)
    (speed duration : Byte) (s : State) :
    reqPutMotion pocket index direction speed duration s =
      if (s.unit p).executingEntry = some j then s.reply 0x05 .inUse []
      else
        (s.onUnit p (PocketUnit.writeEntry j (motionEntry m speed.toNat duration.toNat))).reply 0x05
          (if (motionEntry m speed.toNat duration.toNat).duration = duration.toNat ∧
              (m = .dwell ∨ (motionEntry m speed.toNat duration.toNat).speed = speed.toNat) then .ok
          else .okClamped) [] := by
  simp only [reqPutMotion, hp, hj, hm, motionClamped_result]

/-- PUT_MOTION with an operand that is not in order (R70). -/
theorem reqPutMotion_refused {pocket index direction : Byte}
    (h : ¬((pocketOf pocket).isSome = true ∧ (entryOf index).isSome = true ∧ (motionOf direction).isSome = true))
    (speed duration : Byte) (s : State) :
    reqPutMotion pocket index direction speed duration s = s.reply 0x05 .badRequest [] := by
  unfold reqPutMotion
  split
  · next p j m hp hj hm => simp [hp, hj, hm] at h
  · rfl

/-- Settles O23: operands in order, and the refusals. -/
theorem putMotionByCases : Obligations.PutMotionByCases := by
  unfold Obligations.PutMotionByCases
  intro b idx dir sp du s
  refine ⟨?written, ?refused⟩
  case written =>
    intro p j m hp hj hm
    rw [exec_putMotion, reqPutMotion_of_operands hp hj hm]
    rfl
  case refused =>
    intro h
    rw [exec_putMotion, reqPutMotion_refused]
    rw [pocketOf_isSome, entryOf_isSome, motionOf_isSome]
    omega

end Sys2Proof.Machine
end

section
/-! The moisture capture (chapter 6): what a period that ends adds to the calibration part or to the window, and the two
events that end one. -/

namespace Sys2Proof.Machine

/-! ## The weight of a period (R113, R122, R123) -/

/-- A period ended by an edge counts where the calibration is valid and its length is below the open limit. -/
theorem Moisture.weight_of_edge (m : Moisture) (openLimit n : Nat) :
    m.weight openLimit ⟨n, true⟩ =
      if m.valid = true ∧ n < openLimit then conductance m.gOpen m.gRef (pulseRate n) * n else 0 := by
  simp [Moisture.weight, Period.isContact]

/-- A forced period is open. -/
theorem Moisture.weight_of_forced (m : Moisture) (openLimit n : Nat) : m.weight openLimit ⟨n, false⟩ = 0 := by
  simp [Moisture.weight, Period.isContact]

/-! ## Where a period goes (R114) -/

theorem Moisture.endPeriod_of_calibration {m : Moisture} {c : Calibration} (hcal : m.calibration = some c)
    (openLimit : Nat) (byEdge : Bool) :
    m.endPeriod openLimit byEdge = { m with capture := 0, calibration := some (c.add ⟨m.capture, byEdge⟩) } := by
  obtain ⟨c', hc', h⟩ | ⟨_, hnone, -⟩ | ⟨hnone, -⟩ := m.endPeriod_cases openLimit byEdge
  · obtain rfl : c' = c := Option.some.inj (hc'.symm.trans hcal)
    exact h
  · simp [hcal] at hnone
  · simp [hcal] at hnone

theorem Moisture.endPeriod_of_window {m : Moisture} {w : SenseWindow} (hcal : m.calibration = none)
    (hwindow : m.window = some w) (openLimit : Nat) (byEdge : Bool) :
    m.endPeriod openLimit byEdge =
      { m with capture := 0, window := some (w.add m.capture (m.weight openLimit ⟨m.capture, byEdge⟩)) } := by
  obtain ⟨_, hsome, -⟩ | ⟨w', -, hw', h⟩ | ⟨-, hnone, -⟩ := m.endPeriod_cases openLimit byEdge
  · simp [hcal] at hsome
  · obtain rfl : w' = w := Option.some.inj (hw'.symm.trans hwindow)
    exact h
  · simp [hwindow] at hnone

theorem Moisture.endPeriod_of_idle {m : Moisture} (hcal : m.calibration = none) (hwindow : m.window = none)
    (openLimit : Nat) (byEdge : Bool) : m.endPeriod openLimit byEdge = { m with capture := 0 } := by
  obtain ⟨_, hsome, -⟩ | ⟨_, -, hsome, -⟩ | ⟨-, -, h⟩ := m.endPeriod_cases openLimit byEdge
  · simp [hcal] at hsome
  · simp [hwindow] at hsome
  · exact h

/-! ## The events that end a period (R112) -/

/-- The end of the period that pocket `p` is capturing: it changes the pocket's moisture unit and nothing else. -/
def State.endPeriod (p : Pocket) (byEdge : Bool) (s : State) : State :=
  s.setUnit p { s.unit p with moist := (s.unit p).moist.endPeriod s.supply.config.openLimit byEdge }

theorem exec_mpulseEdge_of_zero {p : Pocket} {s : State} (h : (s.unit p).moist.capture = 0) :
    exec (.mpulseEdge p) s = .next s :=
  if_pos h

theorem exec_mpulseEdge_of_pos {p : Pocket} {s : State} (h : 1 ≤ (s.unit p).moist.capture) :
    exec (.mpulseEdge p) s = .next (s.endPeriod p true) :=
  if_neg (Nat.ne_of_gt h)

theorem Moisture.forcedDue_iff (m : Moisture) : m.forcedDue = true ↔ 65535 ≤ m.capture := by
  unfold Moisture.forcedDue captureLimit
  exact decide_eq_true_iff

theorem exec_forcedOpenPeriod_of_due {p : Pocket} {s : State} (h : 65535 ≤ (s.unit p).moist.capture) :
    exec (.forcedOpenPeriod p) s = .next (s.endPeriod p false) :=
  if_pos ((Moisture.forcedDue_iff _).mpr h)

/-- Settles O34: each event by where the period goes. -/
theorem moisturePeriodsDelivered : Obligations.MoisturePeriodsDelivered := by
  unfold Obligations.MoisturePeriodsDelivered
  rintro p n s rfl
  refine ⟨exec_mpulseEdge_of_zero, ?edgeInWindow, ?edgeInPart, ?forcedInWindow, ?forcedInPart, ?discarded⟩
  case edgeInWindow =>
    intro w hpos hcal hwindow
    rw [exec_mpulseEdge_of_pos hpos, State.endPeriod, Moisture.endPeriod_of_window hcal hwindow, Moisture.weight_of_edge]
    rfl
  case edgeInPart =>
    intro c hpos hcal
    rw [exec_mpulseEdge_of_pos hpos, State.endPeriod, Moisture.endPeriod_of_calibration hcal]
    rfl
  case forcedInWindow =>
    intro w hfull hcal hwindow
    rw [exec_forcedOpenPeriod_of_due (Nat.le_of_eq hfull.symm), State.endPeriod,
      Moisture.endPeriod_of_window hcal hwindow, Moisture.weight_of_forced, hfull]
    rfl
  case forcedInPart =>
    intro c hfull hcal
    rw [exec_forcedOpenPeriod_of_due (Nat.le_of_eq hfull.symm), State.endPeriod,
      Moisture.endPeriod_of_calibration hcal, hfull]
    rfl
  case discarded =>
    intro hcal hwindow
    refine ⟨fun hpos => ?edge, fun hfull => ?forced⟩
    case edge =>
      rw [exec_mpulseEdge_of_pos hpos, State.endPeriod, Moisture.endPeriod_of_idle hcal hwindow]
      rfl
    case forced =>
      rw [exec_forcedOpenPeriod_of_due (Nat.le_of_eq hfull.symm), State.endPeriod, Moisture.endPeriod_of_idle hcal hwindow]
      rfl

end Sys2Proof.Machine
end

section
/-! The moisture calibration (chapter 6): the request CAL_MOISTURE, what a part has gathered when it ends, and the ends of
the two parts. -/

namespace Sys2Proof.Machine

/-! ## The request (R116) -/

theorem RunState.engaged_iff (r : RunState) : r.engaged = true ↔ r ≠ .idle ∧ r ≠ .done ∧ r ≠ .halted := by
  cases r <;> decide

theorem exec_calMoisture (pocket : Byte) (s : State) :
    exec (.calMoisture pocket) s = .next (reqCalMoisture pocket s) := rfl

/-- CAL_MOISTURE of a pocket: refused for an engaged pocket, then for one that is being calibrated. -/
theorem reqCalMoisture_of_pocket {pocket : Byte} {p : Pocket} (hp : pocketOf pocket = some p) (s : State) :
    reqCalMoisture pocket s =
      if (s.unit p).seq.run.engaged = true then s.reply 0x03 .busy []
      else if (s.unit p).moist.calibration ≠ none then s.reply 0x03 .busy []
      else (s.onUnit p fun u => { u with moist := u.moist.startPart .isolated }).reply 0x03 .ok [] := by
  simp only [reqCalMoisture, hp, Bool.or_eq_true, ← Option.isSome_iff_ne_none]
  by_cases hrun : (s.unit p).seq.run.engaged = true
  · simp [hrun]
  · simp [hrun]

/-- CAL_MOISTURE with a code that names no pocket. -/
theorem reqCalMoisture_refused {pocket : Byte} (h : ¬(pocketOf pocket).isSome = true) (s : State) :
    reqCalMoisture pocket s = s.reply 0x03 .badRequest [] := by
  rw [Option.not_isSome_iff_eq_none] at h
  simp only [reqCalMoisture, h]

/-- Settles O33: a pocket's code, and the refusals. -/
theorem calMoistureByCases : Obligations.CalMoistureByCases := by
  unfold Obligations.CalMoistureByCases
  intro b s
  refine ⟨?pocket, ?refused⟩
  case pocket =>
    intro p hp
    rw [exec_calMoisture, reqCalMoisture_of_pocket hp]
    simp only [RunState.engaged_iff]
    rfl
  case refused =>
    intro hcode
    rw [exec_calMoisture, reqCalMoisture_refused]
    rw [pocketOf_isSome]
    omega

/-! ## What a part has gathered at its end (R117) -/

/-- A part with the period in progress at a count of `capture`: at 65,535 ticks it has ended and is counted. -/
def Calibration.closedAt (capture : Nat) (c : Calibration) : Calibration :=
  if capture = 65535 then c.add ⟨65535, false⟩ else c

theorem Calibration.closedAt_edges (capture : Nat) (c : Calibration) : (c.closedAt capture).edges = c.edges := by
  unfold Calibration.closedAt
  split <;> rfl

theorem Calibration.closedAt_ticks (capture : Nat) (c : Calibration) :
    (c.closedAt capture).ticks = if capture = 65535 then c.ticks + 65535 else c.ticks :=
  apply_ite Calibration.ticks ..

theorem Calibration.closedAt_rate (capture : Nat) (c : Calibration) :
    (c.closedAt capture).rate = 1000000 * c.edges / (if capture = 65535 then c.ticks + 65535 else c.ticks) := by
  rw [Calibration.rate, Calibration.closedAt_edges, Calibration.closedAt_ticks]

/-- At the end of a part the period at 65,535 ticks, and no other, leaves the capture and enters the part. -/
theorem Moisture.settled_eq {m : Moisture} {c : Calibration} (hcal : m.calibration = some c)
    (hcount : m.capture ≤ 65535) (openLimit : Nat) :
    m.settled openLimit =
      { m with capture := if m.capture = 65535 then 0 else m.capture, calibration := some (c.closedAt m.capture) } := by
  obtain ⟨hdue, h⟩ | ⟨hdue, h⟩ := m.settled_cases openLimit
  · have hfull : m.capture = 65535 := Nat.le_antisymm hcount (m.forcedDue_iff.mp hdue)
    rw [h, Moisture.endPeriod_of_calibration hcal, hfull]
    rfl
  · have hpartial : m.capture ≠ 65535 := fun hfull =>
      Bool.eq_false_iff.mp hdue (m.forcedDue_iff.mpr (Nat.le_of_eq hfull.symm))
    have hopen : c.closedAt m.capture = c := if_neg hpartial
    rw [h, hopen, if_neg hpartial, ← hcal]

/-- Where the periods counted and the one in progress fill the part's second, at most 65,534 ticks are left out. -/
theorem Calibration.closedAt_ticks_bounds {c : Calibration} {capture : Nat} (hsum : c.ticks + capture = 1000000)
    (hcount : capture ≤ 65535) :
    934466 ≤ (c.closedAt capture).ticks ∧ (c.closedAt capture).ticks ≤ 1000000 := by
  rw [Calibration.closedAt_ticks]
  split <;> omega

/-! ## The end of the first part (R117) -/

/-- Two changes of a pocket's part that agree on the part it has give the same state. -/
theorem State.onUnit_congr {s : State} {p : Pocket} {f g : PocketUnit → PocketUnit} (h : f (s.unit p) = g (s.unit p)) :
    s.onUnit p f = s.onUnit p g :=
  congrArg (s.setUnit p) h

theorem exec_calIsolatedPartEnd_of_due {p : Pocket} {c : Calibration} {s : State}
    (hcal : (s.unit p).moist.calibration = some c) (hpart : c.part = .isolated) (hend : 1000000 ≤ c.elapsed) :
    exec (.calIsolatedPartEnd p) s =
      .next (s.onUnit p fun u => { u with moist := (u.moist.settled s.supply.config.openLimit).endIsolated }) := by
  have hdue : c.isolatedDue = true := by simp [Calibration.isolatedDue, hpart, calPartLength, hend]
  change execCalIsolatedPartEnd p s = _
  simp only [execCalIsolatedPartEnd, hcal, hdue, if_true]

/-- The first part's end keeps the rate of the part closed at the count, and starts the second part. -/
theorem Moisture.endIsolated_settled {m : Moisture} {c : Calibration} (hcal : m.calibration = some c)
    (hcount : m.capture ≤ 65535) (openLimit : Nat) :
    (m.settled openLimit).endIsolated = m.startPart (.reference (c.closedAt m.capture).rate) := by
  rw [Moisture.settled_eq hcal hcount]
  rfl

theorem exec_calIsolatedPartEnd_startsReference {p : Pocket} {c : Calibration} {s : State}
    (hcal : (s.unit p).moist.calibration = some c) (hpart : c.part = .isolated) (hend : 1000000 ≤ c.elapsed)
    (hcount : (s.unit p).moist.capture ≤ 65535) :
    exec (.calIsolatedPartEnd p) s =
      .next (s.onUnit p fun u => { u with
        moist := u.moist.startPart (.reference (c.closedAt (s.unit p).moist.capture).rate) }) := by
  rw [exec_calIsolatedPartEnd_of_due hcal hpart hend]
  exact congrArg Host.Outcome.next (State.onUnit_congr (by rw [Moisture.endIsolated_settled hcal hcount]))

/-! ## The end of the second part (R118) -/

theorem exec_calComplete_of_due {p : Pocket} {c : Calibration} {g : Nat} {s : State}
    (hcal : (s.unit p).moist.calibration = some c) (hpart : c.part = .reference g) (hend : 1000000 ≤ c.elapsed) :
    exec (.calComplete p) s = .next (s.onUnit p (PocketUnit.endReference s.supply.config.openLimit g)) := by
  have hdue : c.referenceDue = some g := by simp [Calibration.referenceDue, hpart, calPartLength, hend]
  change execCalComplete p s = _
  simp only [execCalComplete, hcal, hdue]

theorem pairPasses_iff (g h : Nat) : pairPasses g h = true ↔ g + 100 ≤ h ∧ h ≤ 4000 := by
  simp [pairPasses]

/-- A pair that passes is put in force. -/
theorem PocketUnit.completeCal_of_pass {g h : Nat} (hpass : pairPasses g h = true) (u : PocketUnit) :
    u.completeCal g h =
      { u with moist := { u.moist with
          calibration := none, lastAttempt := some ⟨g, h, true⟩, gOpen := g, gRef := h, valid := true } }.raise .calDone := by
  simp only [PocketUnit.completeCal, hpass, if_true]

/-- A pair that fails leaves the calibration in force. -/
theorem PocketUnit.completeCal_of_fail {g h : Nat} (hfail : pairPasses g h = false) (u : PocketUnit) :
    u.completeCal g h =
      { u with moist := { u.moist with calibration := none, lastAttempt := some ⟨g, h, false⟩ } }.raise .calFail := by
  simp only [PocketUnit.completeCal, hfail, Bool.false_eq_true, if_false]

/-- A completion, whatever its verdict, ends the operation and leaves the estimate. -/
theorem PocketUnit.completeCal_keeps (g h : Nat) (u : PocketUnit) :
    (u.completeCal g h).moist.calibration = none ∧ (u.completeCal g h).moist.estimate = u.moist.estimate ∧
      (u.completeCal g h).seq = u.seq ∧ (u.completeCal g h).drum = u.drum ∧ (u.completeCal g h).faults = u.faults := by
  cases hpair : pairPasses g h with
  | true => simp [PocketUnit.completeCal_of_pass hpair]
  | false => simp [PocketUnit.completeCal_of_fail hpair]

/-- What the verdict on a measured pair sets. -/
theorem PocketUnit.completeCal_verdict (g h : Nat) (u : PocketUnit) :
    if g + 100 ≤ h ∧ h ≤ 4000 then
      (u.completeCal g h).moist.gOpen = g ∧ (u.completeCal g h).moist.gRef = h ∧
        (u.completeCal g h).moist.valid = true ∧
        (u.completeCal g h).moist.lastAttempt = some ⟨g, h, true⟩ ∧
        (u.completeCal g h).notices = u.notices.add .calDone
    else
      (u.completeCal g h).moist.gOpen = u.moist.gOpen ∧ (u.completeCal g h).moist.gRef = u.moist.gRef ∧
        (u.completeCal g h).moist.valid = u.moist.valid ∧
        (u.completeCal g h).moist.lastAttempt = some ⟨g, h, false⟩ ∧
        (u.completeCal g h).notices = u.notices.add .calFail := by
  split
  case isTrue hpass => simp [PocketUnit.completeCal_of_pass ((pairPasses_iff g h).mpr hpass)]
  case isFalse hfail =>
    have hpair : pairPasses g h = false := Bool.eq_false_iff.mpr fun hpair => hfail ((pairPasses_iff g h).mp hpair)
    simp [PocketUnit.completeCal_of_fail hpair]

/-- The second part's end completes the operation with the rate of the part closed at the count. -/
theorem PocketUnit.endReference_eq {u : PocketUnit} {c : Calibration} (hcal : u.moist.calibration = some c)
    (hcount : u.moist.capture ≤ 65535) (openLimit g : Nat) :
    u.endReference openLimit g =
      { u with moist := { u.moist with
          capture := if u.moist.capture = 65535 then 0 else u.moist.capture
          calibration := some (c.closedAt u.moist.capture) } }.completeCal g (c.closedAt u.moist.capture).rate := by
  rw [PocketUnit.endReference, Moisture.settled_eq hcal hcount]

theorem Moisture.lines_of_no_calibration {m : Moisture} (h : m.calibration = none) :
    m.lineA = false ∧ m.lineB = false := by
  simp [Moisture.lineA, Moisture.lineB, h]

theorem State.onUnit_sameElsewhere (s : State) (p : Pocket) (f : PocketUnit → PocketUnit) :
    s.SameElsewhere (s.onUnit p f) p := by
  simp [State.SameElsewhere]

/-- Settles O35: the first part's end, at 65,535 ticks and below it, the ticks gathered, and the second part's end. -/
theorem calibrationPartsEnd : Obligations.CalibrationPartsEnd := by
  unfold Obligations.CalibrationPartsEnd
  refine ⟨?firstAtFull, ?gathered, ?firstBelow, ?second⟩
  case firstAtFull =>
    intro p c s hcal hpart hend hfull
    rw [exec_calIsolatedPartEnd_startsReference hcal hpart hend (Nat.le_of_eq hfull), Calibration.closedAt_rate,
      if_pos hfull]
    rfl
  case gathered =>
    intro p c s hcal hend hsum hcount
    refine ⟨c.closedAt (s.unit p).moist.capture, ?_, Calibration.closedAt_edges _ _,
      Calibration.closedAt_ticks_bounds (hsum.trans hend) hcount⟩
    rw [Moisture.settled_eq hcal hcount]
  case firstBelow =>
    intro p c s hcal hpart hend hbelow
    rw [exec_calIsolatedPartEnd_startsReference hcal hpart hend (Nat.le_of_lt hbelow), Calibration.closedAt_rate,
      if_neg (Nat.ne_of_lt hbelow)]
    rfl
  case second =>
    intro p c g h s hcal hpart hend hcount hrate
    refine ⟨_, exec_calComplete_of_due hcal hpart hend, State.onUnit_sameElsewhere .., State.onUnit_pool ..,
      State.onUnit_link .., ?_⟩
    rw [← Calibration.closedAt_rate] at hrate
    rw [State.onUnit_unit, PocketUnit.endReference_eq hcal hcount, hrate]
    obtain ⟨hnone, hestimate, hseq, hdrum, hfaults⟩ := PocketUnit.completeCal_keeps g h _
    obtain ⟨hlineA, hlineB⟩ := Moisture.lines_of_no_calibration hnone
    exact ⟨hnone, hlineA, hlineB, hestimate, hseq, hdrum, hfaults, PocketUnit.completeCal_verdict g h _⟩

end Sys2Proof.Machine
end

section
/-! The requests to the Temperature Scan (chapter 7): SET_TEMP_CAL by its checks, and the layout of GET_TEMPS. -/

namespace Sys2Proof.Machine

/-! ## SET_TEMP_CAL (R148) -/

theorem exec_setTempCal (channel : Byte) (cLo tLo cHi tHi : Half) (s : State) :
    exec (.setTempCal channel cLo tLo cHi tHi) s = .next (reqSetTempCal channel cLo tLo cHi tHi s) := rfl

/-- The result of an accepted SET_TEMP_CAL: OK where every clamped field is as it was carried (R148). -/
theorem tempCal_result (cLo tLo cHi tHi : Half) :
    let k := tempCalOf cLo tLo cHi tHi
    (if tempCalClamped cLo tLo cHi tHi then ResultCode.okClamped else .ok) =
      if k.cLo = cLo.toNat ∧ k.tLo = tLo.toInt ∧ k.cHi = cHi.toNat ∧ k.tHi = tHi.toInt then .ok else .okClamped :=
  (clampResult_decide_ne _ _).trans
    (ite_congr (by simp only [tempCalOf, TempCal.mk.injEq]) (fun _ => rfl) (fun _ => rfl))

/-- The calibration a SET_TEMP_CAL carries, clamped, in the ranges of R148. -/
theorem tempCalOf_eq (cLo tLo cHi tHi : Half) :
    tempCalOf cLo tLo cHi tHi =
      { cLo := min 4095 cLo.toNat, tLo := max (-400) (min 2500 tLo.toInt), cHi := min 4095 cHi.toNat,
        tHi := max (-400) (min 2500 tHi.toInt) } := by
  simp [tempCalOf, clampNat, clampInt]

/-- SET_TEMP_CAL of a channel, in the order of its checks (R148). -/
theorem reqSetTempCal_of_channel {channel : Byte} {c : Channel} (hc : channelOf channel = some c) (cLo tLo cHi tHi : Half)
    (s : State) :
    let k := tempCalOf cLo tLo cHi tHi
    reqSetTempCal channel cLo tLo cHi tHi s =
      if k.cLo < k.cHi then
        ({ s with temps := s.temps.setChannel c { s.temps.channel c with cal := k, history := [] } } : State).reply 0x02
          (if k.cLo = cLo.toNat ∧ k.tLo = tLo.toInt ∧ k.cHi = cHi.toNat ∧ k.tHi = tHi.toInt then .ok else .okClamped) []
      else s.reply 0x02 .badRequest [] := by
  intro k
  rw [← tempCal_result, reqSetTempCal, hc]
  by_cases h : k.cLo < k.cHi
  · rw [if_pos h]
    exact if_neg (Nat.not_le.mpr h)
  · rw [if_neg h]
    exact if_pos (Nat.not_lt.mp h)

/-- SET_TEMP_CAL of a number above 4, which names no channel (R138, R148). -/
theorem reqSetTempCal_of_no_channel {channel : Byte} (h : 5 ≤ channel.toNat) (cLo tLo cHi tHi : Half) (s : State) :
    reqSetTempCal channel cLo tLo cHi tHi s = s.reply 0x02 .badRequest [] := by
  have hnone : channelOf channel = none := by
    unfold channelOf
    split <;> first | omega | rfl
  simp only [reqSetTempCal, hnone]

/-! ## GET_TEMPS (R149) -/

theorem exec_getTemps (s : State) : exec .getTemps s = .next (s.reply 0x22 .ok s.tempsData) := rfl

/-- The byte of the three marks (R209). -/
theorem bitsByte_three_toNat (a b c : Bool) :
    (bitsByte [a, b, c]).toNat = (if a then 1 else 0) + (if b then 2 else 0) + (if c then 4 else 0) := by
  revert a b c
  decide

/-- Settles O39: SET_TEMP_CAL of a channel and of no channel, then the reply of GET_TEMPS, channel by channel and the marks. -/
theorem temperatureRequestsByCases : Obligations.TemperatureRequestsByCases := by
  unfold Obligations.TemperatureRequestsByCases
  refine ⟨?setTempCal, ?getTemps⟩
  case setTempCal =>
    intro ch cLo tLo cHi tHi s k
    refine ⟨fun c hc => ?_, fun h => by rw [exec_setTempCal, reqSetTempCal_of_no_channel h]⟩
    rw [exec_setTempCal, reqSetTempCal_of_channel hc, tempCalOf_eq]
  case getTemps =>
    intro s
    refine ⟨s.tempsData, exec_getTemps s, rfl, fun c => ?_, ?_⟩
    · cases c <;> rfl
    · exact bitsByte_three_toNat _ _ _

end Sys2Proof.Machine
end

section
/-! What the steps of a pocket's sequencer leave reported: a notice that is set stays set, and the latches that such a step
can change of itself are CHAIN and LINK_LOST. -/

namespace Sys2Proof.Machine

/-- Whether notice `n` is set. -/
def NoticeSet.has (s : NoticeSet) : PocketNotice → Bool
  | .phaseEnd => s.phaseEnd
  | .held => s.held
  | .chainDone => s.chainDone
  | .tangleLimit => s.tangleLimit
  | .noDryness => s.noDryness
  | .calDone => s.calDone
  | .calFail => s.calFail
  | .faultLatched => s.faultLatched

/-- A raised notice is set, and no other has changed (R184). -/
@[simp] theorem NoticeSet.has_add (s : NoticeSet) (a n : PocketNotice) : (s.add a).has n = (decide (n = a) || s.has n) := by
  cases a <;> cases n <;> rfl

/-- Between `u` and `v` no notice has gone, and no latch but CHAIN and LINK_LOST has changed. -/
structure PocketUnit.KeepsReports (u v : PocketUnit) : Prop where
  notices : ∀ n : PocketNotice, u.notices.has n = true → v.notices.has n = true
  faults  : ∀ f : PocketFault, f ≠ .chain → f ≠ .linkLost → v.faults.has f = u.faults.has f

/-! ## Small steps -/

theorem PocketUnit.KeepsReports.of_eq {u v : PocketUnit} (hnotices : v.notices = u.notices) (hfaults : v.faults = u.faults) :
    u.KeepsReports v where
  notices n h := by rw [hnotices, h]
  faults f _ _ := by rw [hfaults]

theorem PocketUnit.KeepsReports.refl (u : PocketUnit) : u.KeepsReports u := .of_eq rfl rfl

theorem PocketUnit.KeepsReports.trans {u v w : PocketUnit} (h : u.KeepsReports v) (k : v.KeepsReports w) :
    u.KeepsReports w where
  notices n hn := k.notices n (h.notices n hn)
  faults f hc hl := (k.faults f hc hl).trans (h.faults f hc hl)

theorem PocketUnit.raise_keepsReports (n : PocketNotice) (u : PocketUnit) : u.KeepsReports (u.raise n) where
  notices m h := by simp [h]
  faults _ _ _ := rfl

theorem PocketUnit.checkHeat_keepsReports (u : PocketUnit) : u.KeepsReports u.checkHeat :=
  .of_eq u.checkHeat_notices u.checkHeat_faults

theorem PocketUnit.closePhase_keepsReports (o : PhaseOutcome) (u : PocketUnit) : u.KeepsReports (u.closePhase o) where
  notices n h := by
    rw [PocketUnit.closePhase_notices]
    split <;> simp [h]
  faults f _ _ := by rw [PocketUnit.closePhase_faults]

/-- A latch newly set raises FAULT_LATCHED (R176). -/
theorem PocketUnit.latch_notices (f : PocketFault) (u : PocketUnit) :
    (u.latch f).notices = if u.faults.has f then u.notices else u.notices.add .faultLatched := by
  unfold PocketUnit.latch
  split <;> rfl

/-- A latch drops no notice (R176). -/
theorem PocketUnit.latch_keeps_notice {f : PocketFault} {u : PocketUnit} {n : PocketNotice} (h : u.notices.has n = true) :
    (u.latch f).notices.has n = true := by
  rw [PocketUnit.latch_notices]
  split <;> simp [h]

theorem PocketUnit.latch_keepsReports {f : PocketFault} (hf : f = .chain ∨ f = .linkLost) (u : PocketUnit) :
    u.KeepsReports (u.latch f) where
  notices _ := PocketUnit.latch_keeps_notice
  faults g hc hl := by
    have hne : g ≠ f := by
      rintro rfl
      exact hf.elim hc hl
    rw [PocketUnit.latch_faults, FaultSet.has_put, if_neg hne]

/-! ## The drum: TANGLE_LIMIT may be raised -/

theorem PocketUnit.countUnwind_keepsReports (u : PocketUnit) : u.KeepsReports u.countUnwind := by
  unfold PocketUnit.countUnwind
  dsimp only
  split
  · exact { notices := fun n h => by simp [h], faults := fun _ _ _ => rfl }
  · exact .of_eq rfl rfl

theorem PocketUnit.trigger_keepsReports (k : TriggerKind) (u : PocketUnit) : u.KeepsReports (u.trigger k) := by
  unfold PocketUnit.trigger
  split
  · unfold PocketUnit.insertUnwind
    refine .trans (v := PocketUnit.countUnwind _) (.trans ?_ (PocketUnit.countUnwind_keepsReports _)) (.of_eq rfl rfl)
    exact .of_eq rfl rfl
  · exact .refl u

theorem PocketUnit.twistCheck_keepsReports (u : PocketUnit) : u.KeepsReports u.twistCheck := by
  unfold PocketUnit.twistCheck
  split
  · exact u.trigger_keepsReports .twist
  · exact .refl u

theorem PocketUnit.beginRun_keepsReports (cycles : Nat) (dir : Dir) (speed : Nat) (u : PocketUnit) :
    u.KeepsReports (u.beginRun cycles dir speed) := by
  unfold PocketUnit.beginRun
  split <;> exact .of_eq rfl rfl

namespace PocketUnit.KeepsReports

variable {u w : PocketUnit} {v : PocketView}

theorem beginEntry (h : u.KeepsReports w) (cycles : Nat) : u.KeepsReports (w.beginEntry cycles) := by
  unfold PocketUnit.beginEntry
  split
  · exact h
  · split
    · exact h.trans (.of_eq rfl rfl)
    · exact h.trans (.trans (w.beginRun_keepsReports ..) (PocketUnit.twistCheck_keepsReports _))

theorem holdDrum (h : u.KeepsReports w) (cycles : Nat) : u.KeepsReports (w.holdDrum cycles) := by
  unfold PocketUnit.holdDrum
  split
  · unfold PocketUnit.endUnwind PocketUnit.nextEntry
    refine beginEntry ?_ cycles
    exact h.trans (.of_eq rfl rfl)
  · exact h

/-! ## Activations: NO_DRYNESS may be raised -/

theorem takeWork (h : u.KeepsReports w) (i : SlotNo) (r : PhaseRecord) : u.KeepsReports (w.takeWork i r) := by
  have hwork : u.KeepsReports
      { w with seq := { w.seq with work := workFrom i r w.seq.profile w.moist.valid } } := h.trans (.of_eq rfl rfl)
  unfold PocketUnit.takeWork
  dsimp only
  split
  · exact hwork.trans (PocketUnit.raise_keepsReports .noDryness _)
  · exact hwork

theorem handRunning (h : u.KeepsReports w) (cycles : Nat) (first last : EntryNo) :
    u.KeepsReports (w.handRunning cycles first last) := by
  unfold PocketUnit.handRunning
  refine beginEntry ?_ cycles
  exact h.trans (.of_eq rfl rfl)

theorem completeActivation (h : u.KeepsReports w) (cycles : Nat) (i : SlotNo) :
    u.KeepsReports (w.completeActivation cycles i) := by
  unfold PocketUnit.completeActivation
  refine handRunning ?_ cycles _ _
  exact h.trans (.of_eq rfl rfl)

theorem enterSlot (h : u.KeepsReports v.unit) (env : Env) (i : SlotNo) (r : PhaseRecord) :
    u.KeepsReports (v.enterSlot env i r).unit :=
  (h.takeWork i r).completeActivation env.reserveCycles i

theorem vacate (h : u.KeepsReports v.unit) (env : Env) (i : SlotNo) : u.KeepsReports (v.vacate env i).unit := by
  rw [PocketView.vacate_unit, PocketView.release_unit]
  exact h.trans (.of_eq rfl rfl)

theorem activate (h : u.KeepsReports v.unit) (env : Env) (i : SlotNo) : u.KeepsReports (v.activate env i).1.unit := by
  obtain ⟨r, -, ha⟩ | ⟨e, -, ha⟩ := v.activate_cases env i <;> rw [ha]
  · exact enterSlot (h.vacate env i) env i r
  · exact h.vacate env i

/-! ## Entries into run states -/

theorem checkHeat (h : u.KeepsReports w) : u.KeepsReports w.checkHeat := h.trans w.checkHeat_keepsReports

theorem enterHalted (h : u.KeepsReports v.unit) (env : Env) : u.KeepsReports (v.enterHalted env).unit := by
  obtain ⟨-, -, -, -, hfaults, hnotices, -⟩ := v.enterHalted_does env
  exact h.trans (.of_eq hnotices hfaults)

theorem enterDone (h : u.KeepsReports v.unit) (env : Env) : u.KeepsReports (v.enterDone env).unit := by
  obtain ⟨-, -, -, -, hfaults, hnotices, -⟩ := v.enterDone_does env
  exact (h.trans (v.unit.raise_keepsReports .chainDone)).trans (.of_eq hnotices hfaults)

theorem latch (h : u.KeepsReports w) {f : PocketFault} (hf : f = .chain ∨ f = .linkLost) : u.KeepsReports (w.latch f) :=
  h.trans (w.latch_keepsReports hf)

theorem chainHalt (h : u.KeepsReports v.unit) (env : Env) : u.KeepsReports (v.chainHalt env).unit :=
  enterHalted (v := v.onUnit _) (h.latch (.inl rfl)) env

theorem becomeSafe (h : u.KeepsReports w) : u.KeepsReports w.becomeSafe := by
  unfold PocketUnit.becomeSafe
  refine checkHeat ?_
  exact h.trans (.of_eq rfl rfl)

theorem enterSafe (h : u.KeepsReports v.unit) (env : Env) : u.KeepsReports (v.enterSafe env).unit := by
  have hquals : u.KeepsReports (v.onUnit PocketUnit.clearQuals).unit := h.trans (.of_eq rfl rfl)
  unfold PocketView.enterSafe
  dsimp only
  split
  · exact hquals.chainHalt env
  · rename_i a _
    have hact := hquals.activate env a
    split <;> rename_i ha <;> rw [ha] at hact
    · exact becomeSafe hact
    · exact hact.chainHalt env

theorem closePhase (h : u.KeepsReports w) (o : PhaseOutcome) : u.KeepsReports (w.closePhase o) :=
  h.trans (w.closePhase_keepsReports o)

theorem orderSafe (h : u.KeepsReports v.unit) (env : Env) : u.KeepsReports (v.orderSafe env).unit := by
  have hclose : u.KeepsReports (v.onUnit (PocketUnit.closePhase .faulted)).unit := h.closePhase .faulted
  unfold PocketView.orderSafe
  split
  case h_3 =>
    split
    · exact hclose.trans (.of_eq rfl rfl)
    · exact h
  case h_1 | h_2 => exact hclose.enterSafe env
  all_goals exact h

/-- The response to OVERHEAT, SENSOR or LINK_LOST is an order to enter SAFE or nothing (R177). -/
theorem respond (h : u.KeepsReports v.unit) (env : Env) {f : PocketFault}
    (hf : f = .overheat ∨ f = .sensor ∨ f = .linkLost) : u.KeepsReports (v.respond env f).unit := by
  have horder := h.orderSafe env
  rcases hf with rfl | rfl | rfl <;> simp only [PocketView.respond]
  case inr.inr =>
    split
    case h_3 => exact horder.trans (.of_eq rfl rfl)
    case h_1 | h_2 => exact horder
    all_goals exact h
  all_goals
    split
    case h_1 | h_2 | h_3 => exact horder
    all_goals exact h

theorem reportLinkLost (h : u.KeepsReports v.unit) (env : Env) : u.KeepsReports (v.report env .linkLost).unit := by
  obtain ⟨-, hrep⟩ | ⟨-, -, -, hrep⟩ | ⟨-, -, hrep⟩ := v.report_cases env .linkLost <;> rw [hrep]
  · exact checkHeat (respond (v := v.onUnit _) (h.latch (.inr rfl)) env (.inr (.inr rfl)))
  · exact checkHeat ((h.orderSafe env).trans (.of_eq rfl rfl))
  · exact h.checkHeat

theorem become (h : u.KeepsReports v.unit) (env : Env) (st : RunState) : u.KeepsReports (v.become env st).unit := by
  have hrun : u.KeepsReports
      (v.onUnit fun w => PocketUnit.checkHeat { w with seq := { w.seq with run := st } }).unit :=
    checkHeat (h.trans (.of_eq rfl rfl))
  unfold PocketView.become PocketView.reportOnEntry
  split
  · exact hrun.reportLinkLost env
  · exact hrun

theorem advance (h : u.KeepsReports v.unit) (env : Env) : u.KeepsReports (v.advance env).unit := by
  have hquals : u.KeepsReports (v.onUnit PocketUnit.clearQuals).unit := h.trans (.of_eq rfl rfl)
  unfold PocketView.advance
  dsimp only
  split
  · exact hquals.enterDone env
  · rename_i i _
    have hact := hquals.activate env i
    split <;> rename_i ha <;> rw [ha] at hact <;> split
    · exact hact.become env .safe
    · exact hact.become env .running
    · exact hact.chainHalt env
    · exact enterSafe (v := PocketView.onUnit _ _) (hact.latch (.inl rfl)) env

theorem enterHeld (h : u.KeepsReports v.unit) (env : Env) : u.KeepsReports (v.enterHeld env).unit := by
  have hheld := (h.holdDrum env.reserveCycles).trans (PocketUnit.raise_keepsReports .held _)
  unfold PocketView.enterHeld
  refine become ?_ env .held
  exact hheld.trans (.of_eq rfl rfl)

/-- The end of a phase drops no notice and latches nothing but CHAIN and LINK_LOST (R33 to R35, R203). -/
theorem endPhase (h : u.KeepsReports v.unit) (env : Env) (o : PhaseOutcome) : u.KeepsReports (v.endPhase env o).unit := by
  have hclose : u.KeepsReports (v.onUnit (PocketUnit.closePhase o)).unit := h.closePhase o
  obtain ⟨-, -, -, hend⟩ | ⟨-, hend⟩ := v.endPhase_cases env o <;> rw [hend]
  · exact hclose.enterHeld env
  · exact hclose.advance env

end PocketUnit.KeepsReports

end Sys2Proof.Machine
end

section
/-! What an entry into SAFE and an advance leave, by whether the activations they make pass their checks, and the statements'
predicates on them: `State.EnteredSafe` and `State.AdvancedTo`. -/

namespace Sys2Proof.Machine

/-! ## What the check of an activation sees -/

/-- Two views with the same pool, active slot, drum and racing write, which is all that an activation's check reads. -/
structure PocketView.ChecksAs (v w : PocketView) : Prop where
  pool   : w.pool = v.pool
  raced  : w.raced = v.raced
  active : w.unit.seq.work.active = v.unit.seq.work.active
  drum   : w.unit.drum = v.unit.drum

/-- The check reads the pool and the drum alone (R14). -/
theorem PocketView.check_congr {v w : PocketView} (hpool : w.pool = v.pool) (hdrum : w.unit.drum = v.unit.drum) (i : SlotNo) :
    w.check i = v.check i := by
  simp only [PocketView.check, hpool, hdrum]

/-- A release changes the pool by the active slot alone (R22). -/
theorem PocketView.release_pool_congr {v w : PocketView} (h : v.ChecksAs w) (p : Pocket) :
    (w.release p).pool = (v.release p).pool := by
  unfold PocketView.release
  rw [h.active, h.pool]
  cases v.unit.seq.work.active <;> simp only [h.pool]

theorem PocketView.ChecksAs.vacate_check {v w : PocketView} (h : v.ChecksAs w) (env : Env) (i j : SlotNo) :
    (w.vacate env i).check j = (v.vacate env i).check j := by
  have hrelease := PocketView.release_pool_congr h env.pocket
  refine PocketView.check_congr ?_ (by simp [h.drum]) j
  unfold PocketView.vacate
  dsimp only
  cases env.racing with
  | none => exact hrelease
  | some x =>
    dsimp only
    rw [h.active, h.raced]
    split
    · simp only [hrelease]
    · exact hrelease

/-- A pocket without an active slot has nothing to release, and no write races with its activation (R20, entry 23). -/
theorem PocketView.vacate_of_inactive {v : PocketView} (h : v.unit.seq.work.active = none) (env : Env) (i : SlotNo) :
    v.vacate env i = v := by
  have hrelease : v.release env.pocket = v := by simp only [PocketView.release, h]
  rcases v.vacate_cases env i with hvacate | ⟨x, -, ha, -⟩
  · rw [hvacate, hrelease]
  · rw [h] at ha
    cases ha

/-! ## Small facts -/

/-- The newest entry is still in the history after a push (R58). -/
theorem mem_pushHistory_of_getLast? {h : List Checkpoint} {c : Checkpoint} (hc : h.getLast? = some c) (d : Checkpoint) :
    c ∈ pushHistory h d := by
  obtain ⟨ys, rfl⟩ := List.getLast?_eq_some_iff.mp hc
  unfold pushHistory
  split
  · rename_i hlen
    cases ys with
    | nil => simp at hlen
    | cons y ys => simp
  · simp

@[simp] theorem PocketUnit.checkHeat_checkHeat (u : PocketUnit) : u.checkHeat.checkHeat = u.checkHeat := by
  by_cases h : u.hasPermission = true
  · simp [PocketUnit.checkHeat, h]
  · have hv : ({ u with heat := u.heat.withdrawn } : PocketUnit).hasPermission = false := by
      simpa [PocketUnit.hasPermission] using h
    have hu : u.checkHeat = { u with heat := u.heat.withdrawn } := if_neg h
    rw [hu]
    exact if_neg (by simp [hv])

/-- Heat that is off stays off (R158). -/
theorem PocketUnit.checkHeat_keeps_isOff {u : PocketUnit} (h : u.heat.IsOff) : u.checkHeat.heat.IsOff := by
  rw [PocketUnit.checkHeat_heat]
  split
  · exact h
  · exact PocketHeat.withdrawn_isOff _

/-- A latch newly set raises FAULT_LATCHED (R176). -/
theorem PocketUnit.latch_raises {f : PocketFault} {u : PocketUnit} (h : u.faults.has f = false) :
    (u.latch f).notices.faultLatched = true := by
  rw [PocketUnit.latch_notices, h]
  rfl

@[simp] theorem FaultSet.put_put (fs : FaultSet) (f : PocketFault) (a b : Bool) : (fs.put f a).put f b = fs.put f b := by
  cases f <;> rfl

/-- The twist counter after a discard is as before (R97). -/
theorem Drum.discard_twist (d : Drum) : d.discard.twist = d.twist := by
  obtain ⟨⟨-, -, -, -, -, -, htwist⟩, -⟩ := d.discard_stops
  exact htwist

/-! ## CHAIN and HALTED -/

/-- What CHAIN latched and the pocket halted leave, in the terms of the statements (R47, R51, R178). -/
structure PocketView.ChainHalted (v w : PocketView) : Prop where
  run       : w.unit.seq.run = .halted
  safeBegun : w.unit.seq.safeBegun = false
  active    : w.unit.seq.work.active = none
  fanRunOn  : w.unit.seq.fanRunOn = 120
  history   : w.unit.seq.history = v.unit.seq.history
  drum      : w.unit.drum = v.unit.drum.discard
  faults    : w.unit.faults = v.unit.faults.put .chain true
  notice    : v.unit.faults.chain = false → w.unit.notices.faultLatched = true
  heat      : w.unit.heat.IsOff

theorem PocketView.chainHalt_halts (env : Env) (v : PocketView) : v.ChainHalted (v.chainHalt env) := by
  obtain ⟨hseq, hdrum, hfaults, -, hheat⟩ := v.chainHalt_does env
  obtain ⟨-, -, -, -, -, hnotices, -⟩ := PocketView.enterHalted_does env (v.onUnit (PocketUnit.latch .chain))
  refine ⟨?_, ?_, ?_, ?_, ?_, hdrum, hfaults, fun h => ?_, hheat⟩
  case refine_6 =>
    rw [PocketView.chainHalt, hnotices]
    exact PocketUnit.latch_raises h
  all_goals rw [hseq]

/-! ## Entry into SAFE (R47) -/

section EntryIntoSafe

variable {env : Env} {a : SlotNo} {v : PocketView}

/-- The qualifiers are no part of what an activation's check sees. -/
theorem PocketView.checksAs_clearQuals (v : PocketView) : v.ChecksAs (v.onUnit PocketUnit.clearQuals) := ⟨rfl, rfl, rfl, rfl⟩

/-- Entry into SAFE at an anchor whose activation passes. -/
theorem PocketView.enterSafe_of_check {r : PhaseRecord} (ha : v.unit.seq.anchor = some a)
    (hcheck : (v.vacate env a).check a = .ok r) :
    v.enterSafe env =
      (((v.onUnit PocketUnit.clearQuals).vacate env a).enterSlot env a r).onUnit PocketUnit.becomeSafe := by
  have hanchor : (v.onUnit PocketUnit.clearQuals).unit.seq.anchor = some a := ha
  rw [← v.checksAs_clearQuals.vacate_check env a a] at hcheck
  simp only [PocketView.enterSafe, hanchor, PocketView.activate_of_check hcheck]

/-- Entry into SAFE with no anchor, or at one whose activation fails, halts the pocket with CHAIN latched. -/
theorem PocketView.enterSafe_halts
    (h : v.unit.seq.anchor = none ∨ ∃ a e, v.unit.seq.anchor = some a ∧ (v.vacate env a).check a = .error e) :
    v.ChainHalted (v.enterSafe env) := by
  rcases h with hnone | ⟨a, e, ha, hcheck⟩
  · have hanchor : (v.onUnit PocketUnit.clearQuals).unit.seq.anchor = none := hnone
    simp only [PocketView.enterSafe, hanchor]
    obtain ⟨⟩ := PocketView.chainHalt_halts env (v.onUnit PocketUnit.clearQuals)
    constructor <;> assumption
  · have hanchor : (v.onUnit PocketUnit.clearQuals).unit.seq.anchor = some a := ha
    rw [← v.checksAs_clearQuals.vacate_check env a a] at hcheck
    simp only [PocketView.enterSafe, hanchor, PocketView.activate_of_check_fails hcheck]
    have hvacate : ((v.onUnit PocketUnit.clearQuals).vacate env a).unit =
        { (PocketUnit.clearQuals v.unit) with
          seq := { (PocketUnit.clearQuals v.unit).seq with
            work := { (PocketUnit.clearQuals v.unit).seq.work with active := none } } } := by simp
    obtain ⟨hrun, hsafe, hactive, hfan, hhistory, hdrum, hfaults, hnotice, hheat⟩ :=
      PocketView.chainHalt_halts env ((v.onUnit PocketUnit.clearQuals).vacate env a)
    rw [hvacate] at hhistory hdrum hfaults hnotice
    exact ⟨hrun, hsafe, hactive, hfan, hhistory, hdrum, hfaults, hnotice, hheat⟩

/-- What an entry into SAFE leaves whose anchor's activation passes, in the terms of the statements. -/
theorem PocketView.enterSafe_passes {r : PhaseRecord} (ha : v.unit.seq.anchor = some a)
    (hcheck : (v.vacate env a).check a = .ok r) :
    let w := v.enterSafe env
    w.unit.seq.run = .safe ∧ w.unit.seq.safeBegun = true ∧ w.unit.seq.work.active = some a ∧
      w.pool[a] = .active env.pocket r ∧ w.unit.faults = v.unit.faults ∧ w.unit.drum.twist = v.unit.drum.twist ∧
      w.unit.heat.IsOff ∧ ∀ c, v.unit.seq.newest = some c → c ∈ w.unit.seq.history := by
  dsimp only
  rw [PocketView.enterSafe_of_check ha hcheck]
  obtain ⟨hpool, -, hseq, -, -, hfaults, -, -, -, htwist, -⟩ :=
    PocketView.enterSlot_does env a r ((v.onUnit PocketUnit.clearQuals).vacate env a)
  refine ⟨?_, ?_, ?_, hpool, ?_, ?_, ?_, fun c hc => ?_⟩
  case refine_6 => exact PocketUnit.checkHeat_isOff (PocketUnit.hasPermission_of_not_running (by simp))
  all_goals simp [PocketUnit.becomeSafe, hseq, hfaults, htwist, PocketUnit.clearQuals, workFrom]
  exact mem_pushHistory_of_getLast? hc _

/-- The anchor's activation passes its check, or there is no anchor or it fails (R47). -/
theorem PocketView.anchor_cases (env : Env) (v : PocketView) :
    (∃ a r, v.unit.seq.anchor = some a ∧ (v.vacate env a).check a = .ok r) ∨
      (v.unit.seq.anchor = none ∨ ∃ a e, v.unit.seq.anchor = some a ∧ (v.vacate env a).check a = .error e) := by
  rcases ha : v.unit.seq.anchor with _ | a
  · exact .inr (.inl rfl)
  · rcases hr : (v.vacate env a).check a with e | r
    · exact .inr (.inr ⟨a, e, rfl, hr⟩)
    · exact .inl ⟨a, r, rfl, hr⟩

/-- Entry into SAFE keeps the newest checkpoint in the history, and as the newest where the pocket halts (R47, R58). -/
theorem PocketView.enterSafe_history {c : Checkpoint} (hc : v.unit.seq.newest = some c) :
    c ∈ (v.enterSafe env).unit.seq.history ∧
      ((v.enterSafe env).unit.seq.run = .halted → (v.enterSafe env).unit.seq.newest = some c) := by
  rcases v.anchor_cases env with ⟨a, r, ha, hr⟩ | hfails
  · obtain ⟨hrun, -, -, -, -, -, -, hhistory⟩ := PocketView.enterSafe_passes ha hr
    exact ⟨hhistory c hc, fun h => absurd (hrun.symm.trans h) (by decide)⟩
  · have hnewest : (v.enterSafe env).unit.seq.newest = some c := by
      rw [Sequencer.newest, (PocketView.enterSafe_halts hfails).history]
      exact hc
    exact ⟨List.mem_of_getLast? hnewest, fun _ => hnewest⟩

/-- Entry into SAFE ends with the test of the heat permission (R158). -/
theorem PocketView.enterSafe_checkHeat (env : Env) (v : PocketView) :
    (v.enterSafe env).onUnit PocketUnit.checkHeat = v.enterSafe env := by
  have halted (x : PocketView) : (x.chainHalt env).onUnit PocketUnit.checkHeat = x.chainHalt env := by
    simp [PocketView.chainHalt, PocketView.enterHalted, PocketView.onUnit]
  unfold PocketView.enterSafe
  dsimp only
  split
  · exact halted _
  · split
    · simp [PocketUnit.becomeSafe, PocketView.onUnit]
    · exact halted _

/-- Entry into SAFE ends in SAFE or in HALTED. -/
theorem PocketView.enterSafe_run (env : Env) (v : PocketView) :
    (v.enterSafe env).unit.seq.run = .safe ∨ (v.enterSafe env).unit.seq.run = .halted := by
  rcases v.enterSafe_cases env with ⟨-, -, -, -, -, hrun, -⟩ | ⟨hrun, -⟩
  · exact .inl hrun
  · exact .inr hrun

end EntryIntoSafe

/-- A pocket that entered SAFE from a view that its state `s` gives, but for what was latched and closed before (R47). -/
theorem State.enteredSafe_of_enterSafe {s t : State} {p : Pocket} {env : Env} {v : PocketView} (henv : env.pocket = p)
    (hv : (s.view p).ChecksAs v) (hanchor : v.unit.seq.anchor = (s.unit p).seq.anchor)
    (hpool : t.pool = (v.enterSafe env).pool) (hunit : t.unit p = (v.enterSafe env).unit) :
    s.EnteredSafe t p env v.unit.faults := by
  have hcheck (a : SlotNo) : ((s.view p).vacate env a).check a = (v.vacate env a).check a := (hv.vacate_check env a a).symm
  have hdrum : v.unit.drum = (s.unit p).drum := hv.drum
  have hpasses {a : SlotNo} {r : PhaseRecord} (ha : (s.unit p).seq.anchor = some a)
      (hr : ((s.view p).vacate env a).check a = .ok r) :=
    PocketView.enterSafe_passes (v := v) (env := env) (hanchor.trans ha) ((hcheck a).symm.trans hr)
  have hhalts (h : (s.unit p).seq.anchor = none ∨
      ∃ a e, (s.unit p).seq.anchor = some a ∧ ((s.view p).vacate env a).check a = .error e) :
      v.ChainHalted (v.enterSafe env) := by
    refine PocketView.enterSafe_halts ?_
    rw [hanchor]
    simpa only [hcheck] using h
  have hheatTwist : (v.enterSafe env).unit.heat.IsOff ∧ (v.enterSafe env).unit.drum.twist = (s.unit p).drum.twist := by
    rw [← hdrum]
    rcases v.anchor_cases env with ⟨a, r, ha, hr⟩ | hfails
    · obtain ⟨-, -, -, -, -, htwist, hheat, -⟩ := PocketView.enterSafe_passes ha hr
      exact ⟨hheat, htwist⟩
    · have h := PocketView.enterSafe_halts hfails
      exact ⟨h.heat, by rw [h.drum, Drum.discard_twist]⟩
  unfold State.EnteredSafe
  dsimp only
  rw [hpool, hunit]
  refine ⟨hheatTwist.1, hheatTwist.2, fun a r ha hr => ?_, fun h => ?_⟩
  · obtain ⟨hrun, hsafe, hactive, hslot, hfaults, -⟩ := hpasses ha hr
    exact ⟨hrun, hsafe, hactive, by rw [hslot, henv], hfaults⟩
  · have h := hhalts h
    exact ⟨h.run, h.safeBegun, h.active, h.fanRunOn, by rw [h.drum, hdrum]; exact (Drum.discard_stops _).1, h.faults,
      h.notice⟩

end Sys2Proof.Machine
end

section
/-! A report of OVERHEAT or SENSOR to a pocket (R176, R177): what it does in each run state, and the statements' predicate
`State.SafeOrderReported` of it. -/

namespace Sys2Proof.Machine

/-- The two faults whose response is an order to enter SAFE in every state of a chain, PAUSED included (R177). -/
def PocketFault.OrdersSafe (f : PocketFault) : Prop := f = .overheat ∨ f = .sensor

theorem PocketFault.ordersSafe_overheat : PocketFault.overheat.OrdersSafe := .inl rfl

theorem PocketFault.ordersSafe_sensor : PocketFault.sensor.OrdersSafe := .inr rfl

theorem PocketFault.OrdersSafe.ne_chain {f : PocketFault} (hf : f.OrdersSafe) : f ≠ .chain := by
  rcases hf with rfl | rfl <;> decide

theorem PocketFault.OrdersSafe.ne_linkLost {f : PocketFault} (hf : f.OrdersSafe) : f ≠ .linkLost := by
  rcases hf with rfl | rfl <;> decide

section Report

variable {env : Env} {f : PocketFault} {v : PocketView}

/-- A pocket with OVERHEAT or SENSOR latched has no heat permission (R157). -/
theorem PocketUnit.hasPermission_of_latched {u : PocketUnit} (hf : f.OrdersSafe) (h : u.faults.has f = true) :
    u.hasPermission = false := by
  rcases hf with rfl | rfl <;> simp_all [FaultSet.has, PocketUnit.hasPermission]

theorem PocketView.respond_eq (hf : f.OrdersSafe) (env : Env) (v : PocketView) :
    v.respond env f =
      match v.unit.seq.run with
      | .running | .held | .paused => v.orderSafe env
      | .idle | .safe | .halted | .done => v := by
  rcases hf with rfl | rfl <;> rfl

/-- A report of a fault that is latched changes nothing but heat without permission (R176). -/
theorem PocketView.report_of_latched (hf : f.OrdersSafe) (h : v.unit.faults.has f = true) :
    v.report env f = v.onUnit PocketUnit.checkHeat := by
  rcases v.report_cases env f with ⟨hnot, -⟩ | ⟨-, rfl, -⟩ | ⟨-, -, hrep⟩
  · rw [h] at hnot
    cases hnot
  · exact absurd rfl hf.ne_linkLost
  · exact hrep

/-- A report of a fault that is not latched latches it and responds (R176). -/
theorem PocketView.report_of_new (h : v.unit.faults.has f = false) :
    v.report env f = (PocketView.respond env f (v.onUnit (PocketUnit.latch f))).onUnit PocketUnit.checkHeat := by
  rcases v.report_cases env f with ⟨-, hrep⟩ | ⟨hlatched, -⟩ | ⟨hlatched, -⟩
  · exact hrep
  all_goals
    rw [h] at hlatched
    cases hlatched

/-- A RUNNING or HELD pocket closes its phase and enters SAFE (R49, R177). -/
theorem PocketView.report_entersSafe (hf : f.OrdersSafe) (h : v.unit.faults.has f = false)
    (hrun : v.unit.seq.run = .running ∨ v.unit.seq.run = .held) :
    v.report env f =
      PocketView.enterSafe env ((v.onUnit (PocketUnit.latch f)).onUnit (PocketUnit.closePhase .faulted)) := by
  rw [PocketView.report_of_new h, ← PocketView.enterSafe_checkHeat, PocketView.respond_eq hf]
  rcases hrun with hrun | hrun <;> simp [PocketView.orderSafe, hrun]

/-- A PAUSED pocket with resume target RUNNING closes its phase and is turned to SAFE (R49, R177). -/
theorem PocketView.report_retargets (hf : f.OrdersSafe) (h : v.unit.faults.has f = false)
    (hrun : v.unit.seq.run = .paused) (htarget : v.unit.seq.resumeTarget = .running) :
    v.report env f = v.onUnit fun u => ((u.latch f).retargetSafe .faulted).checkHeat := by
  rw [PocketView.report_of_new h, PocketView.respond_eq hf]
  simp [PocketView.orderSafe, hrun, htarget, PocketView.onUnit]

/-- Any other pocket runs on (R49, R177). -/
theorem PocketView.report_runsOn (hf : f.OrdersSafe) (h : v.unit.faults.has f = false)
    (hrun : v.unit.seq.run.engaged = false ∨ v.unit.seq.run = .safe ∨
      (v.unit.seq.run = .paused ∧ v.unit.seq.resumeTarget = .safe)) :
    v.report env f = v.onUnit fun u => (u.latch f).checkHeat := by
  rw [PocketView.report_of_new h, PocketView.respond_eq hf]
  cases hr : v.unit.seq.run <;> simp [hr, RunState.engaged] at hrun
  case paused => simp [PocketView.orderSafe, hr, hrun, PocketView.onUnit]
  all_goals simp [hr, PocketView.onUnit]

/-- After a report the fault is latched and heat is off (R158, R176). -/
theorem PocketView.report_latches (hf : f.OrdersSafe) (env : Env) (v : PocketView) :
    (v.report env f).unit.faults.has f = true ∧ (v.report env f).unit.heat.IsOff := by
  suffices hlatched : ∃ w : PocketUnit, (v.report env f).unit = w.checkHeat ∧ w.faults.has f = true by
    obtain ⟨w, heq, hw⟩ := hlatched
    rw [heq, PocketUnit.checkHeat_faults]
    exact ⟨hw, PocketUnit.checkHeat_isOff (PocketUnit.hasPermission_of_latched hf hw)⟩
  by_cases h : v.unit.faults.has f = true
  · exact ⟨v.unit, by rw [PocketView.report_of_latched hf h, PocketView.onUnit_unit], h⟩
  · rw [Bool.not_eq_true] at h
    refine ⟨_, by rw [PocketView.report_of_new h, PocketView.onUnit_unit], ?_⟩
    have hkeeps := PocketUnit.KeepsReports.respond (.refl (v.onUnit (PocketUnit.latch f)).unit) env (hf.imp_right .inl)
    rw [hkeeps.faults f hf.ne_chain hf.ne_linkLost]
    simp [PocketUnit.latch_faults]

/-- A report of a fault newly latched raises FAULT_LATCHED (R176). -/
theorem PocketView.report_raises (hf : f.OrdersSafe) (h : v.unit.faults.has f = false) (env : Env) :
    (v.report env f).unit.notices.faultLatched = true := by
  rw [PocketView.report_of_new h]
  have hkeeps := PocketUnit.KeepsReports.respond (.refl (v.onUnit (PocketUnit.latch f)).unit) env (hf.imp_right .inl)
  exact hkeeps.checkHeat.notices .faultLatched (PocketUnit.latch_raises h)

end Report

/-! ## The statements' predicate -/

/-- A phase that is open or held is closed by any outcome (R33). -/
theorem Sequencer.closable_of_newest {q : Sequencer} {c : Checkpoint} (hc : q.newest = some c)
    (h : c.outcome = none ∨ q.run = .held ∨ (q.run = .paused ∧ q.held = true)) : q.closable = true := by
  rcases h with h | h | ⟨h, hh⟩
  · simp [Sequencer.closable, Sequencer.phaseOpen, hc, h]
  · simp [Sequencer.closable, Sequencer.phaseHeld, h]
  · simp [Sequencer.closable, Sequencer.phaseHeld, h, hh]

/-- A close writes its outcome into the newest checkpoint and raises PHASE_END (R33). -/
theorem PocketUnit.closePhase_closes {u : PocketUnit} {c : Checkpoint} (hc : u.seq.newest = some c)
    (hclose : u.seq.closable = true) (o : PhaseOutcome) :
    (u.closePhase o).seq.newest = some { c with outcome := some o } ∧ (u.closePhase o).notices.has .phaseEnd = true := by
  refine ⟨?_, ?_⟩
  · rw [PocketUnit.closePhase_seq, if_pos hclose]
    exact setOutcome_getLast? hc _
  · rw [PocketUnit.closePhase_notices, if_pos hclose]
    rfl

section Reported

variable {s : State} {p : Pocket} {f : PocketFault}

/-- The order to enter SAFE from RUNNING or HELD. -/
theorem State.faultedIntoSafe_of_report {t : State} {env : Env} {c : Checkpoint} (hf : f.OrdersSafe) (henv : env.pocket = p)
    (hnew : (s.unit p).faults.has f = false) (hrun : (s.unit p).seq.run = .running ∨ (s.unit p).seq.run = .held)
    (hc : (s.unit p).seq.newest = some c) (hopen : c.outcome = none ∨ (s.unit p).seq.run = .held)
    (hpool : t.pool = ((s.view p).report env f).pool) (hunit : t.unit p = ((s.view p).report env f).unit) :
    s.FaultedIntoSafe t p env c ((s.unit p).faults.put f true) := by
  let v := ((s.view p).onUnit (PocketUnit.latch f)).onUnit (PocketUnit.closePhase .faulted)
  rw [PocketView.report_entersSafe hf hnew hrun] at hpool hunit
  have hclosable : ((s.unit p).latch f).seq.closable = true := by
    rw [PocketUnit.latch_seq]
    exact Sequencer.closable_of_newest hc (hopen.imp_right .inl)
  obtain ⟨hnewest, hend⟩ := PocketUnit.closePhase_closes (u := (s.unit p).latch f) (by rwa [PocketUnit.latch_seq]) hclosable
    .faulted
  have hkeeps : v.unit.KeepsReports (t.unit p) := by
    rw [hunit]
    exact PocketUnit.KeepsReports.enterSafe (.refl _) env
  have hv : (s.view p).ChecksAs v := ⟨rfl, rfl, by simp [v], by simp [v]⟩
  have hsafe := State.enteredSafe_of_enterSafe henv hv (by simp [v]) hpool hunit
  obtain ⟨hhistory, hhalted⟩ := PocketView.enterSafe_history (env := env) (v := v) hnewest
  rw [← hunit] at hhistory hhalted
  have hraised : v.unit.notices.has .faultLatched = true :=
    (PocketUnit.closePhase_keepsReports .faulted _).notices .faultLatched (PocketUnit.latch_raises hnew)
  exact ⟨by simpa [v, PocketUnit.latch_faults] using hsafe, hhistory, hkeeps.notices .phaseEnd hend,
    hkeeps.notices .faultLatched hraised, hhalted⟩

/-- A report of OVERHEAT or SENSOR to pocket `p` (9.1, 2.8). -/
theorem State.reportTo_safeOrderReported (hf : f.OrdersSafe) (s : State) (p : Pocket) :
    s.SafeOrderReported (s.reportTo p f) p f := by
  unfold State.SafeOrderReported State.reportTo
  dsimp only
  rw [State.onEvent_unit, State.onEvent_pool]
  obtain ⟨hlatched, hheat⟩ := (s.view p).report_latches hf (s.eventEnv p)
  refine ⟨hlatched, hheat, fun h => ?latched, fun h => ⟨PocketView.report_raises hf h _, fun hrun => ?runsOn,
    fun c hc => ⟨fun hrun htarget hopen => ?paused, fun hrun hopen => ?entersSafe⟩⟩⟩
  case latched =>
    rw [PocketView.report_of_latched hf h]
    simp
  case runsOn =>
    rw [PocketView.report_runsOn hf h hrun]
    simp [PocketUnit.latch_faults]
  case paused =>
    have hclosable : ((s.unit p).latch f).seq.closable = true := by
      rw [PocketUnit.latch_seq]
      exact Sequencer.closable_of_newest hc (hopen.imp_right fun hheld => .inr ⟨hrun, hheld⟩)
    obtain ⟨hnewest, hend⟩ := PocketUnit.closePhase_closes (u := (s.unit p).latch f) (by rwa [PocketUnit.latch_seq])
      hclosable .faulted
    rw [PocketView.report_retargets hf h hrun htarget]
    simp only [PocketView.onUnit_unit, PocketUnit.checkHeat_seq, PocketUnit.checkHeat_notices, PocketUnit.checkHeat_faults,
      PocketUnit.checkHeat_drum]
    refine ⟨?_, rfl, rfl, rfl, hnewest, hend, ?_, ?_, rfl⟩
    all_goals simp [PocketUnit.retargetSafe, PocketUnit.latch_faults, hrun]
  case entersSafe =>
    exact State.faultedIntoSafe_of_report hf rfl h hrun hc hopen (by simp) (by simp)

end Reported
end Sys2Proof.Machine
end

section
/-! The advance of a chain and the end of a phase (R34, R35): what they leave by whether the activation along next passes, and
the statements' predicate `State.AdvancedTo`. -/

namespace Sys2Proof.Machine

section Advance

variable {env : Env} {i : SlotNo} {v : PocketView}

/-- A run state taken again changes nothing but heat without permission: nothing is entered, and no LINK_LOST is reported
(R157, R203). -/
theorem PocketView.become_same {st : RunState} (h : v.unit.seq.run = st) (env : Env) :
    v.become env st = v.onUnit PocketUnit.checkHeat := by
  subst h
  unfold PocketView.become PocketView.reportOnEntry
  exact if_neg (by simp)

/-- The pocket between the release of an advance and its check: it has no active slot and no qualifiers (R35). -/
def PocketView.leaving (env : Env) (i : SlotNo) (v : PocketView) : PocketView :=
  (v.onUnit PocketUnit.clearQuals).vacate env i

theorem PocketView.leaving_unit (env : Env) (i : SlotNo) (v : PocketView) :
    (v.leaving env i).unit =
      { v.unit with seq := { v.unit.seq with work := { v.unit.seq.work with quals := Quals.none, active := none } } } := by
  simp [PocketView.leaving, PocketUnit.clearQuals]

theorem PocketView.leaving_check (env : Env) (i j : SlotNo) (v : PocketView) :
    (v.leaving env i).check j = (v.vacate env i).check j :=
  v.checksAs_clearQuals.vacate_check env i j

/-- An advance at END (R35). -/
theorem PocketView.advance_of_end (hnext : v.unit.seq.work.next = none) :
    v.advance env = PocketView.enterDone env (v.onUnit PocketUnit.clearQuals) := by
  have hn : (v.onUnit PocketUnit.clearQuals).unit.seq.work.next = none := hnext
  simp only [PocketView.advance, hn]

/-- An advance from RUNNING or SAFE along a next field whose activation passes: the pocket keeps its run state (R35). -/
theorem PocketView.advance_of_check {r : PhaseRecord} (hnext : v.unit.seq.work.next = some i)
    (hrun : v.unit.seq.run = .running ∨ v.unit.seq.run = .safe) (hcheck : (v.vacate env i).check i = .ok r) :
    v.advance env = ((v.leaving env i).enterSlot env i r).onUnit PocketUnit.checkHeat := by
  have hn : (v.onUnit PocketUnit.clearQuals).unit.seq.work.next = some i := hnext
  rw [← v.leaving_check] at hcheck
  obtain ⟨-, -, hseq, -⟩ := PocketView.enterSlot_does env i r (v.leaving env i)
  have hsame : ((v.leaving env i).enterSlot env i r).unit.seq.run = v.unit.seq.run := by
    rw [hseq, PocketView.leaving_unit]
  simp only [PocketView.advance, hn, PocketView.activate_of_check hcheck]
  rcases hrun with hrun | hrun
  · rw [if_neg (by simp [hrun])]
    exact PocketView.become_same (hsame.trans hrun) env
  · rw [if_pos hrun]
    exact PocketView.become_same (hsame.trans hrun) env

/-- An advance within the safe chain whose activation fails (R35, R47). -/
theorem PocketView.advance_fails_of_safe {e : ActivationFailure} (hnext : v.unit.seq.work.next = some i)
    (hrun : v.unit.seq.run = .safe) (hcheck : (v.vacate env i).check i = .error e) :
    v.advance env = (v.leaving env i).chainHalt env := by
  have hn : (v.onUnit PocketUnit.clearQuals).unit.seq.work.next = some i := hnext
  rw [← v.leaving_check] at hcheck
  simp only [PocketView.advance, hn, PocketView.activate_of_check_fails hcheck]
  exact if_pos hrun

/-- An advance of a normal chain whose activation fails latches CHAIN and enters SAFE (R35, R47). -/
theorem PocketView.advance_fails_of_not_safe {e : ActivationFailure} (hnext : v.unit.seq.work.next = some i)
    (hrun : v.unit.seq.run ≠ .safe) (hcheck : (v.vacate env i).check i = .error e) :
    v.advance env = PocketView.enterSafe env ((v.leaving env i).onUnit (PocketUnit.latch .chain)) := by
  have hn : (v.onUnit PocketUnit.clearQuals).unit.seq.work.next = some i := hnext
  rw [← v.leaving_check] at hcheck
  simp only [PocketView.advance, hn, PocketView.activate_of_check_fails hcheck]
  exact if_neg hrun

/-- What an advance leaves whose activation passes, in the terms of the statements. -/
theorem PocketView.advance_passes {r : PhaseRecord} (hnext : v.unit.seq.work.next = some i)
    (hrun : v.unit.seq.run = .running ∨ v.unit.seq.run = .safe) (hcheck : (v.vacate env i).check i = .ok r) :
    let w := v.advance env
    w.pool[i] = .active env.pocket r ∧ w.unit.seq.run = v.unit.seq.run ∧
      w.unit.seq.work = workFrom i r v.unit.seq.profile v.unit.moist.valid ∧ w.unit.seq.phaseTimer = 0 ∧
      w.unit.seq.confirm = 0 ∧ w.unit.seq.activations = min 65535 (v.unit.seq.activations + 1) ∧
      w.unit.seq.history = pushHistory v.unit.seq.history
        { slot := i, ordinal := min 65535 (v.unit.seq.activations + 1),
          eStart := if r.quals.keepEstimate then v.unit.moist.estimate else none, twistStart := v.unit.drum.twist,
          outcome := none } ∧
      w.unit.drum.order = .runSegment ∧
      w.unit.drum.segment = some { first := r.segFirst, last := r.segLast, cursor := r.segFirst } ∧
      w.unit.moist.window.isSome = true ∧ w.unit.faults = v.unit.faults ∧ w.unit.drum.twist = v.unit.drum.twist := by
  dsimp only
  obtain ⟨hpool, -, hseq, -, hwindow, hfaults, -, -, horder, htwist, -, -, hsegment⟩ :=
    PocketView.enterSlot_does env i r (v.leaving env i)
  rw [PocketView.leaving_unit] at hseq hfaults htwist
  rw [PocketView.advance_of_check hnext hrun hcheck]
  simp only [PocketView.onUnit_unit, PocketUnit.checkHeat_seq, PocketUnit.checkHeat_drum, PocketUnit.checkHeat_moist,
    PocketUnit.checkHeat_faults, hseq, hfaults, htwist, true_and, and_true]
  exact ⟨hpool, rfl, rfl, horder, hsegment, hwindow⟩

/-- What an advance leaves whose activation along next to slot `i` fails, in the terms of the statements: the anchor's
activation follows in a normal chain, and its check finds the pool as the failed one left it (R35, R47, entry 23). -/
structure PocketView.AdvanceFailed (env : Env) (i : SlotNo) (v w : PocketView) : Prop where
  faults : w.unit.faults = v.unit.faults.put .chain true
  notice : v.unit.faults.chain = false → w.unit.notices.faultLatched = true
  heat   : w.unit.heat.IsOff
  twist  : w.unit.drum.twist = v.unit.drum.twist
  closed : ∀ c, v.unit.seq.newest = some c → c ∈ w.unit.seq.history
  safe   : ∀ (a : SlotNo) (r : PhaseRecord), v.unit.seq.run ≠ .safe → v.unit.seq.anchor = some a →
    (v.vacate env i).check a = .ok r →
      w.unit.seq.run = .safe ∧ w.unit.seq.safeBegun = true ∧ w.unit.seq.work.active = some a ∧
        w.pool[a] = .active env.pocket r
  halted : v.unit.seq.run = .safe ∨ v.unit.seq.anchor = none ∨
      (∃ a e, v.unit.seq.anchor = some a ∧ (v.vacate env i).check a = .error e) →
    w.unit.seq.run = .halted ∧ w.unit.seq.safeBegun = false ∧ w.unit.seq.work.active = none ∧
      w.unit.seq.fanRunOn = 120 ∧ w.unit.seq.newest = v.unit.seq.newest

/-- Within the safe chain a failed advance halts the pocket. -/
theorem PocketView.advanceFailed_of_safe (hrun : v.unit.seq.run = .safe) :
    v.AdvanceFailed env i ((v.leaving env i).chainHalt env) := by
  obtain ⟨hhalt, hsafe, hactive, hfan, hhistory, hdrum, hfaults, hnotice, hheat⟩ :=
    PocketView.chainHalt_halts env (v.leaving env i)
  rw [PocketView.leaving_unit] at hhistory hdrum hfaults hnotice
  exact {
    faults := hfaults
    notice := hnotice
    heat := hheat
    twist := by rw [hdrum, Drum.discard_twist]
    closed := fun c hc => by
      rw [hhistory]
      exact List.mem_of_getLast? hc
    safe := fun _ _ hne => absurd hrun hne
    halted := fun _ => ⟨hhalt, hsafe, hactive, hfan, congrArg List.getLast? hhistory⟩ }

/-- A failed advance of a normal chain latches CHAIN and enters SAFE, where CHAIN is latched again if that fails too. -/
theorem PocketView.advanceFailed_of_not_safe (hrun : v.unit.seq.run ≠ .safe) :
    v.AdvanceFailed env i (PocketView.enterSafe env ((v.leaving env i).onUnit (PocketUnit.latch .chain))) := by
  let y := (v.leaving env i).onUnit (PocketUnit.latch .chain)
  have hseq : y.unit.seq =
      { v.unit.seq with work := { v.unit.seq.work with quals := Quals.none, active := none } } := by
    simp [y, PocketView.leaving_unit]
  have hanchor : y.unit.seq.anchor = v.unit.seq.anchor := by rw [hseq]
  have hnewest : y.unit.seq.newest = v.unit.seq.newest := congrArg (fun q => q.history.getLast?) hseq
  have hfaults : y.unit.faults = v.unit.faults.put .chain true := by simp [y, PocketUnit.latch_faults, PocketView.leaving_unit]
  have htwist : y.unit.drum.twist = v.unit.drum.twist := by simp [y, PocketView.leaving_unit]
  have hcheck (a : SlotNo) : (y.vacate env a).check a = (v.vacate env i).check a := by
    rw [PocketView.vacate_of_inactive (by rw [hseq]), ← PocketView.leaving_check]
    exact PocketView.check_congr (v := v.leaving env i) (w := y) rfl (by simp [y]) a
  have hraised (h : v.unit.faults.chain = false) : (y.enterSafe env).unit.notices.faultLatched = true := by
    refine (PocketUnit.KeepsReports.enterSafe (.refl y.unit) env).notices .faultLatched (PocketUnit.latch_raises ?_)
    rw [PocketView.leaving_unit]
    exact h
  have hsafe {a : SlotNo} {r : PhaseRecord} (ha : v.unit.seq.anchor = some a) (hr : (v.vacate env i).check a = .ok r) :=
    PocketView.enterSafe_passes (v := y) (hanchor.trans ha) ((hcheck a).trans hr)
  have hhalted (h : v.unit.seq.anchor = none ∨
      ∃ a e, v.unit.seq.anchor = some a ∧ (v.vacate env i).check a = .error e) : y.ChainHalted (y.enterSafe env) := by
    refine PocketView.enterSafe_halts ?_
    simpa only [hanchor, hcheck] using h
  have hall : (y.enterSafe env).unit.faults = v.unit.faults.put .chain true ∧ (y.enterSafe env).unit.heat.IsOff ∧
      (y.enterSafe env).unit.drum.twist = v.unit.drum.twist := by
    rw [← htwist]
    rcases y.anchor_cases env with ⟨a, r, ha, hr⟩ | hfails
    · obtain ⟨-, -, -, -, hf, ht, hheat, -⟩ := PocketView.enterSafe_passes ha hr
      exact ⟨hf.trans hfaults, hheat, ht⟩
    · have h := PocketView.enterSafe_halts hfails
      exact ⟨by rw [h.faults, hfaults, FaultSet.put_put], h.heat, by rw [h.drum, Drum.discard_twist]⟩
  exact {
    faults := hall.1
    notice := hraised
    heat := hall.2.1
    twist := hall.2.2
    closed := fun c hc => (PocketView.enterSafe_history (hnewest.trans hc)).1
    safe := fun a r _ ha hr => by
      obtain ⟨h1, h2, h3, h4, -⟩ := hsafe ha hr
      exact ⟨h1, h2, h3, h4⟩
    halted := fun h => by
      have hh := hhalted (h.resolve_left hrun)
      exact ⟨hh.run, hh.safeBegun, hh.active, hh.fanRunOn, (congrArg List.getLast? hh.history).trans hnewest⟩ }

theorem PocketView.advance_fails {e : ActivationFailure} (hnext : v.unit.seq.work.next = some i)
    (hcheck : (v.vacate env i).check i = .error e) : v.AdvanceFailed env i (v.advance env) := by
  by_cases hrun : v.unit.seq.run = .safe
  · rw [PocketView.advance_fails_of_safe hnext hrun hcheck]
    exact PocketView.advanceFailed_of_safe hrun
  · rw [PocketView.advance_fails_of_not_safe hnext hrun hcheck]
    exact PocketView.advanceFailed_of_not_safe hrun

end Advance

/-! ## The statements' predicate -/

/-- A close is no part of what an activation's check sees. -/
theorem PocketView.checksAs_closePhase (o : PhaseOutcome) (v : PocketView) :
    v.ChecksAs (v.onUnit (PocketUnit.closePhase o)) := ⟨rfl, rfl, by simp, by simp⟩

/-- The close of a phase in RUNNING or SAFE and the advance along next that follows (R33, R35). -/
theorem State.advancedTo_of_advance {s t : State} {p : Pocket} {env : Env} {o : PhaseOutcome} {c : Checkpoint} {i : SlotNo}
    (henv : env.pocket = p) (hrun : (s.unit p).seq.run = .running ∨ (s.unit p).seq.run = .safe)
    (hc : (s.unit p).seq.newest = some c) (hopen : c.outcome = none) (hnext : (s.unit p).seq.work.next = some i)
    (hpool : t.pool = (((s.view p).onUnit (PocketUnit.closePhase o)).advance env).pool)
    (hunit : t.unit p = (((s.view p).onUnit (PocketUnit.closePhase o)).advance env).unit) :
    s.AdvancedTo t p env o c i (s.unit p).moist.estimate := by
  let v := (s.view p).onUnit (PocketUnit.closePhase o)
  obtain ⟨hnewest, hend⟩ := PocketUnit.closePhase_closes hc (Sequencer.closable_of_newest hc (.inl hopen)) o
  have hcheck (j : SlotNo) : (v.vacate env i).check j = ((s.view p).vacate env i).check j :=
    (PocketView.checksAs_closePhase o (s.view p)).vacate_check env i j
  have hseq : v.unit.seq = { (s.unit p).seq with history := v.unit.seq.history } := by simp [v]
  have hsame : v.unit.seq.run = (s.unit p).seq.run := by rw [hseq]
  have hdrum : v.unit.drum = (s.unit p).drum := by simp [v]
  have hfaults : v.unit.faults = (s.unit p).faults := by simp [v]
  have hmoist : v.unit.moist = { (s.unit p).moist with window := none } := by simp [v]
  have hend := (PocketUnit.KeepsReports.advance (.refl v.unit) env).notices .phaseEnd hend
  have hnewest : v.unit.seq.newest = some { c with outcome := some o } := hnewest
  have hnext : v.unit.seq.work.next = some i := by rw [hseq]; exact hnext
  have hrun : v.unit.seq.run = .running ∨ v.unit.seq.run = .safe := by rw [hseq]; exact hrun
  unfold State.AdvancedTo
  dsimp only
  rw [hpool, hunit]
  simp only [← hcheck]
  rcases hr : (v.vacate env i).check i with e | r
  · obtain ⟨hchain, hnotice, hheat, htwist, hclosed, hsafe, hhalted⟩ := PocketView.advance_fails hnext hr
    rw [hnewest] at hhalted
    rw [hseq] at hsafe hhalted
    rw [hfaults] at hchain hnotice
    rw [hdrum] at htwist
    rw [henv] at hsafe
    refine ⟨hclosed _ hnewest, hend, htwist, fun r hr => ?_, fun _ _ => ⟨hchain, hnotice, hheat, hsafe, hhalted⟩⟩
    cases hr
  · obtain ⟨hslot, hrun', hwork, htimer, hconfirm, hcount, hhistory, horder, hsegment, hwindow, hkept, htwist⟩ :=
      PocketView.advance_passes hnext hrun hr
    have hstate : v.unit.seq.run = if (s.unit p).seq.run = .safe then .safe else .running := by
      rw [← hsame]
      rcases hrun with h | h <;> rw [h] <;> rfl
    refine ⟨?_, hend, htwist.trans (by rw [hdrum]), fun r' hr' => ?_, fun e he => ?_⟩
    · rw [hhistory]
      exact mem_pushHistory_of_getLast? hnewest _
    · cases hr'
      refine ⟨by rw [hslot, henv], hrun'.trans hstate, ?_, htimer, hconfirm, ?_, ?_, horder, hsegment, hwindow,
        hkept.trans hfaults⟩
      · rw [hwork, hseq, hmoist]
      · rw [hcount, hseq]
      · rw [Sequencer.newest, hhistory, pushHistory_getLast?, hseq, hmoist, hdrum]
    · cases he

end Sys2Proof.Machine
end

section
/-! The natural end of a phase as an event of its pocket (R33 to R35): held, ended at END, or advanced along next, and the run
states that it can leave. -/

namespace Sys2Proof.Machine

section EndOfPhase

variable {env : Env} {o : PhaseOutcome} {v : PocketView}

/-- The end of a phase that is not held is an advance (R34, R35). -/
theorem PocketView.endPhase_advances
    (h : v.unit.seq.run = .running ∧ v.unit.seq.work.quals.holdAtEnd = false ∨ v.unit.seq.run = .safe) :
    v.endPhase env o = (v.onUnit (PocketUnit.closePhase o)).advance env := by
  rcases v.endPhase_cases env o with ⟨hrun, hhold, -⟩ | ⟨-, hend⟩
  · simp [hrun, hhold] at h
  · exact hend

/-- The end of a phase under HOLD_AT_END in RUNNING, by an outcome that lets it hold (R34). -/
theorem PocketView.endPhase_holds (hrun : v.unit.seq.run = .running) (hhold : v.unit.seq.work.quals.holdAtEnd = true)
    (ho : o.holds = true) : v.endPhase env o = (v.onUnit (PocketUnit.closePhase o)).enterHeld env := by
  rcases v.endPhase_cases env o with ⟨-, -, -, hend⟩ | ⟨hnot, -⟩
  · exact hend
  · exact absurd ⟨hrun, hhold, ho⟩ hnot

/-- Entry into HELD, the silence timer not expired: the sequencer takes its run state and the HELD notice is raised
(R34, R203). -/
theorem PocketView.enterHeld_quiet (hquiet : env.silenceExpired = false) (v : PocketView) :
    (v.enterHeld env).pool = v.pool ∧ (v.enterHeld env).unit.seq = { v.unit.seq with run := .held } ∧
      (v.enterHeld env).unit.notices.held = true := by
  obtain ⟨hstep, -⟩ := v.unit.holdDrum_step env.reserveCycles
  unfold PocketView.enterHeld
  rw [PocketView.become_quiet hquiet]
  refine ⟨rfl, ?_, ?_⟩
  · simp [PocketUnit.alignWindow, hstep.seq]
  · simp [PocketUnit.alignWindow, NoticeSet.add]

/-- A HELD pocket to which LINK_LOST is reported is HELD, SAFE or HALTED (R177, R203). -/
theorem PocketView.report_linkLost_of_held (hrun : v.unit.seq.run = .held) (env : Env) :
    (v.report env .linkLost).unit.seq.run = .held ∨ (v.report env .linkLost).unit.seq.run = .safe ∨
      (v.report env .linkLost).unit.seq.run = .halted := by
  rcases v.report_cases env .linkLost with ⟨-, hrep⟩ | ⟨-, -, hpaused, -⟩ | ⟨-, -, hrep⟩
  · right
    rw [hrep]
    simpa [PocketView.respond, PocketView.orderSafe, hrun] using PocketView.enterSafe_run env _
  · rw [hrun] at hpaused
    cases hpaused
  · left
    simpa [hrep] using hrun

/-- Entry into HELD ends in HELD, or, where LINK_LOST is reported, in SAFE or HALTED (R34, R203). -/
theorem PocketView.enterHeld_run (env : Env) (v : PocketView) :
    (v.enterHeld env).unit.seq.run = .held ∨ (v.enterHeld env).unit.seq.run = .safe ∨
      (v.enterHeld env).unit.seq.run = .halted := by
  unfold PocketView.enterHeld PocketView.become PocketView.reportOnEntry
  split
  · exact PocketView.report_linkLost_of_held (by simp) env
  · simp

/-- An advance from RUNNING or SAFE keeps the run state, or ends in SAFE, HALTED or DONE (R35, R47). -/
theorem PocketView.advance_run (env : Env) (hrun : v.unit.seq.run = .running ∨ v.unit.seq.run = .safe) :
    (v.advance env).unit.seq.run = v.unit.seq.run ∨ (v.advance env).unit.seq.run = .safe ∨
      (v.advance env).unit.seq.run = .halted ∨ (v.advance env).unit.seq.run = .done := by
  rcases hnext : v.unit.seq.work.next with _ | i
  · obtain ⟨-, hseq, -⟩ := PocketView.enterDone_does env (v.onUnit PocketUnit.clearQuals)
    rw [PocketView.advance_of_end hnext, hseq]
    exact .inr (.inr (.inr rfl))
  · rcases hr : (v.vacate env i).check i with e | r
    · by_cases hsafe : v.unit.seq.run = .safe
      · rw [PocketView.advance_fails_of_safe hnext hsafe hr]
        exact .inr (.inr (.inl (PocketView.chainHalt_halts env _).run))
      · rw [PocketView.advance_fails_of_not_safe hnext hsafe hr]
        rcases PocketView.enterSafe_run env ((v.leaving env i).onUnit (PocketUnit.latch .chain)) with h | h
        · exact .inr (.inl h)
        · exact .inr (.inr (.inl h))
    · obtain ⟨-, hsame, -⟩ := PocketView.advance_passes hnext hrun hr
      exact .inl hsame

/-- The end of a phase leaves the pocket RUNNING, HELD, SAFE, HALTED or DONE. -/
theorem PocketView.endPhase_run (env : Env) (o : PhaseOutcome)
    (hrun : v.unit.seq.run = .running ∨ v.unit.seq.run = .safe) :
    (v.endPhase env o).unit.seq.run ≠ .idle ∧ (v.endPhase env o).unit.seq.run ≠ .paused := by
  rcases v.endPhase_cases env o with ⟨-, -, -, hend⟩ | ⟨-, hend⟩ <;> rw [hend]
  · rcases PocketView.enterHeld_run env (v.onUnit (PocketUnit.closePhase o)) with h | h | h <;> simp [h]
  · have hclosed : (v.onUnit (PocketUnit.closePhase o)).unit.seq.run = v.unit.seq.run := by simp
    rw [← hclosed] at hrun
    rcases PocketView.advance_run env hrun with h | h | h | h
    · rcases hrun with hrun | hrun <;> rw [h, hrun] <;> decide
    all_goals simp [h]

/-- The end of a phase of the safe chain leaves the pocket SAFE, HALTED or DONE, without heat (R35, R47, R158). -/
theorem PocketView.endPhase_of_safe (env : Env) (o : PhaseOutcome) (hrun : v.unit.seq.run = .safe) :
    ((v.endPhase env o).unit.seq.run = .safe ∨ (v.endPhase env o).unit.seq.run = .halted ∨
      (v.endPhase env o).unit.seq.run = .done) ∧ (v.endPhase env o).unit.heat.IsOff := by
  have hclosed : (v.onUnit (PocketUnit.closePhase o)).unit.seq.run = .safe := by simpa using hrun
  rw [PocketView.endPhase_advances (.inr hrun)]
  generalize v.onUnit (PocketUnit.closePhase o) = w at hclosed
  refine ⟨?_, ?_⟩
  · rcases PocketView.advance_run env (.inr hclosed) with h | h
    · exact .inl (h.trans hclosed)
    · exact h
  · rcases hnext : w.unit.seq.work.next with _ | i
    · obtain ⟨-, -, -, -, -, -, -, hheat⟩ := PocketView.enterDone_does env (w.onUnit PocketUnit.clearQuals)
      rw [PocketView.advance_of_end hnext]
      exact hheat
    · rcases hr : (w.vacate env i).check i with e | r
      · exact (PocketView.advance_fails hnext hr).heat
      · obtain ⟨-, hsame, -⟩ := PocketView.advance_passes hnext (.inr hclosed) hr
        rw [PocketView.advance_of_check hnext (.inr hclosed) hr] at hsame ⊢
        refine PocketUnit.checkHeat_isOff (PocketUnit.hasPermission_of_not_running ?_)
        rw [PocketView.onUnit_unit, PocketUnit.checkHeat_seq, hclosed] at hsame
        simp [hsame]

end EndOfPhase

/-! ## As an event of the pocket -/

section Event

variable {s : State} {p : Pocket} {o : PhaseOutcome} {c : Checkpoint}

/-- A phase that ends under HOLD_AT_END in RUNNING, the silence timer not expired (R33, R34). -/
theorem State.onEvent_endPhase_holds (hc : (s.unit p).seq.newest = some c) (hopen : c.outcome = none)
    (hrun : (s.unit p).seq.run = .running) (hhold : (s.unit p).seq.work.quals.holdAtEnd = true) (ho : o.holds = true)
    (hquiet : s.link.silenceExpired = false) :
    let t := s.onEvent p fun env => PocketView.endPhase env o
    (t.unit p).seq.run = .held ∧ (t.unit p).seq.newest = some { c with outcome := some o } ∧
      (t.unit p).notices.phaseEnd = true ∧ (t.unit p).notices.held = true ∧ t.pool = s.pool := by
  obtain ⟨hnewest, hend⟩ := PocketUnit.closePhase_closes hc (Sequencer.closable_of_newest hc (.inl hopen)) o
  have hend := (PocketUnit.KeepsReports.enterHeld (v := (s.view p).onUnit (PocketUnit.closePhase o)) (.refl _)
    (s.eventEnv p)).notices .phaseEnd hend
  obtain ⟨hpool, hseq, hheld⟩ :=
    PocketView.enterHeld_quiet (env := s.eventEnv p) hquiet ((s.view p).onUnit (PocketUnit.closePhase o))
  dsimp only
  rw [State.onEvent_unit, State.onEvent_pool, PocketView.endPhase_holds hrun hhold ho]
  refine ⟨by rw [hseq], ?_, hend, hheld, hpool⟩
  rw [hseq]
  exact hnewest

/-- A phase that ends at END (R33, R35). -/
theorem State.onEvent_endPhase_done (hc : (s.unit p).seq.newest = some c) (hopen : c.outcome = none)
    (hrun : (s.unit p).seq.run = .running ∧ (s.unit p).seq.work.quals.holdAtEnd = false ∨ (s.unit p).seq.run = .safe)
    (hnext : (s.unit p).seq.work.next = none) :
    let t := s.onEvent p fun env => PocketView.endPhase env o
    (t.unit p).seq.run = .done ∧ (t.unit p).seq.newest = some { c with outcome := some o } ∧
      (t.unit p).notices.phaseEnd = true ∧ (t.unit p).notices.chainDone = true ∧ (t.unit p).seq.work.active = none := by
  obtain ⟨hnewest, hend⟩ := PocketUnit.closePhase_closes hc (Sequencer.closable_of_newest hc (.inl hopen)) o
  let v := ((s.view p).onUnit (PocketUnit.closePhase o)).onUnit PocketUnit.clearQuals
  have hend := (PocketUnit.KeepsReports.enterDone (v := v) (.refl _) (s.eventEnv p)).notices .phaseEnd hend
  obtain ⟨-, hseq, -, -, -, hnotices, -⟩ := PocketView.enterDone_does (s.eventEnv p) v
  dsimp only
  rw [State.onEvent_unit, PocketView.endPhase_advances hrun, PocketView.advance_of_end (by simpa using hnext)]
  refine ⟨by rw [hseq], ?_, hend, by rw [hnotices]; rfl, by rw [hseq]⟩
  rw [hseq]
  exact hnewest

/-- A phase that ends with a slot named next (R33, R35). -/
theorem State.onEvent_endPhase_advances {i : SlotNo} (hc : (s.unit p).seq.newest = some c) (hopen : c.outcome = none)
    (hrun : (s.unit p).seq.run = .running ∧ (s.unit p).seq.work.quals.holdAtEnd = false ∨ (s.unit p).seq.run = .safe)
    (hnext : (s.unit p).seq.work.next = some i) :
    s.AdvancedTo (s.onEvent p fun env => PocketView.endPhase env o) p (s.eventEnv p) o c i (s.unit p).moist.estimate := by
  refine State.advancedTo_of_advance rfl (hrun.imp_left And.left) hc hopen hnext ?_ ?_
  · rw [State.onEvent_pool, PocketView.endPhase_advances hrun]
  · rw [State.onEvent_unit, PocketView.endPhase_advances hrun]

end Event
end Sys2Proof.Machine
end

section
/-! A conversion of a temperature channel (R138 to R146, R31): what it does to the scan, and what follows from it for the
channel's pocket. -/

namespace Sys2Proof.Machine

/-! ## The conversion on the scan -/

/-- The state after a conversion of channel `c` with count `n`. -/
def State.afterConversion (s : State) (c : Channel) (n : Nat) : State :=
  match c with
  | .lowerInlet => (s.convert .lowerInlet n).afterInlet .lower
  | .lowerExhaust => (s.convert .lowerExhaust n).afterExhaust .lower
  | .upperInlet => (s.convert .upperInlet n).afterInlet .upper
  | .upperExhaust => (s.convert .upperExhaust n).afterExhaust .upper
  | .ambient => { s with temps := s.temps.takeAmbient n }

theorem exec_channelConversion (c : Channel) (count : ConverterCount) (s : State) :
    exec (.channelConversion c count) s = .next (s.afterConversion c count.toNat) := by cases c <;> rfl

theorem State.afterConversion_inlet (s : State) (p : Pocket) (n : Nat) :
    s.afterConversion (inletChannel p) n = (s.convert (inletChannel p) n).afterInlet p := by cases p <;> rfl

theorem State.afterConversion_exhaust (s : State) (p : Pocket) (n : Nat) :
    s.afterConversion (exhaustChannel p) n = (s.convert (exhaustChannel p) n).afterExhaust p := by cases p <;> rfl

/-- A channel is AMBIENT or one of a pocket's two (R138). -/
theorem channel_cases (c : Channel) : c = .ambient ∨ (∃ p, c = inletChannel p) ∨ ∃ p, c = exhaustChannel p := by
  cases c
  case ambient => exact .inl rfl
  case lowerInlet => exact .inr (.inl ⟨.lower, rfl⟩)
  case upperInlet => exact .inr (.inl ⟨.upper, rfl⟩)
  case lowerExhaust => exact .inr (.inr ⟨.lower, rfl⟩)
  case upperExhaust => exact .inr (.inr ⟨.upper, rfl⟩)

theorem inletChannel_ne_ambient (p : Pocket) : inletChannel p ≠ .ambient := by cases p <;> decide

theorem exhaustChannel_ne_ambient (p : Pocket) : exhaustChannel p ≠ .ambient := by cases p <;> decide

/-- A conversion of channel `c` on the scan, the AMBIENT mark included (R138, R144). -/
def TempScan.converted (t : TempScan) (c : Channel) (n : Nat) : TempScan :=
  match c with
  | .ambient => t.takeAmbient n
  | .lowerInlet | .lowerExhaust | .upperInlet | .upperExhaust => t.onChannel c (TempChannel.take n)

theorem TempScan.converted_channel (t : TempScan) (c : Channel) (n : Nat) :
    (t.converted c n).channel c = (t.channel c).take n := by cases c <;> rfl

theorem TempScan.converted_channel_other (t : TempScan) {c d : Channel} (h : d ≠ c) (n : Nat) :
    (t.converted c n).channel d = t.channel d := by
  cases c
  case ambient => cases d <;> first | rfl | exact absurd rfl h
  all_goals exact TempScan.setChannel_channel_other t h _

theorem TempScan.converted_healthy (t : TempScan) (c : Channel) (n : Nat) :
    (t.converted c n).healthy =
      if c = .ambient then nextHealthy t.healthy ((t.channel c).take n) else t.healthy := by cases c <;> rfl

theorem State.convert_temps {c : Channel} (h : c ≠ .ambient) (s : State) (n : Nat) :
    (s.convert c n).temps = s.temps.converted c n := by
  cases c <;> first | rfl | exact absurd rfl h

/-! ## The conversion on its channel -/

theorem classify_of_good {n : Nat} (h : 16 ≤ n ∧ n < 4080) : classify n = .good := by
  rw [classify, if_neg (by omega), if_neg (by omega)]

/-- A count outside the good ones is at the end it is nearer to (R139). -/
theorem classify_of_bad {n : Nat} (h : n ≤ 15 ∨ 4080 ≤ n) :
    classify n = if n ≤ 15 then .sensorShort else .sensorOpen := by
  rcases h with h | h
  · rw [classify, if_neg (by omega), if_pos h, if_pos h]
  · rw [classify, if_pos h, if_neg (by omega)]

theorem TempChannel.take_of_good {n : Nat} (h : 16 ≤ n ∧ n < 4080) (x : TempChannel) : x.take n = x.good n := by
  simp only [TempChannel.take, classify_of_good h]

theorem TempChannel.take_of_bad {n : Nat} (h : n ≤ 15 ∨ 4080 ≤ n) (x : TempChannel) :
    x.take n =
      { x with
        lastCount := some n, lastClass := some (if n ≤ 15 then .sensorShort else .sensorOpen),
        badScans := min 3 (x.badScans + 1) } := by
  have hbad := classify_of_bad h
  rcases x.take_cases n with ⟨hgood, -⟩ | ⟨-, htake⟩
  · rw [hgood] at hbad
    split at hbad <;> cases hbad
  · rw [htake, hbad]
    rfl

/-- A conversion leaves its channel's calibration and takes its count. -/
theorem TempChannel.take_keeps (n : Nat) (x : TempChannel) : (x.take n).cal = x.cal ∧ (x.take n).lastCount = some n := by
  rcases x.take_cases n with ⟨-, h⟩ | ⟨-, h⟩ <;> rw [h] <;> exact ⟨rfl, rfl⟩

/-- A channel fails after a conversion that is its third bad one, or a later one (R142, R143). -/
theorem TempChannel.take_failing {n : Nat} (h : n ≤ 15 ∨ 4080 ≤ n) (x : TempChannel) :
    (x.take n).failing = decide (2 ≤ x.badScans) := by
  rw [TempChannel.take_of_bad h, TempChannel.failing, decide_eq_decide]
  dsimp only
  omega

theorem TempChannel.take_good_failing {n : Nat} (h : 16 ≤ n ∧ n < 4080) (x : TempChannel) : (x.take n).failing = false := by
  rw [TempChannel.take_of_good h]
  rfl

theorem TempChannel.take_goodNow_of_bad {n : Nat} (h : n ≤ 15 ∨ 4080 ≤ n) (x : TempChannel) :
    (x.take n).goodNow = false := by
  rw [TempChannel.take_of_bad h, TempChannel.goodNow]
  dsimp only
  split <;> rfl

/-! ## What a conversion leaves alone -/

/-- Two states that differ at most in pocket `p`, the pool, and the model's own free counter and note of a raced write: the link is
the same too. -/
def State.ActsOn (s t : State) (p : Pocket) : Prop := s.SameElsewhere t p ∧ t.link = s.link

theorem State.ActsOn.refl (s : State) (p : Pocket) : s.ActsOn s p := ⟨⟨rfl, rfl, rfl, rfl, rfl, rfl, rfl⟩, rfl⟩

theorem State.ActsOn.trans {s t r : State} {p : Pocket} (h : s.ActsOn t p) (k : t.ActsOn r p) : s.ActsOn r p := by
  obtain ⟨⟨hunit, htemps, hsupply, hdevice, htrend, hprescale, hpending⟩, hlink⟩ := h
  obtain ⟨⟨kunit, ktemps, ksupply, kdevice, ktrend, kprescale, kpending⟩, klink⟩ := k
  exact ⟨⟨kunit.trans hunit, ktemps.trans htemps, ksupply.trans hsupply, kdevice.trans hdevice, ktrend.trans htrend,
    kprescale.trans hprescale, kpending.trans hpending⟩, klink.trans hlink⟩

theorem State.onEvent_actsOn (s : State) (p : Pocket) (f : Env → PocketView → PocketView) :
    s.ActsOn (s.onEvent p f) p := by simp [State.ActsOn, State.SameElsewhere]

theorem State.spendFree_actsOn (s : State) (p : Pocket) : s.ActsOn s.spendFree p := by
  simp [State.ActsOn, State.SameElsewhere]

theorem State.coolTest_actsOn (s : State) (p : Pocket) : s.ActsOn (s.coolTest p) p := by
  unfold State.coolTest
  split
  · exact s.onEvent_actsOn p _
  · exact .refl s p

theorem State.afterInlet_actsOn (s : State) (p : Pocket) : s.ActsOn (s.afterInlet p) p := by
  unfold State.afterInlet
  split
  · split
    · exact s.onEvent_actsOn p _
    · exact .refl s p
  · split
    · exact s.onEvent_actsOn p _
    · exact .refl s p

theorem State.afterExhaust_actsOn (s : State) (p : Pocket) : s.ActsOn (s.afterExhaust p) p := by
  have hspent := s.spendFree_actsOn p
  unfold State.afterExhaust
  split
  · split
    · unfold State.reportThenEnd
      have hreported := hspent.trans (s.spendFree.onEvent_actsOn p fun env => PocketView.report env .sensor)
      dsimp only
      split
      · exact hreported.trans (State.coolTest_actsOn _ p)
      · exact hreported
    · exact (hspent.trans (s.spendFree.coolTest_actsOn p)).trans (State.onEvent_actsOn _ p _)
  · exact s.coolTest_actsOn p

/-! ## The COOL end (R31) -/

/-- The COOL end condition: an open COOL phase in RUNNING or SAFE, and an exhaust reading at or below the threshold. -/
theorem State.coolMet_iff (s : State) (p : Pocket) :
    s.coolMet p = true ↔
      ((s.unit p).seq.run = .running ∨ (s.unit p).seq.run = .safe) ∧ (s.unit p).seq.work.kind = .cool ∧
        (∃ k : Checkpoint, (s.unit p).seq.newest = some k ∧ k.outcome = none) ∧
        ∃ x : Int, (s.exhaust p).reading = some x ∧ x ≤ s.temps.coolThreshold (s.unit p).seq.work.cool.endTemp := by
  have hevaluates (r : RunState) : r.evaluates = true ↔ r = .running ∨ r = .safe := by cases r <;> decide
  have hphase : (s.unit p).seq.phaseOpen = true ↔ ∃ k : Checkpoint, (s.unit p).seq.newest = some k ∧ k.outcome = none := by
    cases h : (s.unit p).seq.newest <;> simp [Sequencer.phaseOpen, h]
  cases hx : (s.exhaust p).reading <;>
    simp [State.coolMet, hx, hevaluates, hphase, and_comm, and_left_comm]

end Sys2Proof.Machine
end

section
/-! What a conversion reports and ends on its pocket (R31, R143, R146), with the order of SENSOR and the COOL end free
(entry 6). -/

namespace Sys2Proof.Machine

/-! ## The statements' predicates read little of the state -/

/-- A report's predicate reads of the first state what the pocket and its event see. -/
theorem State.SafeOrderReported.congr {s s' t : State} {p : Pocket} {f : PocketFault} (hview : s'.view p = s.view p)
    (henv : s'.eventEnv p = s.eventEnv p) (h : s'.SafeOrderReported t p f) : s.SafeOrderReported t p f := by
  have hunit : s'.unit p = s.unit p := congrArg PocketView.unit hview
  have hpool : s'.pool = s.pool := congrArg PocketView.pool hview
  simpa only [State.SafeOrderReported, State.FaultedIntoSafe, State.EnteredSafe, hview, hunit, hpool, henv] using h

/-- An advance's predicate does not read the heat of the first state. -/
theorem State.AdvancedTo.of_checkHeat {s s' t : State} {p : Pocket} {env : Env} {o : PhaseOutcome} {c : Checkpoint}
    {i : SlotNo} {e : Option Nat} (hview : s'.view p = (s.view p).onUnit PocketUnit.checkHeat)
    (h : s'.AdvancedTo t p env o c i e) : s.AdvancedTo t p env o c i e := by
  have hunit : s'.unit p = (s.unit p).checkHeat := congrArg PocketView.unit hview
  have hchecks : (s.view p).ChecksAs (s'.view p) := by
    rw [hview]
    exact ⟨rfl, rfl, by simp, by simp⟩
  simpa only [State.AdvancedTo, hchecks.vacate_check, hunit, PocketUnit.checkHeat_seq, PocketUnit.checkHeat_drum,
    PocketUnit.checkHeat_moist, PocketUnit.checkHeat_faults] using h

theorem State.AdvancedTo.congr {s s' t : State} {p : Pocket} {env : Env} {o : PhaseOutcome} {c : Checkpoint} {i : SlotNo}
    {e : Option Nat} (hview : s'.view p = s.view p) (h : s'.AdvancedTo t p env o c i e) : s.AdvancedTo t p env o c i e := by
  have hunit : s'.unit p = s.unit p := congrArg PocketView.unit hview
  simpa only [State.AdvancedTo, hview, hunit] using h

/-- A test of the heat permission after an advance leaves what its predicate says. -/
theorem State.AdvancedTo.then_checkHeat {s t t' : State} {p : Pocket} {env : Env} {o : PhaseOutcome} {c : Checkpoint}
    {i : SlotNo} {e : Option Nat} (hview : t'.view p = (t.view p).onUnit PocketUnit.checkHeat)
    (h : s.AdvancedTo t p env o c i e) : s.AdvancedTo t' p env o c i e := by
  have hunit : t'.unit p = (t.unit p).checkHeat := congrArg PocketView.unit hview
  have hpool : t'.pool = t.pool := congrArg PocketView.pool hview
  obtain ⟨hclosed, hend, htwist, hpasses, hfails⟩ := h
  simp only [State.AdvancedTo, hunit, hpool, PocketUnit.checkHeat_seq, PocketUnit.checkHeat_drum,
    PocketUnit.checkHeat_moist, PocketUnit.checkHeat_faults, PocketUnit.checkHeat_notices]
  refine ⟨hclosed, hend, htwist, hpasses, fun e he => ?_⟩
  obtain ⟨hchain, hnotice, hheat, hrest⟩ := hfails e he
  exact ⟨hchain, hnotice, PocketUnit.checkHeat_keeps_isOff hheat, hrest⟩

/-- The surroundings of an event read the free counter, the requests, the anchors and the active slot, and the supply's and the
link's part. -/
theorem State.eventEnv_congr {s s' : State} (hseq : ∀ q, (s'.unit q).seq = (s.unit q).seq) (hsupply : s'.supply = s.supply)
    (hlink : s'.link = s.link) (hpending : s'.pending = s.pending) (hraced : s'.raced = s.raced) (hfree : s'.free = s.free)
    (p : Pocket) : s'.eventEnv p = s.eventEnv p := by
  have hanchored (q : Pocket) (i : SlotNo) : (s'.unit q).anchoredAt i = (s.unit q).anchoredAt i := by
    rw [PocketUnit.anchoredAt, hseq, PocketUnit.anchoredAt]
  have hlower : ∀ i, s'.lower.anchoredAt i = s.lower.anchoredAt i := hanchored .lower
  have hupper : ∀ i, s'.upper.anchoredAt i = s.upper.anchoredAt i := hanchored .upper
  have hwrite (c : Instr) : s'.writeOf c = s.writeOf c := by
    simp only [State.writeOf, hlower, hupper]
  simp only [State.eventEnv, State.env, State.racingWrite, State.nextRequest, hseq p, hwrite, hsupply, hlink, hpending,
    hraced, hfree]

/-! ## The inlet channel (R143, R146) -/

section Inlet

variable {s : State} {p : Pocket}

theorem State.afterInlet_of_hot {x : Int} (hgood : (s.inlet p).goodNow = true) (hx : (s.inlet p).reading = some x)
    (hhot : s.supply.config.inletHigh < x) : s.afterInlet p = s.reportTo p .overheat := by
  simp [State.afterInlet, hgood, State.inletHot, hx, hhot]

theorem State.afterInlet_of_not_hot {x : Int} (hgood : (s.inlet p).goodNow = true) (hx : (s.inlet p).reading = some x)
    (hcool : x ≤ s.supply.config.inletHigh) : s.afterInlet p = s := by
  simp only [State.afterInlet, hgood, State.inletHot, hx, decide_eq_true_eq, if_neg (Int.not_lt.mpr hcool), if_true]

theorem State.afterInlet_of_bad (hbad : (s.inlet p).goodNow = false) :
    s.afterInlet p = if (s.inlet p).failing then s.reportTo p .sensor else s := by
  simp [State.afterInlet, hbad]

end Inlet

/-! ## The exhaust channel (R31, R143) -/

section Exhaust

variable {s : State} {p : Pocket}

theorem State.coolTest_of_not_met (h : ¬s.coolMet p = true) : s.coolTest p = s := if_neg h

theorem State.coolTest_of_met (h : s.coolMet p = true) :
    s.coolTest p = s.onEvent p fun env => PocketView.endPhase env .cooled := if_pos h

theorem State.afterExhaust_of_not_failing (h : (s.exhaust p).failing = false) : s.afterExhaust p = s.coolTest p := by
  simp [State.afterExhaust, h]

/-- A conversion that reports SENSOR takes the report and the COOL end in one order or the other (entry 6). -/
theorem State.afterExhaust_of_failing (h : (s.exhaust p).failing = true) :
    s.afterExhaust p = s.spendFree.reportThenEnd p ∨
      s.afterExhaust p = (s.spendFree.coolTest p).reportTo p .sensor := by
  by_cases hfirst : Config.reportBeforeEnd s.free = true <;> simp [State.afterExhaust, h, hfirst]

/-- A report that leaves the pocket in RUNNING or SAFE, where it was, has left its sequencer as it was. -/
theorem PocketView.report_seq_of_same_run {env : Env} {f : PocketFault} {v : PocketView} (hf : f.OrdersSafe)
    (hrun : v.unit.seq.run = .running ∨ v.unit.seq.run = .safe)
    (hsame : (v.report env f).unit.seq.run = v.unit.seq.run) : (v.report env f).unit.seq = v.unit.seq := by
  by_cases h : v.unit.faults.has f = true
  · rw [PocketView.report_of_latched hf h]
    simp
  · rw [Bool.not_eq_true] at h
    rcases hrun with hrun | hrun
    · rw [PocketView.report_entersSafe hf h (.inl hrun), hrun] at hsame
      rcases PocketView.enterSafe_run env ((v.onUnit (PocketUnit.latch f)).onUnit (PocketUnit.closePhase .faulted)) with hr | hr
        <;> rw [hr] at hsame <;> cases hsame
    · rw [PocketView.report_runsOn hf h (.inr (.inl hrun))]
      simp

/-- The COOL end is met after a report that left the run state exactly where it was met before. -/
theorem State.coolMet_reportTo (hsame : ((s.reportTo p .sensor).unit p).seq.run = (s.unit p).seq.run) :
    (s.reportTo p .sensor).coolMet p = true ↔ s.coolMet p = true := by
  have htemps : (s.reportTo p .sensor).temps = s.temps := State.onEvent_temps ..
  have hexhaust : (s.reportTo p .sensor).exhaust p = s.exhaust p := by rw [State.exhaust, htemps, State.exhaust]
  by_cases hrun : (s.unit p).seq.run = .running ∨ (s.unit p).seq.run = .safe
  · have hseq : ((s.reportTo p .sensor).unit p).seq = (s.unit p).seq := by
      rw [State.reportTo, State.onEvent_unit] at hsame ⊢
      exact PocketView.report_seq_of_same_run PocketFault.ordersSafe_sensor hrun hsame
    rw [State.coolMet_iff, State.coolMet_iff, hseq, htemps, hexhaust]
  · rw [State.coolMet_iff, State.coolMet_iff, hsame]
    exact ⟨fun h => absurd h.1 hrun, fun h => absurd h.1 hrun⟩

/-- Where the COOL end is not met, SENSOR is reported and nothing is ended, in either order. -/
theorem State.afterExhaust_of_not_met (hfailing : (s.exhaust p).failing = true) (hnot : ¬s.coolMet p = true) :
    s.afterExhaust p = s.spendFree.reportTo p .sensor := by
  have hspent : ¬s.spendFree.coolMet p = true := by simpa [State.coolMet, State.exhaust] using hnot
  rcases State.afterExhaust_of_failing hfailing with h | h <;> rw [h]
  · unfold State.reportThenEnd
    dsimp only
    split
    · rename_i hsame
      exact State.coolTest_of_not_met (by rwa [State.coolMet_reportTo hsame])
    · rfl
  · rw [State.coolTest_of_not_met hspent]

/-- SENSOR is latched after the conversion that reports it, in either order. -/
theorem State.afterExhaust_latches (hfailing : (s.exhaust p).failing = true) :
    ((s.afterExhaust p).unit p).faults.has .sensor = true := by
  rcases State.afterExhaust_of_failing hfailing with h | h <;> rw [h]
  · obtain ⟨hlatched, -⟩ := (s.spendFree.view p).report_latches PocketFault.ordersSafe_sensor (s.spendFree.eventEnv p)
    rw [← State.onEvent_unit s.spendFree p fun env => PocketView.report env .sensor] at hlatched
    unfold State.reportThenEnd State.coolTest
    dsimp only
    split
    · split
      · rw [State.onEvent_unit,
          (PocketUnit.KeepsReports.endPhase (.refl _) _ .cooled).faults .sensor (by decide) (by decide)]
        exact hlatched
      · exact hlatched
    · exact hlatched
  · rw [State.reportTo, State.onEvent_unit]
    exact (PocketView.report_latches PocketFault.ordersSafe_sensor _ _).1

/-! ### SENSOR newly latched together with the COOL end -/

/-- A report of a fault newly latched takes a pocket that is neither IDLE nor PAUSED out of RUNNING and HELD (R177). -/
theorem PocketView.report_run_of_new {env : Env} {f : PocketFault} {v : PocketView} (hf : f.OrdersSafe)
    (h : v.unit.faults.has f = false) (hidle : v.unit.seq.run ≠ .idle) (hpaused : v.unit.seq.run ≠ .paused) :
    (v.report env f).unit.seq.run = .safe ∨ (v.report env f).unit.seq.run = .halted ∨
      (v.report env f).unit.seq.run = .done := by
  by_cases hdrives : v.unit.seq.run = .running ∨ v.unit.seq.run = .held
  · rw [PocketView.report_entersSafe hf h hdrives]
    exact (PocketView.enterSafe_run env _).imp_right .inl
  · have hstays : v.unit.seq.run.engaged = false ∨ v.unit.seq.run = .safe := by
      cases hr : v.unit.seq.run <;> simp [hr, RunState.engaged] at *
    rw [PocketView.report_runsOn hf h (hstays.imp_right .inl)]
    cases hr : v.unit.seq.run <;> simp [hr] at *

/-- Where the COOL end is met and SENSOR newly latched, the pocket ends without heat in SAFE, HALTED or DONE, in either order:
reported first, the SENSOR order takes a RUNNING pocket to SAFE, and a SAFE one still ends its phase. -/
theorem State.afterExhaust_of_met_new (hfailing : (s.exhaust p).failing = true) (hmet : s.coolMet p = true)
    (hnew : (s.unit p).faults.has .sensor = false) :
    let w := (s.afterExhaust p).unit p
    w.heat.IsOff ∧ w.notices.faultLatched = true ∧ (w.seq.run = .safe ∨ w.seq.run = .halted ∨ w.seq.run = .done) := by
  have hrun : (s.unit p).seq.run = .running ∨ (s.unit p).seq.run = .safe := ((s.coolMet_iff p).mp hmet).1
  have hspent : s.spendFree.coolMet p = true := by simpa [State.coolMet, State.exhaust] using hmet
  dsimp only
  rcases State.afterExhaust_of_failing hfailing with h | h <;> rw [h]
  case inl =>
    let env := s.spendFree.eventEnv p
    let v := s.spendFree.view p
    have hnew : v.unit.faults.has .sensor = false := by simpa [v] using hnew
    have hrun : v.unit.seq.run = .running ∨ v.unit.seq.run = .safe := by simpa [v] using hrun
    have hreported : (s.spendFree.reportTo p .sensor).unit p = (v.report env .sensor).unit := State.onEvent_unit ..
    obtain ⟨-, hheat⟩ := v.report_latches PocketFault.ordersSafe_sensor env
    have hraised := PocketView.report_raises PocketFault.ordersSafe_sensor hnew env
    have hleft := PocketView.report_run_of_new (env := env) PocketFault.ordersSafe_sensor hnew
      (by rcases hrun with h | h <;> simp [h]) (by rcases hrun with h | h <;> simp [h])
    rw [← hreported] at hheat hraised hleft
    unfold State.reportThenEnd
    dsimp only
    split
    · rename_i hsame
      have hsafe : ((s.spendFree.reportTo p .sensor).unit p).seq.run = .safe := by
        have hsame' : ((s.spendFree.reportTo p .sensor).unit p).seq.run = v.unit.seq.run := hsame
        rcases hrun with hrun | hrun <;> rw [hrun] at hsame' <;> simp_all
      rw [State.coolTest_of_met ((State.coolMet_reportTo hsame).mpr hspent), State.onEvent_unit]
      obtain ⟨hends, hoff⟩ := PocketView.endPhase_of_safe (v := (s.spendFree.reportTo p .sensor).view p)
        ((s.spendFree.reportTo p .sensor).eventEnv p) .cooled hsafe
      exact ⟨hoff, (PocketUnit.KeepsReports.endPhase (.refl _) _ .cooled).notices .faultLatched hraised, hends⟩
    · exact ⟨hheat, hraised, hleft⟩
  case inr =>
    let env := s.spendFree.eventEnv p
    have hended : ((s.spendFree.coolTest p).unit p) = (PocketView.endPhase env .cooled (s.spendFree.view p)).unit := by
      rw [State.coolTest_of_met hspent, State.onEvent_unit]
    have hnew : ((s.spendFree.coolTest p).unit p).faults.has .sensor = false := by
      rw [hended, (PocketUnit.KeepsReports.endPhase (.refl _) env .cooled).faults .sensor (by decide) (by decide)]
      simpa using hnew
    obtain ⟨hidle, hpaused⟩ := PocketView.endPhase_run (v := s.spendFree.view p) env .cooled (by simpa using hrun)
    rw [← hended] at hidle hpaused
    rw [State.reportTo, State.onEvent_unit]
    exact ⟨(PocketView.report_latches PocketFault.ordersSafe_sensor _ _).2,
      PocketView.report_raises PocketFault.ordersSafe_sensor hnew _,
      PocketView.report_run_of_new PocketFault.ordersSafe_sensor hnew hidle hpaused⟩

/-! ### SENSOR latched before, and the COOL end of the safe chain -/

/-- An event in which no racing write is carried out leaves the note of one as it is (R20). -/
theorem State.onEvent_raced_of_not_taken {f : Env → PocketView → PocketView}
    (h : (f (s.eventEnv p) (s.view p)).raced = false) : (s.onEvent p f).raced = s.raced := by
  unfold State.onEvent
  dsimp only
  split
  · simp [h]
  · simp

/-- A report of a fault that is latched tests the heat permission, and no write is taken in it (R176, R20). -/
theorem State.reportTo_of_latched {f : PocketFault} (hf : f.OrdersSafe) (h : (s.unit p).faults.has f = true) :
    (s.reportTo p f).view p = (s.view p).onUnit PocketUnit.checkHeat ∧ (s.reportTo p f).raced = s.raced := by
  have hreport (env : Env) : (s.view p).report env f = (s.view p).onUnit PocketUnit.checkHeat :=
    PocketView.report_of_latched hf h
  refine ⟨?_, ?_⟩
  · rw [State.reportTo, State.view, State.onEvent_pool, State.onEvent_unit, hreport]
    rfl
  · refine State.onEvent_raced_of_not_taken ?_
    rw [hreport]
    rfl

/-- The surroundings of the event that follows a report of a latched SENSOR are those of the state before, but for the free
counter. -/
theorem State.eventEnv_reportTo_of_latched (h : (s.unit p).faults.has .sensor = true) :
    (s.reportTo p .sensor).eventEnv p = ({ s with free := (s.reportTo p .sensor).free } : State).eventEnv p := by
  obtain ⟨hview, hraced⟩ := State.reportTo_of_latched PocketFault.ordersSafe_sensor h
  have hacts : s.ActsOn (s.reportTo p .sensor) p := s.onEvent_actsOn p _
  obtain ⟨⟨hother, -, hsupply, -, -, -, hpending⟩, hlink⟩ := hacts
  refine State.eventEnv_congr (s := { s with free := (s.reportTo p .sensor).free }) (s' := s.reportTo p .sensor) (fun q => ?_)
    hsupply hlink hpending hraced rfl p
  have hunit : ({ s with free := (s.reportTo p .sensor).free } : State).unit q = s.unit q := by cases q <;> rfl
  rw [hunit]
  obtain rfl | rfl := eq_or_eq_otherPocket p q
  · exact (congrArg (·.unit.seq) hview).trans (PocketUnit.checkHeat_seq _)
  · rw [hother]

/-- Where the COOL end of the safe chain is met with SENSOR latched before, the phase ends COOLED in either order. -/
theorem State.afterExhaust_of_met_latched {k : Checkpoint} (hfailing : (s.exhaust p).failing = true)
    (hmet : s.coolMet p = true) (hlatched : (s.unit p).faults.has .sensor = true) (hsafe : (s.unit p).seq.run = .safe)
    (hk : (s.unit p).seq.newest = some k) :
    let w := (s.afterExhaust p).unit p
    ((s.unit p).seq.work.next = none →
      w.seq.run = .done ∧ w.notices.chainDone = true ∧ w.seq.newest = some { k with outcome := some .cooled }) ∧
    (∀ i : SlotNo, (s.unit p).seq.work.next = some i → ∃ n : Nat,
      s.AdvancedTo (s.afterExhaust p) p (({ s with free := n } : State).eventEnv p) .cooled k i
        (s.unit p).moist.estimate) := by
  have hopen : k.outcome = none := by
    obtain ⟨-, -, ⟨k', hk', hopen⟩, -⟩ := (s.coolMet_iff p).mp hmet
    rw [hk] at hk'
    cases hk'
    exact hopen
  have hspent : s.spendFree.coolMet p = true := by simpa [State.coolMet, State.exhaust] using hmet
  have hunit : s.spendFree.unit p = s.unit p := State.spendFree_unit s p
  dsimp only
  rcases State.afterExhaust_of_failing hfailing with h | h <;> rw [h]
  case inl =>
    let r := s.spendFree.reportTo p .sensor
    have hlatched : (s.spendFree.unit p).faults.has .sensor = true := by rwa [hunit]
    obtain ⟨hview, -⟩ := State.reportTo_of_latched PocketFault.ordersSafe_sensor hlatched
    have henv : r.eventEnv p = ({ s with free := r.free } : State).eventEnv p :=
      State.eventEnv_reportTo_of_latched hlatched
    have hview : r.view p = (s.view p).onUnit PocketUnit.checkHeat := by
      rw [hview, State.view, hunit]
      rfl
    have hr : r.unit p = (s.unit p).checkHeat := congrArg PocketView.unit hview
    have hsame : (r.unit p).seq.run = (s.spendFree.unit p).seq.run := by rw [hr, PocketUnit.checkHeat_seq, hunit]
    have hended : s.spendFree.reportThenEnd p = r.onEvent p fun env => PocketView.endPhase env .cooled :=
      (if_pos hsame).trans (State.coolTest_of_met ((State.coolMet_reportTo hsame).mpr hspent))
    have hk : (r.unit p).seq.newest = some k := by rwa [hr, PocketUnit.checkHeat_seq]
    have hsafe : (r.unit p).seq.run = .safe := by rwa [hr, PocketUnit.checkHeat_seq]
    rw [hended]
    refine ⟨fun hnext => ?_, fun i hnext => ⟨r.free, ?_⟩⟩
    · obtain ⟨hdone, hnewest, -, hchain, -⟩ := State.onEvent_endPhase_done (o := .cooled) hk hopen (.inr hsafe)
        (by rwa [hr, PocketUnit.checkHeat_seq])
      exact ⟨hdone, hchain, hnewest⟩
    · have hadvanced := State.onEvent_endPhase_advances (o := .cooled) (i := i) hk hopen (.inr hsafe)
        (by rwa [hr, PocketUnit.checkHeat_seq])
      rw [henv, hr, PocketUnit.checkHeat_moist] at hadvanced
      exact hadvanced.of_checkHeat hview
  case inr =>
    let t := s.spendFree.coolTest p
    have hended : t = s.spendFree.onEvent p fun env => PocketView.endPhase env .cooled := State.coolTest_of_met hspent
    have hlatched : (t.unit p).faults.has .sensor = true := by
      rw [hended, State.onEvent_unit,
        (PocketUnit.KeepsReports.endPhase (.refl _) _ .cooled).faults .sensor (by decide) (by decide), State.view_unit, hunit]
      exact hlatched
    obtain ⟨hview, -⟩ := State.reportTo_of_latched PocketFault.ordersSafe_sensor hlatched
    have hreported : (t.reportTo p .sensor).unit p = (t.unit p).checkHeat := congrArg PocketView.unit hview
    rw [← hunit] at hk hsafe
    refine ⟨fun hnext => ?_, fun i hnext => ⟨s.free + 1, ?_⟩⟩
    · obtain ⟨hdone, hnewest, -, hchain, -⟩ := State.onEvent_endPhase_done (o := .cooled) hk hopen (.inr hsafe)
        (by rwa [hunit])
      rw [← hended] at hdone hnewest hchain
      rw [hreported, PocketUnit.checkHeat_seq, PocketUnit.checkHeat_notices]
      exact ⟨hdone, hchain, hnewest⟩
    · have hadvanced := State.onEvent_endPhase_advances (o := .cooled) (i := i) hk hopen (.inr hsafe) (by rwa [hunit])
      rw [← hended, hunit] at hadvanced
      exact (hadvanced.then_checkHeat hview).congr (by rw [State.view, hunit]; rfl)

end Exhaust
end Sys2Proof.Machine
end

section
/-! The statement on a conversion (chapter 7), by the role of its channel: AMBIENT, a pocket's inlet, or a pocket's exhaust. -/

namespace Sys2Proof.Machine

/-! ## The whole conversion -/

/-- The scan after a conversion, and what no conversion touches. -/
theorem State.afterConversion_shared (s : State) (c : Channel) (n : Nat) :
    (s.afterConversion c n).temps = s.temps.converted c n ∧ (s.afterConversion c n).supply = s.supply ∧
      (s.afterConversion c n).trend = s.trend ∧ (s.afterConversion c n).device = s.device ∧
      (s.afterConversion c n).link = s.link := by
  rcases channel_cases c with rfl | ⟨p, rfl⟩ | ⟨p, rfl⟩
  · exact ⟨rfl, rfl, rfl, rfl, rfl⟩
  · rw [State.afterConversion_inlet, ← State.convert_temps (inletChannel_ne_ambient p)]
    obtain ⟨⟨-, htemps, hsupply, hdevice, htrend, -⟩, hlink⟩ := (s.convert (inletChannel p) n).afterInlet_actsOn p
    exact ⟨htemps, hsupply, htrend, hdevice, hlink⟩
  · rw [State.afterConversion_exhaust, ← State.convert_temps (exhaustChannel_ne_ambient p)]
    obtain ⟨⟨-, htemps, hsupply, hdevice, htrend, -⟩, hlink⟩ := (s.convert (exhaustChannel p) n).afterExhaust_actsOn p
    exact ⟨htemps, hsupply, htrend, hdevice, hlink⟩

/-- A conversion of a channel that is not the pocket's leaves the pocket. -/
theorem State.afterConversion_unit (s : State) {c : Channel} {p : Pocket} (n : Nat) (hinlet : c ≠ inletChannel p)
    (hexhaust : c ≠ exhaustChannel p) : (s.afterConversion c n).unit p = s.unit p := by
  rcases channel_cases c with rfl | ⟨q, rfl⟩ | ⟨q, rfl⟩
  · cases p <;> rfl
  · obtain rfl : p = otherPocket q := (eq_or_eq_otherPocket q p).resolve_left fun h => hinlet (h ▸ rfl)
    rw [State.afterConversion_inlet]
    obtain ⟨⟨hother, -⟩, -⟩ := (s.convert (inletChannel q) n).afterInlet_actsOn q
    exact hother.trans (by cases q <;> rfl)
  · obtain rfl : p = otherPocket q := (eq_or_eq_otherPocket q p).resolve_left fun h => hexhaust (h ▸ rfl)
    rw [State.afterConversion_exhaust]
    obtain ⟨⟨hother, -⟩, -⟩ := (s.convert (exhaustChannel q) n).afterExhaust_actsOn q
    exact hother.trans (by cases q <;> rfl)

section Pocket

variable {s : State} {p : Pocket} {n : Nat}

/-! ## A conversion beside the pocket -/

@[simp] theorem State.convert_unit (s : State) (c : Channel) (n : Nat) (p : Pocket) : (s.convert c n).unit p = s.unit p := by
  cases p <;> rfl

@[simp] theorem State.convert_view (s : State) (c : Channel) (n : Nat) (p : Pocket) : (s.convert c n).view p = s.view p := by
  cases p <;> rfl

@[simp] theorem State.convert_eventEnv (s : State) (c : Channel) (n : Nat) (p : Pocket) :
    (s.convert c n).eventEnv p = s.eventEnv p := by cases p <;> rfl

theorem State.convert_inlet (s : State) (p : Pocket) (n : Nat) :
    (s.convert (inletChannel p) n).inlet p = (s.temps.channel (inletChannel p)).take n := by cases p <;> rfl

theorem State.convert_exhaust (s : State) (p : Pocket) (n : Nat) :
    (s.convert (exhaustChannel p) n).exhaust p = (s.temps.channel (exhaustChannel p)).take n := by cases p <;> rfl

/-- The COOL end condition after a conversion of the exhaust channel: the threshold is AMBIENT's, which it leaves (R31). -/
theorem State.convert_coolMet_iff :
    (s.convert (exhaustChannel p) n).coolMet p = true ↔
      ((s.unit p).seq.run = .running ∨ (s.unit p).seq.run = .safe) ∧ (s.unit p).seq.work.kind = .cool ∧
        (∃ k : Checkpoint, (s.unit p).seq.newest = some k ∧ k.outcome = none) ∧
        ∃ x : Int, ((s.temps.channel (exhaustChannel p)).take n).reading = some x ∧
          x ≤ s.temps.coolThreshold (s.unit p).seq.work.cool.endTemp := by
  have hthreshold (e : Int) : (s.convert (exhaustChannel p) n).temps.coolThreshold e = s.temps.coolThreshold e := by
    cases p <;> rfl
  rw [State.coolMet_iff, State.convert_exhaust, State.convert_unit, hthreshold]

/-! ## The inlet channel -/

theorem State.afterConversion_inlet_good {x : Int} (hgood : 16 ≤ n ∧ n < 4080)
    (hx : ((s.temps.channel (inletChannel p)).take n).reading = some x) :
    let t := s.afterConversion (inletChannel p) n
    (s.supply.config.inletHigh < x → s.SafeOrderReported t p .overheat) ∧
      (x ≤ s.supply.config.inletHigh → t = { s with temps := t.temps }) := by
  let r := s.convert (inletChannel p) n
  have hnow : (r.inlet p).goodNow = true := by
    rw [State.convert_inlet, TempChannel.take_of_good hgood]
    rfl
  have hreading : (r.inlet p).reading = some x := by rw [State.convert_inlet, hx]
  dsimp only
  rw [State.afterConversion_inlet]
  refine ⟨fun hhot => ?_, fun hcool => ?_⟩
  · rw [State.afterInlet_of_hot hnow hreading hhot]
    exact (State.reportTo_safeOrderReported PocketFault.ordersSafe_overheat r p).congr (by simp [r]) (by simp [r])
  · rw [State.afterInlet_of_not_hot hnow hreading hcool]
    rfl

theorem State.afterConversion_inlet_bad (hbad : n ≤ 15 ∨ 4080 ≤ n) :
    let t := s.afterConversion (inletChannel p) n
    (2 ≤ (s.temps.channel (inletChannel p)).badScans → s.SafeOrderReported t p .sensor) ∧
      ((s.temps.channel (inletChannel p)).badScans < 2 → t = { s with temps := t.temps }) := by
  let r := s.convert (inletChannel p) n
  have hnow : (r.inlet p).goodNow = false := by rw [State.convert_inlet, TempChannel.take_goodNow_of_bad hbad]
  dsimp only
  rw [State.afterConversion_inlet, State.afterInlet_of_bad hnow, State.convert_inlet, TempChannel.take_failing hbad]
  refine ⟨fun h => ?_, fun h => ?_⟩
  · rw [if_pos (decide_eq_true h)]
    exact (State.reportTo_safeOrderReported PocketFault.ordersSafe_sensor r p).congr (by simp [r]) (by simp [r])
  · rw [if_neg (by simpa using h)]
    rfl

/-! ## The exhaust channel -/

/-- A conversion of the exhaust channel that reports no SENSOR tests the COOL end (R31). -/
theorem State.afterConversion_exhaust_quiet
    (h : (16 ≤ n ∧ n < 4080) ∨ (s.temps.channel (exhaustChannel p)).badScans < 2) :
    s.afterConversion (exhaustChannel p) n = (s.convert (exhaustChannel p) n).coolTest p := by
  rw [State.afterConversion_exhaust, State.afterExhaust_of_not_failing]
  rw [State.convert_exhaust]
  by_cases hgood : 16 ≤ n ∧ n < 4080
  · exact TempChannel.take_good_failing hgood _
  · rw [TempChannel.take_failing (by omega)]
    simpa using h.resolve_left hgood

/-- The COOL end at a conversion that reports no SENSOR. -/
theorem State.afterConversion_exhaust_cool {x : Int} {k : Checkpoint}
    (h : (16 ≤ n ∧ n < 4080) ∨ (s.temps.channel (exhaustChannel p)).badScans < 2)
    (hx : ((s.temps.channel (exhaustChannel p)).take n).reading = some x)
    (hrun : (s.unit p).seq.run = .running ∨ (s.unit p).seq.run = .safe) (hk : (s.unit p).seq.newest = some k)
    (hopen : k.outcome = none) (hkind : (s.unit p).seq.work.kind = .cool) :
    let t := s.afterConversion (exhaustChannel p) n
    let threshold := s.temps.coolThreshold (s.unit p).seq.work.cool.endTemp
    (threshold < x → t = { s with temps := t.temps }) ∧
    (x ≤ threshold → (s.unit p).seq.run = .running → (s.unit p).seq.work.quals.holdAtEnd = true →
      s.link.silenceExpired = false →
      (t.unit p).seq.run = .held ∧ (t.unit p).seq.newest = some { k with outcome := some .cooled } ∧
        (t.unit p).notices.phaseEnd = true ∧ (t.unit p).notices.held = true ∧ t.pool = s.pool) ∧
    (x ≤ threshold → ((s.unit p).seq.run = .running ∧ (s.unit p).seq.work.quals.holdAtEnd = false ∨
        (s.unit p).seq.run = .safe) → (s.unit p).seq.work.next = none →
      (t.unit p).seq.run = .done ∧ (t.unit p).seq.newest = some { k with outcome := some .cooled } ∧
        (t.unit p).notices.phaseEnd = true ∧ (t.unit p).notices.chainDone = true ∧
        (t.unit p).seq.work.active = none) ∧
    (∀ i : SlotNo, x ≤ threshold → ((s.unit p).seq.run = .running ∧ (s.unit p).seq.work.quals.holdAtEnd = false ∨
        (s.unit p).seq.run = .safe) → (s.unit p).seq.work.next = some i →
      s.AdvancedTo t p (s.eventEnv p) .cooled k i (s.unit p).moist.estimate) := by
  let r := s.convert (exhaustChannel p) n
  have hr : r.unit p = s.unit p := State.convert_unit ..
  have hended (hle : x ≤ s.temps.coolThreshold (s.unit p).seq.work.cool.endTemp) :
      r.coolTest p = r.onEvent p fun env => PocketView.endPhase env .cooled :=
    State.coolTest_of_met (State.convert_coolMet_iff.mpr ⟨hrun, hkind, ⟨k, hk, hopen⟩, x, hx, hle⟩)
  have hk' : (r.unit p).seq.newest = some k := by rwa [hr]
  dsimp only
  rw [State.afterConversion_exhaust_quiet h]
  refine ⟨fun hlt => ?above, fun hle hrun hhold hquiet => ?held, fun hle hrun hnext => ?done, fun i hle hrun hnext => ?next⟩
  case above =>
    rw [State.coolTest_of_not_met]
    · rfl
    · rw [State.convert_coolMet_iff]
      rintro ⟨-, -, -, x', hx', hle⟩
      rw [hx] at hx'
      cases hx'
      omega
  case held =>
    rw [hended hle]
    exact State.onEvent_endPhase_holds hk' hopen (by rwa [hr]) (by rwa [hr]) rfl hquiet
  case done =>
    rw [hended hle]
    exact State.onEvent_endPhase_done hk' hopen (by rwa [hr]) (by rwa [hr])
  case next =>
    have hadvanced := State.onEvent_endPhase_advances (o := .cooled) hk' hopen (by rwa [hr]) (i := i) (by rwa [hr])
    rw [State.convert_eventEnv, hr] at hadvanced
    rw [hended hle]
    exact hadvanced.congr (State.convert_view ..)

/-- A conversion of the exhaust channel that reports SENSOR. -/
theorem State.afterConversion_exhaust_sensor (hbad : n ≤ 15 ∨ 4080 ≤ n)
    (h : 2 ≤ (s.temps.channel (exhaustChannel p)).badScans) :
    let t := s.afterConversion (exhaustChannel p) n
    let u := s.unit p
    let ends : Prop := (u.seq.run = .running ∨ u.seq.run = .safe) ∧ u.seq.work.kind = .cool ∧
      (∃ k : Checkpoint, u.seq.newest = some k ∧ k.outcome = none) ∧
      ∃ x : Int, (s.temps.channel (exhaustChannel p)).reading = some x ∧ x ≤ s.temps.coolThreshold u.seq.work.cool.endTemp
    (t.unit p).faults.sensor = true ∧
    (¬ends → ({ s with free := s.free + 1 } : State).SafeOrderReported t p .sensor) ∧
    (ends → u.faults.sensor = false → (t.unit p).heat.IsOff ∧ (t.unit p).notices.faultLatched = true ∧
      ((t.unit p).seq.run = .safe ∨ (t.unit p).seq.run = .halted ∨ (t.unit p).seq.run = .done)) ∧
    (∀ k : Checkpoint, ends → u.faults.sensor = true → u.seq.run = .safe → u.seq.newest = some k →
      (u.seq.work.next = none → (t.unit p).seq.run = .done ∧ (t.unit p).notices.chainDone = true ∧
        (t.unit p).seq.newest = some { k with outcome := some .cooled }) ∧
      (∀ i : SlotNo, u.seq.work.next = some i → ∃ n : Nat,
        s.AdvancedTo t p (({ s with free := n } : State).eventEnv p) .cooled k i u.moist.estimate)) := by
  intro t u ends
  let r := s.convert (exhaustChannel p) n
  have hr : r.unit p = u := State.convert_unit ..
  have hmet : ends ↔ r.coolMet p = true := by
    rw [State.convert_coolMet_iff, TempChannel.take_of_bad hbad]
  have hfailing : (r.exhaust p).failing = true := by
    rw [State.convert_exhaust, TempChannel.take_failing hbad]
    exact decide_eq_true h
  have ht : t = r.afterExhaust p := State.afterConversion_exhaust ..
  rw [ht]
  refine ⟨State.afterExhaust_latches hfailing, fun hnot => ?_, fun hends hnew => ?_, fun k hends hlatched hsafe hk => ?_⟩
  · rw [State.afterExhaust_of_not_met hfailing (by rwa [← hmet])]
    exact (State.reportTo_safeOrderReported PocketFault.ordersSafe_sensor r.spendFree p).congr
      (by cases p <;> rfl) (by cases p <;> rfl)
  · exact State.afterExhaust_of_met_new hfailing (hmet.mp hends) (by rwa [hr])
  · obtain ⟨hdone, hnext⟩ := State.afterExhaust_of_met_latched (k := k) hfailing (hmet.mp hends) (by rwa [hr]) (by rwa [hr])
      (by rwa [hr])
    rw [hr] at hdone hnext
    refine ⟨hdone, fun i hi => ?_⟩
    obtain ⟨m, hadvanced⟩ := hnext i hi
    refine ⟨m, ?_⟩
    have henv : ({ r with free := m } : State).eventEnv p = ({ s with free := m } : State).eventEnv p := by
      cases p <;> rfl
    rw [henv] at hadvanced
    exact hadvanced.congr (State.convert_view ..)

end Pocket

/-! ## The statement -/

/-- Settles O40: the scan and the frame for every channel, then a good conversion, the COOL end without SENSOR, and a bad
conversion, each by the pocket that the channel belongs to. -/
theorem conversionActsOnItsChannel : Obligations.ConversionActsOnItsChannel := by
  unfold Obligations.ConversionActsOnItsChannel
  intro c count s
  obtain ⟨htemps, hsupply, htrend, hdevice, hlink⟩ := s.afterConversion_shared c count.toNat
  have hchannel : (s.afterConversion c count.toNat).temps.channel c = (s.temps.channel c).take count.toNat := by
    rw [htemps, TempScan.converted_channel]
  have hhealthy := s.temps.converted_healthy c count.toNat
  rw [← htemps] at hhealthy
  obtain ⟨hcal, hcount⟩ := (s.temps.channel c).take_keeps count.toNat
  refine ⟨s.afterConversion c count.toNat, exec_channelConversion c count s, hsupply, htrend, hdevice, hlink, ?others,
    by rw [hchannel, hcal], by rw [hchannel, hcount], ?ambient, fun p => s.afterConversion_unit count.toNat,
    fun hgood => ?good, fun hquiet p x k hc hx hrun hk hopen hkind => ?cool, fun hbad => ?bad⟩
  case others =>
    intro d hd
    rw [htemps, TempScan.converted_channel_other _ hd]
  case ambient =>
    rintro rfl
    rfl
  case good =>
    have htake := hchannel.trans (TempChannel.take_of_good hgood _)
    rw [htake]
    refine ⟨rfl, rfl, rfl, rfl, ?_, fun p x hc hx => ?_⟩
    · rw [hhealthy, TempChannel.take_of_good hgood]
      rfl
    · subst hc
      rw [← htake, hchannel] at hx
      exact State.afterConversion_inlet_good hgood hx
  case cool =>
    subst hc
    rw [hchannel] at hx
    exact State.afterConversion_exhaust_cool hquiet hx hrun hk hopen hkind
  case bad =>
    rw [hchannel, TempChannel.take_of_bad hbad]
    refine ⟨rfl, rfl, rfl, rfl, ?_, fun p hc => ?_, fun p hc hthird => ?_⟩
    · rw [hhealthy, nextHealthy, TempChannel.take_goodNow_of_bad hbad, TempChannel.take_failing hbad]
      by_cases hc : c = .ambient <;> simp [hc]
    · subst hc
      exact State.afterConversion_inlet_bad hbad
    · subst hc
      exact State.afterConversion_exhaust_sensor hbad hthird

end Sys2Proof.Machine
end

section
/-! A zero-cross (chapter 8) on a pocket and on an element: the state that the arbiter examines, and what its decision makes
of it. -/

namespace Sys2Proof.Machine

theorem exec_zeroCross (s : State) : exec .zeroCross s = .next s.zeroCross := rfl

/-! ## Before the arbiter step (R154, R164) -/

/-- The state after the frame boundary of a zero-cross, if it has one (R154, steps 1 and 2). -/
def State.framed (s : State) : State :=
  let a := { s with supply := s.supply.seesMains }
  if s.supply.framePos = 0 then a.frameBoundary else a

/-- The state that the arbiter of a zero-cross examines (R164, R165). -/
def State.examined (s : State) : State := s.framed.accumulate

theorem State.framed_unit (s : State) (p : Pocket) :
    s.framed.unit p =
      if s.supply.framePos = 0 then (s.unit p).beginFrame s.supply.config p (s.demandOf p) else s.unit p := by
  unfold State.framed
  cases p <;> split <;> rfl

theorem State.framed_supply (s : State) : s.framed.supply = s.supply.seesMains := by
  unfold State.framed
  split <;> rfl

@[simp] theorem State.examined_config (s : State) : s.examined.supply.config = s.supply.config := by
  simp [State.examined, State.accumulate, State.framed_supply, Supply.seesMains]

@[simp] theorem State.examined_pointer (s : State) : s.examined.supply.pointer = s.supply.pointer := by
  simp [State.examined, State.accumulate, State.framed_supply, Supply.seesMains]

theorem State.examined_unit (s : State) (p : Pocket) :
    s.examined.unit p = (s.framed.unit p).accumulate s.supply.config.frame := by
  rw [← s.examined_config]
  cases p <;> rfl

/-- A zero-cross on a pocket: the arbiter's decision on what was examined, then the count of the reserve (R154). -/
theorem State.zeroCross_unit (s : State) (p : Pocket) :
    s.zeroCross.unit p =
      ((s.examined.unit p).decided s.supply.config.frame p s.examined.examine.granted).countReserve := by
  rw [← s.examined_config]
  cases p <;> rfl

theorem State.zeroCross_pointer (s : State) :
    s.zeroCross.supply.pointer = s.examined.examine.pointer s.supply.pointer := by
  rw [← s.examined_pointer]
  rfl

/-! ## The elements of a pocket -/

@[simp] theorem Element.accumulate_onCount (frame : Nat) (x : Element) : (x.accumulate frame).onCount = x.onCount := by
  unfold Element.accumulate
  split <;> rfl

theorem Element.accumulate_accumulator (frame : Nat) (x : Element) :
    (x.accumulate frame).accumulator =
      if 0 < x.onCount then min (2 * frame - 1) (x.accumulator + x.onCount) else x.accumulator := by
  unfold Element.accumulate
  split <;> rfl

@[simp] theorem PocketUnit.accumulate_elements (frame : Nat) (u : PocketUnit) (j : Fin 3) :
    (u.accumulate frame).heat.elements[j] = u.heat.elements[j].accumulate frame := by
  simp [PocketUnit.accumulate]

@[simp] theorem PocketUnit.decided_elements (frame : Nat) (p : Pocket) (granted : List ElementNo) (u : PocketUnit)
    (j : Fin 3) :
    (u.decided frame p granted).heat.elements[j] =
      u.heat.elements[j].decided frame (decide (elementNo p j ∈ granted)) := by
  simp [PocketUnit.decided]

/-- An element of a pocket after a zero-cross (R164, R166). -/
theorem State.zeroCross_elements (s : State) (p : Pocket) (j : Fin 3) :
    (s.zeroCross.unit p).heat.elements[j] =
      ((s.framed.unit p).heat.elements[j].accumulate s.supply.config.frame).decided s.supply.config.frame
        (decide (elementNo p j ∈ s.examined.examine.granted)) := by
  rw [← PocketUnit.accumulate_elements, ← State.examined_unit, ← PocketUnit.decided_elements, State.zeroCross_unit]
  rfl

theorem State.zeroCross_onCount (s : State) (p : Pocket) (j : Fin 3) :
    (s.zeroCross.unit p).heat.elements[j].onCount = (s.framed.unit p).heat.elements[j].onCount := by
  rw [State.zeroCross_elements]
  exact Element.accumulate_onCount ..

end Sys2Proof.Machine
end

section
/-! The frame boundary (chapter 8): heat permission, the demand of a frame by the readings, its bound, the split of a demand
over the present elements, and the statement. -/

namespace Sys2Proof.Machine

/-! ## Heat permission (R157) -/

theorem Kind.heats_iff (k : Kind) : k.heats = true ↔ k = .dry ∨ k = .timed := by
  cases k <;> decide

theorem PocketUnit.hasPermission_iff (u : PocketUnit) :
    u.hasPermission = true ↔
      u.seq.run = .running ∧ (u.seq.work.kind = .dry ∨ u.seq.work.kind = .timed) ∧ u.pins.door = true ∧
        u.faults.overheat = false ∧ u.faults.sensor = false ∧ u.faults.airflow = false ∧ u.faults.linkLost = false := by
  simp [PocketUnit.hasPermission, Kind.heats_iff, and_assoc]

/-! ## Present elements -/

theorem Appliance.presentBefore_zero (a : Appliance) (p : Pocket) : a.presentBefore p 0 = 0 := by
  simp [Appliance.presentBefore]

theorem Appliance.presentBefore_eq_length (a : Appliance) (p : Pocket) (j : Fin 3) :
    a.presentBefore p j.val = ((List.finRange 3).filter fun k => k < j ∧ a.weightOf p k ≠ 0).length := by
  rw [Appliance.presentBefore, List.countP_eq_length_filter]
  exact congrArg List.length (List.filter_congr fun k _ => (Bool.decide_and ..).symm)

theorem Appliance.presentBefore_three (a : Appliance) (p : Pocket) :
    a.presentBefore p 3 = ((List.finRange 3).filter fun j => a.weightOf p j ≠ 0).length := by
  simp [Appliance.presentBefore, List.countP_eq_length_filter]

theorem Appliance.presentBefore_eq_add (a : Appliance) (p : Pocket) (n : Nat) :
    a.presentBefore p n = (if 0 < n ∧ a.weightOf p 0 ≠ 0 then 1 else 0) + (if 1 < n ∧ a.weightOf p 1 ≠ 0 then 1 else 0) +
      (if 2 < n ∧ a.weightOf p 2 ≠ 0 then 1 else 0) := by
  have hplaces : List.finRange 3 = [0, 1, 2] := by decide
  simp only [Appliance.presentBefore, hplaces, List.countP_cons, List.countP_nil, Bool.and_eq_true, decide_eq_true_eq]
  change 0 + (if 2 < n ∧ a.weightOf p 2 ≠ 0 then 1 else 0) + (if 1 < n ∧ a.weightOf p 1 ≠ 0 then 1 else 0) +
    (if 0 < n ∧ a.weightOf p 0 ≠ 0 then 1 else 0) = _
  omega

/-- The elements before the next place are those before this one, and the element here if it is present. -/
theorem Appliance.presentBefore_succ (a : Appliance) (p : Pocket) (j : Fin 3) :
    a.presentBefore p (j.val + 1) = a.presentBefore p j.val + if a.weightOf p j = 0 then 0 else 1 := by
  rw [a.presentBefore_eq_add, a.presentBefore_eq_add]
  match j with
  | 0 => by_cases hweight : a.weightOf p 0 = 0 <;> simp [hweight]
  | 1 => by_cases hweight : a.weightOf p 1 = 0 <;> simp [hweight]
  | 2 => by_cases hweight : a.weightOf p 2 = 0 <;> simp [hweight]

/-! ## The split (R162) -/

/-- An element takes what the demand still holds of its F cycles, after the present elements before it. -/
theorem Appliance.onCount_add_taken (a : Appliance) (p : Pocket) (d : Nat) (j : Fin 3) :
    a.onCount p d j + min d (a.presentBefore p j.val * a.frame) = min d (a.presentBefore p (j.val + 1) * a.frame) := by
  rw [a.presentBefore_succ, Appliance.onCount]
  by_cases hweight : a.weightOf p j = 0
  · simp [hweight]
  · rw [if_neg hweight, if_neg hweight, Nat.succ_mul]
    omega

/-- The on-counts of a demand within the maximum add up to it. -/
theorem Appliance.onCount_sum {a : Appliance} {p : Pocket} {d : Nat} (hd : d ≤ a.maxDemand p) :
    a.onCount p d 0 + a.onCount p d 1 + a.onCount p d 2 = d := by
  have hfirst : a.onCount p d 0 + min d (a.presentBefore p 0 * a.frame) = min d (a.presentBefore p 1 * a.frame) :=
    a.onCount_add_taken p d 0
  have hsecond : a.onCount p d 1 + min d (a.presentBefore p 1 * a.frame) = min d (a.presentBefore p 2 * a.frame) :=
    a.onCount_add_taken p d 1
  have hthird : a.onCount p d 2 + min d (a.presentBefore p 2 * a.frame) = min d (a.presentBefore p 3 * a.frame) :=
    a.onCount_add_taken p d 2
  rw [a.presentBefore_zero, Nat.zero_mul, Nat.min_zero] at hfirst
  rw [Appliance.maxDemand, Nat.mul_comm] at hd
  rw [Nat.min_eq_left hd] at hthird
  omega

/-! ## The demand (R159 to R161) -/

theorem proportional_le (setpoint inlet : Int) (band dmax : Nat) : proportional setpoint inlet band dmax ≤ dmax := by
  unfold proportional
  split
  · exact Nat.zero_le _
  · exact Nat.min_le_left ..

theorem applyCeilings_le (g : HeatGroup) (dmax : Nat) (turning limitReached : Bool) (d : Nat) :
    applyCeilings g dmax turning limitReached d ≤ d := by
  have hpause : (if turning = true then d else min d (ceilingCap dmax g.pauseCeiling)) ≤ d := by
    split
    · exact Nat.le_refl d
    · exact Nat.min_le_left ..
  unfold applyCeilings
  dsimp only
  split
  · exact Nat.le_trans (Nat.min_le_left ..) hpause
  · exact hpause

theorem heatDemand_le (g : HeatGroup) (dmax : Nat) (inlet exhaust : Int) (turning limitReached : Bool) :
    heatDemand g dmax inlet exhaust turning limitReached ≤ dmax := by
  refine Nat.le_trans (applyCeilings_le ..) ?_
  split
  · exact Nat.zero_le _
  · exact proportional_le ..

theorem State.demandOf_of_readings {s : State} {p : Pocket} {i x : Int} (hpermission : (s.unit p).hasPermission = true)
    (hinlet : (s.inlet p).reading = some i) (hexhaust : (s.exhaust p).reading = some x) :
    s.demandOf p =
      heatDemand (s.unit p).seq.work.heat (s.supply.config.maxDemand p) i x (s.unit p).drum.isTurning
        (s.unit p).drum.limitReached := by
  simp [State.demandOf, hpermission, hinlet, hexhaust]

/-- Without permission or without a reading there is no demand (R158, R159). -/
theorem State.demandOf_eq_zero {s : State} {p : Pocket}
    (h : (s.unit p).hasPermission = false ∨ (s.inlet p).reading = none ∨ (s.exhaust p).reading = none) :
    s.demandOf p = 0 := by
  unfold State.demandOf
  rcases h with hpermission | hinlet | hexhaust
  · simp [hpermission]
  · simp [hinlet]
  · cases hinlet : (s.inlet p).reading <;> simp [hexhaust]

theorem State.demandOf_le (s : State) (p : Pocket) : s.demandOf p ≤ s.supply.config.maxDemand p := by
  by_cases hnone : (s.unit p).hasPermission = false ∨ (s.inlet p).reading = none ∨ (s.exhaust p).reading = none
  · rw [State.demandOf_eq_zero hnone]
    exact Nat.zero_le _
  · obtain ⟨hpermission, hinlet, hexhaust⟩ := not_or.mp hnone |>.imp_right not_or.mp
    obtain ⟨i, hinlet⟩ := Option.ne_none_iff_exists'.mp hinlet
    obtain ⟨x, hexhaust⟩ := Option.ne_none_iff_exists'.mp hexhaust
    rw [State.demandOf_of_readings (by simpa using hpermission) hinlet hexhaust]
    exact heatDemand_le ..

/-! ## The zero-cross of a frame boundary -/

/-- What a zero-cross with frame position 0 leaves of a pocket's frame (R154, R162, R170, R171). -/
theorem State.zeroCross_of_boundary {s : State} (hpos : s.supply.framePos = 0) (p : Pocket) :
    (s.zeroCross.unit p).heat.demand = s.demandOf p ∧
      (s.zeroCross.unit p).heat.grantedLast = (s.unit p).heat.grantedNow ∧
      (s.zeroCross.unit p).heat.airTimer = airTimerAt (s.demandOf p) (s.unit p).pins.airf (s.unit p).heat.airTimer ∧
      ∀ j : Fin 3, (s.zeroCross.unit p).heat.elements[j].onCount = s.supply.config.onCount p (s.demandOf p) j := by
  have hframed := s.framed_unit p
  rw [if_pos hpos] at hframed
  obtain ⟨-, -, -, -, -, helements⟩ := (s.unit p).beginFrame_does s.supply.config p (s.demandOf p)
  refine ⟨?_, ?_, ?_, fun j => by rw [State.zeroCross_onCount, hframed, helements]⟩ <;>
  · rw [State.zeroCross_unit, State.examined_unit, hframed]
    rfl

/-! ## The statement -/

/-- Settles O43: the demand by permission and readings, its split, and the rest of the frame boundary. -/
theorem frameBoundaryFormsDemand : Obligations.FrameBoundaryFormsDemand := by
  unfold Obligations.FrameBoundaryFormsDemand
  refine ⟨PocketUnit.hasPermission_iff, fun s hpos => ⟨s.zeroCross, exec_zeroCross s, fun p => ?_⟩⟩
  obtain ⟨hdemand, hgranted, htimer, hcount⟩ := State.zeroCross_of_boundary hpos p
  simp only [hdemand, hgranted, htimer, hcount, ← Appliance.presentBefore_three, ← Appliance.presentBefore_eq_length]
  refine ⟨State.demandOf_eq_zero, fun i x hpermission hinlet hexhaust => ?_, Appliance.onCount_sum (s.demandOf_le p),
    fun j => rfl, trivial, rfl⟩
  rw [State.demandOf_of_readings hpermission hinlet hexhaust]
  simp [heatDemand, applyCeilings, Drum.isTurning, ceilingCap, proportional, Appliance.maxDemand]

end Sys2Proof.Machine
end

section
/-! The examination of the elements (R166): what is left, granted and denied after each element of an order without
repetition. -/

namespace Sys2Proof.Machine

section Visits
variable {requests : ElementNo → Bool} {weights : Vector Nat 6} {x : Examination} {e f : ElementNo}

/-! ## One element -/

theorem Examination.mem_granted_visit :
    f ∈ (x.visit requests weights e).granted ↔
      f ∈ x.granted ∨ (f = e ∧ requests e = true ∧ weights[e] ≤ x.left) := by
  obtain ⟨hreq, hvisit⟩ | ⟨hreq, hfits, hvisit⟩ | ⟨hreq, hover, hvisit⟩ :=
    Examination.visit_cases requests weights x e <;> rw [hvisit]
  · simp [hreq]
  · simp [hreq, hfits, -Fin.getElem_fin]
  · simp [Nat.not_le.mpr hover, -Fin.getElem_fin]

theorem Examination.left_visit_add :
    (x.visit requests weights e).left + (if requests e = true ∧ weights[e] ≤ x.left then weights[e] else 0) = x.left := by
  obtain ⟨hreq, hvisit⟩ | ⟨hreq, hfits, hvisit⟩ | ⟨hreq, hover, hvisit⟩ :=
    Examination.visit_cases requests weights x e <;> rw [hvisit]
  · simp [hreq]
  · simp [hreq, hfits, -Fin.getElem_fin]
  · simp [Nat.not_le.mpr hover, -Fin.getElem_fin]

theorem Examination.denied_visit :
    (x.visit requests weights e).denied =
      x.denied ++ if requests e = true ∧ ¬weights[e] ≤ x.left then [e] else [] := by
  obtain ⟨hreq, hvisit⟩ | ⟨hreq, hfits, hvisit⟩ | ⟨hreq, hover, hvisit⟩ :=
    Examination.visit_cases requests weights x e <;> rw [hvisit]
  · simp [hreq]
  · simp [hfits, -Fin.getElem_fin]
  · simp [hreq, hover, -Fin.getElem_fin]

end Visits

/-! ## An order of elements -/

/-- The examination of the elements of an order, one after the other (R166, step 3). -/
def Examination.visits (requests : ElementNo → Bool) (weights : Vector Nat 6) (x : Examination) (order : List ElementNo) :
    Examination :=
  order.foldl (Examination.visit requests weights) x

theorem State.examine_eq (s : State) :
    s.examine = Examination.visits s.requests s.supply.config.weights { left := s.budgetInForce, granted := [], denied := [] }
      (examinationOrder s.supply.pointer) := rfl

/-- None of the elements of an order is granted before they are examined. -/
def Examination.Fresh (x : Examination) (order : List ElementNo) : Prop := ∀ e : ElementNo, e ∈ order → e ∉ x.granted

/-- The units that the granted elements among `l` take. -/
def takenUnits (weights : Vector Nat 6) (granted l : List ElementNo) : Nat :=
  (l.map fun e => if e ∈ granted then weights[e] else 0).sum

theorem takenUnits_cons (weights : Vector Nat 6) (granted l : List ElementNo) (e : ElementNo) :
    takenUnits weights granted (e :: l) = (if e ∈ granted then weights[e] else 0) + takenUnits weights granted l := by
  rw [takenUnits, List.map_cons, List.sum_cons, ← takenUnits]

/-- Units are taken by the elements of the list alone. -/
theorem takenUnits_congr {weights : Vector Nat 6} {granted granted' l : List ElementNo}
    (h : ∀ e : ElementNo, e ∈ l → (e ∈ granted ↔ e ∈ granted')) :
    takenUnits weights granted l = takenUnits weights granted' l :=
  congrArg List.sum (List.map_congr_left fun e he => by simp only [h e he])

section Orders
variable {requests : ElementNo → Bool} {weights : Vector Nat 6} {x : Examination} {order before rest : List ElementNo}
  {e : ElementNo}

theorem Examination.visits_nil : x.visits requests weights [] = x := rfl

theorem Examination.visits_cons :
    x.visits requests weights (e :: order) = (x.visit requests weights e).visits requests weights order := rfl

theorem Examination.visits_append :
    x.visits requests weights (before ++ rest) = (x.visits requests weights before).visits requests weights rest :=
  List.foldl_append

/-- The examination of other elements does not bear on whether one was granted. -/
theorem Examination.mem_granted_visits_of_notMem (h : e ∉ order) :
    e ∈ (x.visits requests weights order).granted ↔ e ∈ x.granted := by
  induction order generalizing x with
  | nil => rw [Examination.visits_nil]
  | cons f order ih =>
    obtain ⟨hne, horder⟩ := not_or.mp (mt List.mem_cons.mpr h)
    rw [Examination.visits_cons, ih horder, Examination.mem_granted_visit]
    simp only [hne, false_and, or_false]

/-- The first element of an order is granted exactly if it requests and fits what is left. -/
theorem Examination.mem_granted_visits_cons (horder : e ∉ order) (hfresh : e ∉ x.granted) :
    e ∈ (x.visits requests weights (e :: order)).granted ↔ requests e = true ∧ weights[e] ≤ x.left := by
  rw [Examination.visits_cons, Examination.mem_granted_visits_of_notMem horder, Examination.mem_granted_visit]
  simp only [hfresh, false_or, true_and]

theorem Examination.Fresh.visit (horder : e ∉ order) (hfresh : x.Fresh (e :: order)) :
    (x.visit requests weights e).Fresh order := by
  intro f hf hgranted
  rcases Examination.mem_granted_visit.mp hgranted with hbefore | ⟨rfl, -, -⟩
  · exact hfresh f (List.mem_cons_of_mem e hf) hbefore
  · exact horder hf

/-- What the elements of an order take and what they leave make up what there was. -/
theorem Examination.left_visits_add (horder : order.Nodup) (hfresh : x.Fresh order) :
    (x.visits requests weights order).left + takenUnits weights (x.visits requests weights order).granted order = x.left := by
  induction order generalizing x with
  | nil => rfl
  | cons e order ih =>
    obtain ⟨hnew, horder⟩ := List.nodup_cons.mp horder
    have hrest := ih horder (hfresh.visit (requests := requests) (weights := weights) hnew)
    have hfirst := Examination.left_visit_add (requests := requests) (weights := weights) (x := x) (e := e)
    have hgranted := Examination.mem_granted_visits_cons (requests := requests) (weights := weights) hnew
      (hfresh e List.mem_cons_self)
    simp only [takenUnits_cons, hgranted]
    rw [Examination.visits_cons]
    omega

/-- The elements of an order that are denied are those that request and are not granted, in order. -/
theorem Examination.denied_visits (horder : order.Nodup) (hfresh : x.Fresh order) :
    (x.visits requests weights order).denied = x.denied ++
      order.filter fun e => requests e && !decide (e ∈ (x.visits requests weights order).granted) := by
  induction order generalizing x with
  | nil => exact (List.append_nil _).symm
  | cons e order ih =>
    obtain ⟨hnew, horder⟩ := List.nodup_cons.mp horder
    have hrest := ih horder (hfresh.visit (requests := requests) (weights := weights) hnew)
    have hgranted := Examination.mem_granted_visits_cons (requests := requests) (weights := weights) hnew
      (hfresh e List.mem_cons_self)
    rw [List.filter_cons, Examination.visits_cons, hrest, Examination.denied_visit, ← Examination.visits_cons,
      List.append_assoc]
    congr 1
    by_cases hreq : requests e = true <;> by_cases hfits : weights[e] ≤ x.left <;>
      simp [hgranted, hreq, hfits, -Fin.getElem_fin]

end Orders

/-! ## The order of an arbiter step -/

theorem examinationOrder_nodup (pointer : ElementNo) : (examinationOrder pointer).Nodup := by
  revert pointer
  decide

theorem mem_examinationOrder (pointer e : ElementNo) : e ∈ examinationOrder pointer := by
  revert pointer e
  decide

theorem examinationOrder_perm (pointer : ElementNo) : (examinationOrder pointer).Perm (List.finRange 6) := by
  revert pointer
  decide

/-- Every order takes the same units as the elements' own. -/
theorem takenUnits_examinationOrder (weights : Vector Nat 6) (granted : List ElementNo) (pointer : ElementNo) :
    takenUnits weights granted (examinationOrder pointer) = takenUnits weights granted (List.finRange 6) :=
  ((examinationOrder_perm pointer).map _).sum_nat

/-- The elements examined before the one at place `k`. -/
def examinedBefore (pointer : ElementNo) (k : Fin 6) : List ElementNo :=
  ((List.finRange 6).filter fun j => j < k).map fun j => pointer + j

/-- The elements examined after the one at place `k`. -/
def examinedAfter (pointer : ElementNo) (k : Fin 6) : List ElementNo :=
  ((List.finRange 6).filter fun j => k < j).map fun j => pointer + j

theorem examinationOrder_eq (pointer : ElementNo) (k : Fin 6) :
    examinationOrder pointer = examinedBefore pointer k ++ (pointer + k) :: examinedAfter pointer k := by
  have hplaces : ∀ k : Fin 6, List.finRange 6 =
      (List.finRange 6).filter (fun j => j < k) ++ k :: (List.finRange 6).filter fun j => k < j := by decide
  rw [examinationOrder, hplaces k, List.map_append, List.map_cons]
  rfl

/-- The first element of an order with a property, by its place. -/
theorem find?_examinationOrder (pointer : ElementNo) (q : ElementNo → Bool) :
    (∃ k : Fin 6, q (pointer + k) = true ∧ (∀ j : Fin 6, j < k → q (pointer + j) = false) ∧
      (examinationOrder pointer).find? q = some (pointer + k)) ∨
    ((∀ k : Fin 6, q (pointer + k) = false) ∧ (examinationOrder pointer).find? q = none) := by
  cases hfind : (examinationOrder pointer).find? q with
  | none =>
    exact .inr ⟨fun k => by simpa using List.find?_eq_none.mp hfind _ (mem_examinationOrder pointer (pointer + k)), rfl⟩
  | some e =>
    obtain ⟨hq, k, hk, he, hearlier⟩ := List.find?_eq_some_iff_getElem.mp hfind
    have hk : k < 6 := by simpa [examinationOrder] using hk
    refine .inl ⟨⟨k, hk⟩, ?_⟩
    have he : e = pointer + ⟨k, hk⟩ := by simpa [examinationOrder] using he.symm
    exact ⟨he ▸ hq, fun j hj => by simpa [examinationOrder] using hearlier j.val hj, he ▸ rfl⟩

end Sys2Proof.Machine
end

section
/-! The arbiter step of a zero-cross (R164 to R167): grants, the units they take, the pointer, and the statement. -/

namespace Sys2Proof.Machine

/-! ## The arbiter's decision -/

/-- An element is granted exactly if it requests and its weight is within what the grants before it leave (R166, step 3). -/
theorem State.mem_examine_granted_iff (s : State) (k : Fin 6) :
    s.supply.pointer + k ∈ s.examine.granted ↔
      s.requests (s.supply.pointer + k) = true ∧
        s.supply.config.weights[s.supply.pointer + k] ≤
          s.budgetInForce - takenUnits s.supply.config.weights s.examine.granted (examinedBefore s.supply.pointer k) := by
  have horder := examinationOrder_nodup s.supply.pointer
  rw [s.examine_eq]
  rw [examinationOrder_eq s.supply.pointer k] at horder ⊢
  rw [Examination.visits_append]
  obtain ⟨hbefore, hrest, hapart⟩ := List.nodup_append.mp horder
  have hnew : s.supply.pointer + k ∉ examinedBefore s.supply.pointer k := fun h =>
    hapart _ h _ List.mem_cons_self rfl
  have hleft := Examination.left_visits_add (requests := s.requests) (weights := s.supply.config.weights)
    (x := { left := s.budgetInForce, granted := [], denied := [] }) hbefore fun _ _ => List.not_mem_nil
  rw [takenUnits_congr fun e he => Examination.mem_granted_visits_of_notMem fun h => hapart e he e h rfl,
    ← Nat.eq_sub_of_add_eq hleft]
  exact Examination.mem_granted_visits_cons (List.nodup_cons.mp hrest).1
    (mt (Examination.mem_granted_visits_of_notMem hnew).mp List.not_mem_nil)

/-- The weights of the granted elements are within the budget in force (R166). -/
theorem State.takenUnits_le (s : State) :
    takenUnits s.supply.config.weights s.examine.granted (List.finRange 6) ≤ s.budgetInForce := by
  have hleft := Examination.left_visits_add (requests := s.requests) (weights := s.supply.config.weights)
    (x := { left := s.budgetInForce, granted := [], denied := [] }) (examinationOrder_nodup s.supply.pointer)
    fun _ _ => List.not_mem_nil
  rw [takenUnits_examinationOrder, ← s.examine_eq] at hleft
  exact Nat.le.intro ((Nat.add_comm ..).trans hleft)

/-- The denied elements are those that request and are not granted, in the order of examination. -/
theorem State.examine_denied (s : State) :
    s.examine.denied =
      (examinationOrder s.supply.pointer).filter fun e => s.requests e && !decide (e ∈ s.examine.granted) :=
  Examination.denied_visits (x := { left := s.budgetInForce, granted := [], denied := [] })
    (examinationOrder_nodup s.supply.pointer) fun _ _ => List.not_mem_nil

/-- The pointer goes to the first element denied, or on by one where none is (R166, step 5). -/
theorem State.pointer_cases (s : State) :
    (∃ k : Fin 6, s.requests (s.supply.pointer + k) = true ∧ s.supply.pointer + k ∉ s.examine.granted ∧
        (∀ j : Fin 6, j < k → s.requests (s.supply.pointer + j) = true → s.supply.pointer + j ∈ s.examine.granted) ∧
        s.examine.pointer s.supply.pointer = s.supply.pointer + k) ∨
      ((∀ k : Fin 6, s.requests (s.supply.pointer + k) = true → s.supply.pointer + k ∈ s.examine.granted) ∧
        s.examine.pointer s.supply.pointer = s.supply.pointer + 1) := by
  have hpointer : s.examine.pointer s.supply.pointer =
      ((examinationOrder s.supply.pointer).find? fun e =>
        s.requests e && !decide (e ∈ s.examine.granted)).getD (s.supply.pointer + 1) := by
    rw [Examination.pointer, s.examine_denied, List.head?_filter, ElementNo.next]
  rw [hpointer]
  obtain ⟨k, hdenied, hearlier, hfind⟩ | ⟨hnone, hfind⟩ := find?_examinationOrder s.supply.pointer fun e =>
    s.requests e && !decide (e ∈ s.examine.granted)
  · obtain ⟨hrequests, hrefused⟩ : s.requests (s.supply.pointer + k) = true ∧ s.supply.pointer + k ∉ s.examine.granted := by
      simpa using hdenied
    exact .inl ⟨k, hrequests, hrefused, fun j hj => by simpa using hearlier j hj, by rw [hfind]; rfl⟩
  · exact .inr ⟨fun k => by simpa using hnone k, by rw [hfind]; rfl⟩

/-! ## The elements of a zero-cross -/

@[simp] theorem elementNo_elementPlace (e : ElementNo) : elementNo (elementPocket e) (elementPlace e) = e := by
  revert e
  decide

/-- An element after a zero-cross: the decision on the element that was examined. -/
theorem State.zeroCross_element (s : State) (e : ElementNo) :
    s.zeroCross.element e =
      (s.examined.element e).decided s.supply.config.frame (decide (e ∈ s.examined.examine.granted)) := by
  rw [State.element, State.zeroCross_elements, elementNo_elementPlace, ← PocketUnit.accumulate_elements,
    ← State.examined_unit]
  rfl

theorem State.zeroCross_output (s : State) (e : ElementNo) :
    (s.zeroCross.element e).output = true ↔ e ∈ s.examined.examine.granted := by
  rw [State.zeroCross_element]
  exact decide_eq_true_iff

/-- A grant takes F from the accumulator as examined (R166). -/
theorem State.zeroCross_accumulator (s : State) (e : ElementNo) :
    (s.zeroCross.element e).accumulator =
      if (s.zeroCross.element e).output then (s.examined.element e).accumulator - s.supply.config.frame
      else (s.examined.element e).accumulator := by
  rw [State.zeroCross_element]
  rfl

theorem State.framed_accumulator (s : State) (p : Pocket) (j : Fin 3) :
    (s.framed.unit p).heat.elements[j].accumulator = (s.unit p).heat.elements[j].accumulator := by
  rw [State.framed_unit]
  split
  · obtain ⟨-, -, -, -, -, helements⟩ := (s.unit p).beginFrame_does s.supply.config p (s.demandOf p)
    rw [helements]
  · rfl

/-- The accumulator as examined: the on-count of the frame added, up to 2F - 1 (R164). -/
theorem State.examined_accumulator (s : State) (e : ElementNo) :
    (s.examined.element e).accumulator =
      if 0 < (s.zeroCross.element e).onCount then
        min (2 * s.supply.config.frame - 1) ((s.element e).accumulator + (s.zeroCross.element e).onCount)
      else (s.element e).accumulator := by
  have honCount : (s.zeroCross.element e).onCount = (s.framed.element e).onCount := s.zeroCross_onCount ..
  have hkept : (s.framed.element e).accumulator = (s.element e).accumulator := s.framed_accumulator ..
  have hadded : s.examined.element e = (s.framed.element e).accumulate s.supply.config.frame := by
    rw [State.element, State.examined_unit, PocketUnit.accumulate_elements]
    rfl
  rw [honCount, hadded, Element.accumulate_accumulator, hkept]

/-- The units of the granted elements are those of the conducting ones. -/
theorem State.takenUnits_examined (s : State) (weights : Vector Nat 6) (l : List ElementNo) :
    takenUnits weights s.examined.examine.granted l =
      (l.map fun e => if (s.zeroCross.element e).output = true then weights[e] else 0).sum :=
  congrArg List.sum (List.map_congr_left fun e _ => by simp only [s.zeroCross_output e])

/-! ## The requests and the budget of a zero-cross -/

/-- The frame boundary and the additions change of a pocket neither permission, nor its inputs, nor its start reserve. -/
theorem State.examined_keeps (s : State) (p : Pocket) :
    (s.examined.unit p).hasPermission = (s.unit p).hasPermission ∧ (s.examined.unit p).pins = (s.unit p).pins ∧
      (s.examined.unit p).heat.reserve = (s.unit p).heat.reserve := by
  rw [State.examined_unit, State.framed_unit]
  split <;> exact ⟨rfl, rfl, rfl⟩

theorem State.examined_requests (s : State) (e : ElementNo) :
    s.examined.requests e = true ↔
      s.supply.config.weights[e] ≠ 0 ∧ s.supply.config.frame ≤ (s.examined.element e).accumulator ∧
        (s.unit (elementPocket e)).hasPermission = true ∧ (s.unit (elementPocket e)).pins.airf = true := by
  obtain ⟨hpermission, hpins, -⟩ := s.examined_keeps (elementPocket e)
  simp only [State.requests, Bool.and_eq_true, decide_eq_true_eq, and_assoc, hpermission, hpins, s.examined_config]

theorem State.examined_reserveOf (s : State) (p : Pocket) : s.examined.reserveOf p = s.reserveOf p := by
  obtain ⟨-, -, hreserve⟩ := s.examined_keeps p
  rw [State.reserveOf, hreserve, State.examined_config]
  rfl

theorem State.examined_budgetInForce (s : State) : s.examined.budgetInForce = s.budgetInForce := by
  rw [State.budgetInForce, State.examined_reserveOf, State.examined_reserveOf, State.examined_config]
  rfl

/-! ## The statement -/

/-- Settles O45: the examination of the state that a zero-cross hands to the arbiter, read off the outputs, the accumulators
and the pointer that it leaves. -/
theorem grantsStayWithinBudget : Obligations.GrantsStayWithinBudget := by
  unfold Obligations.GrantsStayWithinBudget
  intro s
  refine ⟨s.zeroCross, exec_zeroCross s, ?_⟩
  have hgranted := s.examined.mem_examine_granted_iff
  have hbudget := s.examined.takenUnits_le
  have hpointer := s.examined.pointer_cases
  simp only [s.examined_config, s.examined_pointer, s.examined_budgetInForce, s.takenUnits_examined, s.examined_requests,
    ← s.zeroCross_output, ← s.zeroCross_pointer, s.examined_accumulator, Bool.not_eq_true] at hgranted hbudget hpointer
  exact ⟨hbudget, hgranted, fun e => by rw [s.zeroCross_accumulator, s.examined_accumulator], hpointer⟩

end Sys2Proof.Machine
end

section
/-! CLEAR_FAULT (chapter 9): when a named fault stays latched, what the byte of a fault set names, and the request by its
cases. -/

namespace Sys2Proof.Machine

theorem exec_clearFault (pocket faults : Byte) (s : State) :
    exec (.clearFault pocket faults) s = .next (reqClearFault pocket faults s) := rfl

/-! ## Fault sets (R175, R206) -/

/-- A set made from a rule has the faults of which the rule holds. -/
@[simp] theorem FaultSet.has_ofFaults (rule : PocketFault → Bool) (f : PocketFault) :
    (FaultSet.ofFaults rule).has f = rule f := by
  cases f <;> rfl

@[simp] theorem FaultSet.isEmpty_iff (fs : FaultSet) : fs.isEmpty = true ↔ fs = FaultSet.none := decide_eq_true_iff

/-- A byte names a fault set if it has no bit but the six (R180). -/
theorem faultSetOf_isSome (b : Byte) : (faultSetOf b).isSome = true ↔ b.toNat < 64 := by
  simp [faultSetOf]

/-- A fault set accepted is reported by the byte it came in. -/
theorem byte_faultSetOf {b : Byte} {fs : FaultSet} (h : faultSetOf b = some fs) : fs.byte = b := by
  unfold faultSetOf at h
  split at h
  · next hb =>
    obtain rfl := Option.some.inj h
    exact bitsByte_low_bits 6 b hb
  · cases h

/-! ## The clearing conditions (R181) -/

/-- OVERHEAT stays while the cutout is open or the inlet reads above the inlet high limit less 50 (R181; entry 22). -/
theorem State.overheatHolds_iff (s : State) (p : Pocket) :
    s.overheatHolds p = true ↔ (s.unit p).pins.cutout = false ∨
      ∃ x : Int, (s.inlet p).reading = some x ∧ s.supply.config.inletHigh - 50 < x := by
  cases h : (s.inlet p).reading <;> simp [State.overheatHolds, h]

/-- SENSOR stays until the last conversions of both channels are good (R143). -/
theorem State.sensorHolds_iff (s : State) (p : Pocket) :
    s.sensorHolds p = true ↔ (s.inlet p).lastClass ≠ some .good ∨ (s.exhaust p).lastClass ≠ some .good := by
  simp only [State.sensorHolds, TempChannel.goodNow, Bool.not_eq_true', Bool.and_eq_false_iff, decide_eq_false_iff_not]

/-- A fault stays latched where it was, unless it is named and its condition is gone (R180, step 2). -/
theorem State.faultsAfterClear_has (s : State) (p : Pocket) (named : FaultSet) (f : PocketFault) :
    (s.faultsAfterClear p named).has f = true ↔
      (s.unit p).faults.has f = true ∧ (named.has f = true → s.holdsFault p f = true) := by
  cases h : named.has f <;> simp [State.faultsAfterClear, h]

/-- The faults reported as still present are the named ones that were latched and whose conditions stand (R180, step 2). -/
theorem State.stayLatched_has (s : State) (p : Pocket) (named : FaultSet) (f : PocketFault) :
    (s.stayLatched p named).has f = true ↔
      named.has f = true ∧ (s.unit p).faults.has f = true ∧ s.holdsFault p f = true := by
  simp [State.stayLatched, and_assoc]

/-! ## The request (R180, R52) -/

/-- The clearing sets the fault set, and the run state where the test of R52 passes. -/
theorem PocketUnit.clearTo_eq (fs : FaultSet) (u : PocketUnit) :
    u.clearTo fs =
      { u with
        faults := fs
        seq := { u.seq with run :=
          if u.seq.run = .halted ∧ fs = FaultSet.none ∧ u.drum.state = .stopped then .idle else u.seq.run } } := by
  simp only [PocketUnit.clearTo, PocketUnit.leaveHalted, FaultSet.isEmpty_iff]
  split <;> rfl

/-- CLEAR_FAULT whose operands are in order (R180). -/
theorem reqClearFault_accepted {pocket faults : Byte} {p : Pocket} {named : FaultSet} (hp : pocketOf pocket = some p)
    (hnamed : faultSetOf faults = some named) (s : State) :
    reqClearFault pocket faults s =
      (s.onUnit p (PocketUnit.clearTo (s.faultsAfterClear p named))).reply 0x16
        (if s.stayLatched p named = FaultSet.none then .ok else .stillPresent)
        [(s.faultsAfterClear p named).byte, (s.stayLatched p named).byte] := by
  simp only [reqClearFault, hp, hnamed, FaultSet.isEmpty_iff]

/-- CLEAR_FAULT of no pocket or of a fault beside the six (R180, step 1). -/
theorem reqClearFault_refused {pocket faults : Byte} (h : 2 ≤ pocket.toNat ∨ 64 ≤ faults.toNat) (s : State) :
    reqClearFault pocket faults s = s.reply 0x16 .badRequest [] := by
  unfold reqClearFault
  split
  · next p named hp hnamed =>
    have hpocket := (pocketOf_isSome pocket).mp (Option.isSome_of_mem hp)
    have hfaults := (faultSetOf_isSome faults).mp (Option.isSome_of_mem hnamed)
    omega
  · rfl

/-- Settles O47: the accepted request with each fault's condition, the refusals, and the byte of a fault set. -/
theorem clearFaultByCases : Obligations.ClearFaultByCases := by
  unfold Obligations.ClearFaultByCases
  refine ⟨?accepted, ?refused, ?named⟩
  case accepted =>
    intro b fs p named s hp hnamed holds
    have hholds : ∀ f : PocketFault, s.holdsFault p f = true ↔ holds f := by
      intro f
      cases f with
      | overheat => exact s.overheatHolds_iff p
      | sensor => exact s.sensorHolds_iff p
      | drive => exact decide_eq_true_iff
      | airflow | chain | linkLost => exact ⟨nofun, nofun⟩
    refine ⟨s.faultsAfterClear p named, s.stayLatched p named, ?_, fun f => ?_, fun f => ?_⟩
    · rw [exec_clearFault, reqClearFault_accepted hp hnamed, funext (PocketUnit.clearTo_eq _)]
    · rw [s.faultsAfterClear_has, hholds]
    · rw [s.stayLatched_has, hholds]
  case refused =>
    intro b fs s h
    rw [exec_clearFault, reqClearFault_refused h]
  case named =>
    intro fs h
    obtain ⟨named, hnamed⟩ := Option.isSome_iff_exists.mp ((faultSetOf_isSome fs).mpr h)
    exact ⟨named, hnamed, byte_faultSetOf hnamed⟩

end Sys2Proof.Machine
end

section
/-! GET_STATUS and GET_HISTORY (chapters 3, 9 and 11): the layouts of the replies, and the notices that a GET_STATUS clears. -/

namespace Sys2Proof.Machine

theorem exec_getStatus (target : Byte) (s : State) : exec (.getStatus target) s = .next (reqGetStatus target s) := rfl

theorem exec_getHistory (pocket : Byte) (s : State) : exec (.getHistory pocket) s = .next (reqGetHistory pocket s) := rfl

/-! ## GET_STATUS (R183, R208) -/

/-- A pocket's code is its number. -/
theorem pocketOf_eq_some {b : Byte} {p : Pocket} (h : pocketOf b = some p) : b = pocketCode p := by
  unfold pocketOf at h
  split at h
  case h_3 => cases h
  all_goals
    next hb =>
    obtain rfl := Option.some.inj h
    exact BitVec.eq_of_toNat_eq hb

/-- GET_STATUS of a pocket reports the values as the request finds them, and clears the notices reported (R183). -/
theorem reqGetStatus_of_pocket {target : Byte} {p : Pocket} (hp : pocketOf target = some p) (s : State) :
    reqGetStatus target s = (s.onUnit p PocketUnit.readNotices).reply 0x20 .ok (s.unit p).statusData := by
  obtain rfl := pocketOf_eq_some hp
  cases p <;> rfl

/-- GET_STATUS of DEVICE (R183). -/
theorem reqGetStatus_device (s : State) :
    reqGetStatus 0x02 s = ({ s with device := DeviceNotices.none } : State).reply 0x20 .ok s.deviceData := rfl

/-- GET_STATUS with a code that names no target (R183). -/
theorem reqGetStatus_refused {target : Byte} (h : 3 ≤ target.toNat) (s : State) :
    reqGetStatus target s = s.reply 0x20 .badRequest [] := by
  unfold reqGetStatus
  split
  case h_1 | h_2 | h_3 => omega
  case h_4 => rfl

/-- The calibration marks; the last of them is that of a last attempt that passed (R208, byte 24). -/
theorem Moisture.marksByte_eq (m : Moisture) :
    m.marksByte = bitsByte [m.valid, m.calibration.isSome, m.lastAttempt.isSome,
      (m.lastAttempt.map Attempt.passed).getD false] := by
  unfold Moisture.marksByte
  cases m.lastAttempt <;> rfl

/-! ## GET_HISTORY (R67, R209) -/

/-- GET_HISTORY of a pocket changes nothing but the link (R67). -/
theorem reqGetHistory_of_pocket {pocket : Byte} {p : Pocket} (hp : pocketOf pocket = some p) (s : State) :
    reqGetHistory pocket s = s.reply 0x21 .ok (s.unit p).seq.historyData := by
  simp only [reqGetHistory, hp]

/-- A twist in the range of 11 bits, as its two's complement (R209). -/
theorem twist11_of_range {i : Int} (hlow : -1024 ≤ i) (hhigh : i ≤ 1023) :
    twist11 i = (if i < 0 then i + 2048 else i).toNat := by
  rw [twist11, BitVec.toNat_ofInt]
  split <;> omega

/-- The first byte of a history entry: the slot, and the marks of an estimate and of an outcome, which no slot number reaches
(R209). -/
theorem Checkpoint.bytes_head (c : Checkpoint) :
    (c.bytes.headD 0).toNat =
      c.slot.val + (if c.eStart = none then 0 else 64) + (if c.outcome = none then 0 else 128) := by
  have hslot := c.slot.isLt
  have hhead : c.bytes.headD 0 =
    byteOf (c.slot.val + (if c.eStart.isSome then 64 else 0) + (if c.outcome.isSome then 128 else 0)) := rfl
  rw [hhead, byteOf, BitVec.toNat_ofNat]
  cases c.eStart <;> cases c.outcome <;> simp <;> omega

/-- The two bytes of a history entry that hold the twist and the outcome (R209). -/
theorem Checkpoint.bytes_twist (c : Checkpoint) :
    (c.bytes.drop 3).take 2 = le16 (twist11 c.twistStart + 4096 * (c.outcome.map outcomeCode).getD 0) := rfl

/-! ## The statement -/

/-- Settles O48: GET_STATUS of a pocket, of DEVICE and of no target, then GET_HISTORY and the fields of an entry. -/
theorem statusAndHistoryReports : Obligations.StatusAndHistoryReports := by
  unfold Obligations.StatusAndHistoryReports
  refine ⟨?pocket, ?device, ?refused, ?history⟩
  case pocket =>
    intro b p s hp u
    rw [exec_getStatus, reqGetStatus_of_pocket hp]
    -- Nested to the right, the fields before an offset are read without passing those behind it.
    simp only [PocketUnit.statusData, List.append_assoc, Moisture.marksByte_eq]
    exact ⟨_, rfl, rfl, rfl, rfl, rfl, rfl, rfl, rfl⟩
  case device =>
    intro s
    rw [exec_getStatus, reqGetStatus_device]
    rfl
  case refused =>
    intro b s h
    rw [exec_getStatus, reqGetStatus_refused h]
  case history =>
    intro b p s hp
    refine ⟨?reply, fun c hlow hhigh => ⟨rfl, c.bytes_head, rfl, ?twist, rfl⟩⟩
    case reply =>
      rw [exec_getHistory, reqGetHistory_of_pocket hp]
      rfl
    case twist =>
      rw [c.bytes_twist, twist11_of_range hlow hhigh]
      cases c.outcome with
      | none => rfl
      | some o => cases o <;> rfl

end Sys2Proof.Machine
end

section
/-! The Trend Buffer (chapter 10): the roles of its banks, and the write of a record in every case. -/

namespace Sys2Proof.Machine

/-! ## The banks by role (R188) -/

namespace TrendBuffer

@[simp] theorem setFillBank_fillBank (t : TrendBuffer) (rs : List TrendRecord) : (t.setFillBank rs).fillBank = rs := by
  unfold setFillBank fillBank
  cases t.fill <;> rfl

@[simp] theorem setFillBank_readBank (t : TrendBuffer) (rs : List TrendRecord) :
    (t.setFillBank rs).readBank = t.readBank := by
  unfold setFillBank readBank
  cases t.fill <;> rfl

@[simp] theorem setReadBank_readBank (t : TrendBuffer) (rs : List TrendRecord) : (t.setReadBank rs).readBank = rs := by
  unfold setReadBank readBank
  cases t.fill <;> rfl

@[simp] theorem setReadBank_fillBank (t : TrendBuffer) (rs : List TrendRecord) :
    (t.setReadBank rs).fillBank = t.fillBank := by
  unfold setReadBank fillBank
  cases t.fill <;> rfl

/-- Replacing the records of the fill bank leaves the roles, the settings and the halted mark. -/
@[simp] theorem setFillBank_keeps (t : TrendBuffer) (rs : List TrendRecord) :
    (t.setFillBank rs).fill = t.fill ∧ (t.setFillBank rs).mode = t.mode ∧ (t.setFillBank rs).threshold = t.threshold ∧
      (t.setFillBank rs).halted = t.halted := by
  unfold setFillBank
  cases t.fill <;> exact ⟨rfl, rfl, rfl, rfl⟩

/-- Replacing the records of the read bank leaves the roles, the settings and the halted mark. -/
@[simp] theorem setReadBank_keeps (t : TrendBuffer) (rs : List TrendRecord) :
    (t.setReadBank rs).fill = t.fill ∧ (t.setReadBank rs).mode = t.mode ∧ (t.setReadBank rs).threshold = t.threshold ∧
      (t.setReadBank rs).halted = t.halted := by
  unfold setReadBank
  cases t.fill <;> exact ⟨rfl, rfl, rfl, rfl⟩

/-- A switch is held back only where STOP mode keeps records of the read bank (R189). -/
theorem maySwitch_eq_true {t : TrendBuffer} : t.maySwitch = true ↔ ¬(t.mode = .stop ∧ t.readBank ≠ []) := by
  unfold maySwitch
  cases t.mode <;> simp

theorem aboveThreshold_eq_true {t : TrendBuffer} : t.aboveThreshold = true ↔ t.threshold < t.fillBank.length :=
  decide_eq_true_iff

end TrendBuffer

/-! ## The write (R189) -/

/-- A switch with nothing in the read bank loses no record: TREND_READY alone is raised (R190). -/
theorem TrendView.switch_device_of_empty {v : TrendView} (h : v.buffer.readBank = []) :
    v.switch.device = v.device.raise .trendReady := by
  simp [TrendView.switch, h]

section Write

variable {v : TrendView} {r : TrendRecord}

theorem TrendView.switchIfAbove_stays (h : v.buffer.fillBank.length ≤ v.buffer.threshold ∨ v.buffer.maySwitch = false) :
    v.switchIfAbove = v := by
  unfold TrendView.switchIfAbove
  rw [if_neg]
  rw [Bool.and_eq_true, TrendBuffer.aboveThreshold_eq_true]
  rintro ⟨habove, hmay⟩
  rcases h with hcount | hkept
  · omega
  · exact absurd hmay (by simp [hkept])

theorem TrendView.switchIfAbove_switches (habove : v.buffer.threshold < v.buffer.fillBank.length)
    (hmay : v.buffer.maySwitch = true) : v.switchIfAbove = v.switch :=
  if_pos (by simp [TrendBuffer.aboveThreshold_eq_true.mpr habove, hmay])

/-- The buffer and notices with the record appended, before the test of step 3. -/
def TrendView.appended (r : TrendRecord) (v : TrendView) : TrendView :=
  { v with buffer := v.buffer.setFillBank (v.buffer.fillBank ++ [r]) }

/-- The record goes behind those of the fill bank, and nothing else changes. -/
theorem TrendView.appended_does (r : TrendRecord) (v : TrendView) :
    (v.appended r).buffer.fillBank = v.buffer.fillBank ++ [r] ∧ (v.appended r).buffer.readBank = v.buffer.readBank ∧
      (v.appended r).buffer.fill = v.buffer.fill ∧ (v.appended r).buffer.mode = v.buffer.mode ∧
      (v.appended r).buffer.threshold = v.buffer.threshold ∧ (v.appended r).buffer.halted = v.buffer.halted ∧
      (v.appended r).device = v.device := by
  simp [TrendView.appended]

/-- Appending does not change whether a switch may be made. -/
theorem TrendView.appended_maySwitch (r : TrendRecord) (v : TrendView) :
    (v.appended r).buffer.maySwitch = v.buffer.maySwitch := by
  simp [TrendView.appended, TrendBuffer.maySwitch]

theorem TrendView.append_stays (h : v.buffer.fillBank.length < v.buffer.threshold ∨ v.buffer.maySwitch = false) :
    v.append r = v.appended r := by
  obtain ⟨hfill, -, -, -, hthreshold, -⟩ := v.appended_does r
  refine TrendView.switchIfAbove_stays (v := v.appended r) (h.imp (fun hcount => ?_) fun hkept => ?_)
  · rw [hfill, hthreshold, List.length_append]
    exact hcount
  · rw [v.appended_maySwitch, hkept]

theorem TrendView.append_switches (hcount : v.buffer.threshold ≤ v.buffer.fillBank.length)
    (hmay : v.buffer.maySwitch = true) : v.append r = (v.appended r).switch := by
  obtain ⟨hfill, -, -, -, hthreshold, -⟩ := v.appended_does r
  refine TrendView.switchIfAbove_switches (v := v.appended r) ?_ ((v.appended_maySwitch r).trans hmay)
  rw [hfill, hthreshold, List.length_append]
  exact Nat.lt_succ_of_le hcount

theorem TrendView.write_drops (hfull : 64 ≤ v.buffer.fillBank.length) (hkept : v.buffer.maySwitch = false) :
    v.write r = v.drop := by
  simp [TrendView.write, bankSize, hfull, hkept]

theorem TrendView.write_switches_first (hfull : 64 ≤ v.buffer.fillBank.length) (hmay : v.buffer.maySwitch = true) :
    v.write r = v.switch.append r := by
  simp [TrendView.write, bankSize, hfull, hmay]

theorem TrendView.write_appends (hroom : v.buffer.fillBank.length < 64) : v.write r = v.append r :=
  if_neg (Nat.not_le.mpr hroom)

/-- Behind a switch the record is alone in the fill bank, so no second switch follows. -/
theorem TrendView.switch_append (hthreshold : 1 ≤ v.buffer.threshold) : v.switch.append r = v.switch.appended r := by
  obtain ⟨-, hempty, -, -, hkeeps, -⟩ := v.switch_does
  refine TrendView.append_stays (.inl ?_)
  rw [hempty, hkeeps]
  exact hthreshold

theorem TrendView.switchIfAbove_settings (v : TrendView) :
    v.switchIfAbove.buffer.mode = v.buffer.mode ∧ v.switchIfAbove.buffer.threshold = v.buffer.threshold := by
  unfold TrendView.switchIfAbove
  split
  · obtain ⟨-, -, -, hmode, hthreshold, -⟩ := v.switch_does
    exact ⟨hmode, hthreshold⟩
  · exact ⟨rfl, rfl⟩

theorem TrendView.append_settings (r : TrendRecord) (v : TrendView) :
    (v.append r).buffer.mode = v.buffer.mode ∧ (v.append r).buffer.threshold = v.buffer.threshold := by
  obtain ⟨-, -, -, hmode, hthreshold, -⟩ := v.appended_does r
  obtain ⟨hmode', hthreshold'⟩ := (v.appended r).switchIfAbove_settings
  exact ⟨hmode'.trans hmode, hthreshold'.trans hthreshold⟩

/-- A write leaves the mode and the threshold, dropped or not (R189). -/
theorem TrendView.write_settings (r : TrendRecord) (v : TrendView) :
    (v.write r).buffer.mode = v.buffer.mode ∧ (v.write r).buffer.threshold = v.buffer.threshold := by
  unfold TrendView.write
  split
  · split
    · obtain ⟨hmode, hthreshold⟩ := v.switch.append_settings r
      obtain ⟨-, -, -, hmode', hthreshold', -⟩ := v.switch_does
      exact ⟨hmode.trans hmode', hthreshold.trans hthreshold'⟩
    · exact ⟨rfl, rfl⟩
  · exact v.append_settings r

end Write

/-- Settles O49: the fill bank at 64 records or below, and whether the mode lets a switch be made. -/
theorem trendWriteByCases : Obligations.TrendWriteByCases := by
  unfold Obligations.TrendWriteByCases
  intro r v w keeps
  have hmay : ¬keeps → v.buffer.maySwitch = true := TrendBuffer.maySwitch_eq_true.mpr
  have hkept : keeps → v.buffer.maySwitch = false := fun h =>
    Bool.eq_false_iff.mpr fun hm => TrendBuffer.maySwitch_eq_true.mp hm h
  obtain ⟨hmode, hthreshold⟩ := v.write_settings r
  refine ⟨hmode, hthreshold, ?dropped, ?switchedFirst, ?appended, ?switchedAfter⟩
  case dropped =>
    intro hfull h
    have hw : w = v.drop := TrendView.write_drops hfull (hkept h)
    rw [hw]
    exact ⟨rfl, rfl⟩
  case switchedFirst =>
    intro hfull h hone
    have hw : w = v.switch.appended r := (TrendView.write_switches_first hfull (hmay h)).trans (TrendView.switch_append hone)
    obtain ⟨hfillBank, hreadBank, hfill, -, -, hhalted, hdevice⟩ := v.switch.appended_does r
    obtain ⟨hread', hempty, hfill', -, -, hhalted', hready, -, -, hlost⟩ := v.switch_does
    rw [hw, hfillBank, hreadBank, hfill, hhalted, hdevice, hempty]
    exact ⟨hread', rfl, hfill', hhalted', hready, hlost⟩
  case appended =>
    intro hroom h
    have hw : w = v.appended r := (TrendView.write_appends hroom).trans (TrendView.append_stays (h.imp_right hkept))
    obtain ⟨hfillBank, hreadBank, hfill, -, -, hhalted, hdevice⟩ := v.appended_does r
    rw [hw]
    exact ⟨hfillBank, hreadBank, hfill, hhalted, hdevice⟩
  case switchedAfter =>
    intro hroom hcount h
    have hw : w = (v.appended r).switch :=
      (TrendView.write_appends hroom).trans (TrendView.append_switches hcount (hmay h))
    obtain ⟨hfillBank, hreadBank, hfill, -, -, -, hdevice⟩ := v.appended_does r
    obtain ⟨hread', hempty, hfill', -, -, hhalted', hready, -, -, hlost⟩ := (v.appended r).switch_does
    rw [hfillBank] at hread'
    rw [hfill] at hfill'
    rw [hdevice, hreadBank] at hlost
    rw [hw]
    exact ⟨hread', hempty, hfill', hhalted', hready, hlost⟩

end Sys2Proof.Machine
end

section
/-! The requests to the Trend Buffer (chapters 10 and 11): READ_TREND with the layout of a record, FLUSH_TREND and TREND_MODE. -/

namespace Sys2Proof.Machine

theorem exec_readTrend (s : State) : exec .readTrend s = .next (reqReadTrend s) := rfl

theorem exec_flushTrend (s : State) : exec .flushTrend s = .next (reqFlushTrend s) := rfl

theorem exec_trendMode (mode threshold : Byte) (s : State) :
    exec (.trendMode mode threshold) s = .next (reqTrendMode mode threshold s) := rfl

/-! ## READ_TREND (R191) -/

/-- The buffer and notices without the records returned, before the switch that may follow. -/
def TrendView.removed (v : TrendView) : TrendView :=
  { v with buffer := v.buffer.setReadBank (v.buffer.readBank.drop 4) }

theorem TrendView.removed_does (v : TrendView) :
    v.removed.buffer.readBank = v.buffer.readBank.drop 4 ∧ v.removed.buffer.fillBank = v.buffer.fillBank ∧
      v.removed.buffer.fill = v.buffer.fill ∧ v.removed.buffer.mode = v.buffer.mode ∧
      v.removed.buffer.threshold = v.buffer.threshold ∧ v.removed.buffer.halted = v.buffer.halted ∧
      v.removed.device = v.device := by
  simp [TrendView.removed]

/-- The switch follows where STOP mode held it back, and the records returned were the last of the read bank. -/
theorem TrendView.removeReturned_eq (v : TrendView) :
    v.removeReturned =
      if v.buffer.readBank ≠ [] ∧ v.buffer.readBank.length ≤ 4 ∧ v.buffer.mode = .stop ∧
          v.buffer.threshold < v.buffer.fillBank.length then v.removed.switch
      else v.removed := by
  simp [TrendView.removeReturned, TrendView.removed, TrendBuffer.aboveThreshold, List.drop_eq_nil_iff]

theorem TrendView.removeReturned_settings (v : TrendView) :
    v.removeReturned.buffer.mode = v.buffer.mode ∧ v.removeReturned.buffer.threshold = v.buffer.threshold := by
  obtain ⟨-, -, -, hmode, hthreshold, -, -⟩ := v.removed_does
  obtain ⟨-, -, -, hmode', hthreshold', -⟩ := v.removed.switch_does
  rw [TrendView.removeReturned_eq]
  split
  · exact ⟨hmode'.trans hmode, hthreshold'.trans hthreshold⟩
  · exact ⟨hmode, hthreshold⟩

theorem TrendView.removeReturned_stays {v : TrendView}
    (h : v.buffer.readBank = [] ∨ 4 < v.buffer.readBank.length ∨ v.buffer.mode = .swap ∨
      v.buffer.fillBank.length ≤ v.buffer.threshold) :
    v.removeReturned = v.removed := by
  rw [TrendView.removeReturned_eq, if_neg]
  rintro ⟨hsome, hlast, hstop, habove⟩
  rcases h with hnone | hmore | hswap | hbelow
  · exact hsome hnone
  · omega
  · cases hstop.symm.trans hswap
  · omega

/-- What READ_TREND leaves where a switch follows; the read bank it discards is empty, so no record is lost. -/
theorem TrendView.removeReturned_switches {v : TrendView} (hsome : v.buffer.readBank ≠ [])
    (hlast : v.buffer.readBank.length ≤ 4) (hstop : v.buffer.mode = .stop)
    (habove : v.buffer.threshold < v.buffer.fillBank.length) :
    v.removeReturned.buffer.readBank = v.buffer.fillBank ∧ v.removeReturned.buffer.fillBank = [] ∧
      v.removeReturned.buffer.fill = v.buffer.fill.other ∧ v.removeReturned.buffer.halted = false ∧
      v.removeReturned.device = v.device.raise .trendReady := by
  obtain ⟨hread, hfillBank, hfill, -, -, -, hdevice⟩ := v.removed_does
  obtain ⟨hread', hempty, hfill', -, -, hhalted', -⟩ := v.removed.switch_does
  have hdrained : v.removed.buffer.readBank = [] := hread.trans (List.drop_eq_nil_iff.mpr hlast)
  rw [TrendView.removeReturned_eq, if_pos ⟨hsome, hlast, hstop, habove⟩]
  exact ⟨hread'.trans hfillBank, hempty, hfill'.trans (congrArg Bank.other hfill), hhalted',
    (TrendView.switch_device_of_empty hdrained).trans (congrArg _ hdevice)⟩

/-- The reply counts the records it carries (R209). -/
theorem trendData_take (rs : List TrendRecord) :
    trendData (rs.take 4) = byteOf (min 4 rs.length) :: (rs.take 4).flatMap TrendRecord.bytes := by
  rw [trendData, List.length_take]

/-! ## The layout of a record (R209) -/

/-- The first byte of a record: the slot, which no slot number lets reach the pocket's bit, and the pocket. -/
theorem TrendRecord.bytes_head (r : TrendRecord) :
    (r.bytes.headD 0).toNat = r.slot.val + (if r.pocket = .upper then 64 else 0) := by
  have hslot := r.slot.isLt
  have hhead : r.bytes.headD 0 = byteOf (r.slot.val + 64 * (pocketCode r.pocket).toNat) := rfl
  rw [hhead, byteOf, BitVec.toNat_ofNat]
  cases r.pocket <;> simp [pocketCode] <;> omega

/-- The two bytes of the reading and the drum state. -/
theorem TrendRecord.bytes_reading (r : TrendRecord) :
    (r.bytes.drop 5).take 2 = le16 (r.reading.code + 8192 * drumStateCode r.drum) := rfl

/-- The two bytes of the estimate. -/
theorem TrendRecord.bytes_estimate (r : TrendRecord) :
    (r.bytes.drop 7).take 2 = le16 (r.estimate.getD 0 + (if r.estimate.isSome then 32768 else 0)) := rfl

/-- The three bytes of the twist and the cycles granted. -/
theorem TrendRecord.bytes_twist (r : TrendRecord) : r.bytes.drop 12 = le24 (twist11 r.twist + 2048 * r.granted) := rfl

/-- A measure of the moisture unit's range goes out as it is (R209). -/
theorem Reading.code_measured {m : Nat} (h : m ≤ 2047) : (Reading.measured m).code = m + 2048 := by
  rw [Reading.code, Nat.mod_eq_of_lt (by omega)]

/-! ## FLUSH_TREND (R192) -/

theorem reqFlushTrend_switches {s : State} (hread : s.trend.readBank = []) (hfill : s.trend.fillBank ≠ []) :
    reqFlushTrend s = (s.onTrend TrendView.switch).reply 0x25 .ok [] :=
  if_pos ⟨hread, hfill⟩

theorem reqFlushTrend_notAvailable {s : State} (h : s.trend.readBank ≠ [] ∨ s.trend.fillBank = []) :
    reqFlushTrend s = s.reply 0x25 .notAvailable [] :=
  if_neg fun ⟨hread, hfill⟩ => h.elim (· hread) hfill

/-! ## TREND_MODE (R193) -/

/-- Two codes name a trend mode, and a mode accepted is reported by the code it came in (R206). -/
theorem trendModeOf_of_le {b : Byte} (h : b.toNat ≤ 1) :
    ∃ m : TrendMode, trendModeOf b = some m ∧ trendModeCode m = b ∧ m = if b.toNat = 0 then .swap else .stop := by
  have hb : b = 0 ∨ b = 1 := by bv_omega
  rcases hb with rfl | rfl
  · exact ⟨.swap, rfl, rfl, rfl⟩
  · exact ⟨.stop, rfl, rfl, rfl⟩

theorem trendModeOf_eq_none {b : Byte} (h : 2 ≤ b.toNat) : trendModeOf b = none := by
  unfold trendModeOf
  split
  case h_1 | h_2 => omega
  case h_3 => rfl

/-- A clamping leaves the values of its range, and those alone (R4). -/
theorem clampNat_eq_self_iff {lo hi n : Nat} (h : lo ≤ hi) : clampNat lo hi n = n ↔ lo ≤ n ∧ n ≤ hi := by
  unfold clampNat
  omega

/-- TREND_MODE whose mode is one of the two (R193). -/
theorem reqTrendMode_accepted {mode : Byte} {m : TrendMode} (hm : trendModeOf mode = some m) (threshold : Byte) (s : State) :
    reqTrendMode mode threshold s =
      ({ s with trend := { s.trend with mode := m, threshold := clampNat 1 63 threshold.toNat } } : State).reply 0x24
        (if 1 ≤ threshold.toNat ∧ threshold.toNat ≤ 63 then .ok else .okClamped)
        [trendModeCode m, byteOf (clampNat 1 63 threshold.toNat)] := by
  simp only [reqTrendMode, hm, clampNat_eq_self_iff (show 1 ≤ 63 by omega)]

/-- TREND_MODE of no mode (R193). -/
theorem reqTrendMode_refused {mode : Byte} (h : 2 ≤ mode.toNat) (threshold : Byte) (s : State) :
    reqTrendMode mode threshold s = s.reply 0x24 .badRequest [] := by
  simp only [reqTrendMode, trendModeOf_eq_none h]

/-! ## The statement -/

/-- Settles O50: READ_TREND and the fields of a record, then FLUSH_TREND and TREND_MODE. -/
theorem trendRequestsByCases : Obligations.TrendRequestsByCases := by
  unfold Obligations.TrendRequestsByCases
  refine ⟨?read, ?layout, ?flushed, ?notFlushed, ?mode⟩
  case read =>
    intro s
    obtain ⟨hmode, hthreshold⟩ := TrendView.removeReturned_settings ⟨s.trend, s.device⟩
    refine ⟨reqReadTrend s, exec_readTrend s, rfl, ?reply, hmode, hthreshold, ?stays, ?switches⟩
    case reply =>
      rw [reqReadTrend, trendData_take]
      exact State.reply_link_congr rfl _ _ _
    case stays =>
      intro h
      obtain ⟨hread, hfillBank, hfill, -, -, hhalted, hdevice⟩ := TrendView.removed_does ⟨s.trend, s.device⟩
      simp only [reqReadTrend, State.reply_trend, State.reply_device, State.onTrend_trend, State.onTrend_device,
        TrendView.removeReturned_stays (v := ⟨s.trend, s.device⟩) h]
      exact ⟨hread, hfillBank, hfill, hhalted, hdevice⟩
    case switches => exact TrendView.removeReturned_switches (v := ⟨s.trend, s.device⟩)
  case layout =>
    intro r hlow hhigh hmeasured temp
    have htemp : trendTemp = temp := funext fun x => by cases x <;> rfl
    refine ⟨rfl, r.bytes_head, rfl, rfl, ?reading, ?estimate, ?temperatures, ?twist⟩
    case reading =>
      rw [r.bytes_reading]
      cases hr : r.reading with
      | measured m =>
        rw [Reading.code_measured (hmeasured m hr)]
        cases r.drum <;> rfl
      | absent | void => cases r.drum <;> rfl
    case estimate =>
      rw [r.bytes_estimate]
      cases r.estimate <;> rfl
    case temperatures =>
      rw [← htemp]
      rfl
    case twist => rw [r.bytes_twist, twist11_of_range hlow hhigh]
  case flushed =>
    intro s hread hfill
    obtain ⟨hread', hempty, hfill', hmode, hthreshold, hhalted, -⟩ := TrendView.switch_does ⟨s.trend, s.device⟩
    rw [exec_flushTrend, reqFlushTrend_switches hread hfill]
    exact ⟨_, rfl, rfl, State.reply_link_congr rfl _ _ _, hread', hempty, hfill', hhalted, hmode, hthreshold,
      TrendView.switch_device_of_empty hread⟩
  case notFlushed =>
    intro s h
    rw [exec_flushTrend, reqFlushTrend_notAvailable h]
  case mode =>
    intro mode threshold s
    refine ⟨fun h => ?accepted, fun h => ?refused⟩
    case accepted =>
      obtain ⟨m, hm, hcode, rfl⟩ := trendModeOf_of_le h
      rw [exec_trendMode, reqTrendMode_accepted hm, hcode]
      rfl
    case refused => rw [exec_trendMode, reqTrendMode_refused h]

end Sys2Proof.Machine
end

section
/-! What a command can do to the state, said once: every command is a chain of turns, each of which is one operation of a
pocket's sequencer, of its drum or of its heat, a write to the pool, a step on both pockets, or a step of the other blocks. The
invariants are proved on the turns. -/

namespace Sys2Proof.Machine

/-! ## The turns -/

/-- A step of a pocket that its guards do not see: timers that run on, measurements, notices, the motion table, the default
profile, faults cleared, and inputs that go back to asserted. -/
structure PocketUnit.Mild (u v : PocketUnit) : Prop where
  run          : v.seq.run = u.seq.run
  work         : v.seq.work = u.seq.work
  anchor       : v.seq.anchor = u.seq.anchor
  history      : v.seq.history = u.seq.history
  resumeTarget : v.seq.resumeTarget = u.seq.resumeTarget
  held         : v.seq.held = u.seq.held
  safeBegun    : v.seq.safeBegun = u.seq.safeBegun
  order        : v.drum.order = u.drum.order
  segment      : v.drum.segment = u.drum.segment
  state        : v.drum.state = u.drum.state
  dir          : v.drum.dir = u.drum.dir
  pendingDir   : v.drum.pendingDir = u.drum.pendingDir
  commanded    : v.drum.commanded = u.drum.commanded
  twist        : v.drum.twist = u.drum.twist
  unwind       : v.drum.unwind.isSome = u.drum.unwind.isSome
  stopTimer    : v.drum.stopTimer.isSome = u.drum.stopTimer.isSome
  settleTimer  : v.drum.settleTimer.isSome = u.drum.settleTimer.isSome
  demand       : v.heat.demand = u.heat.demand
  elements     : v.heat.elements = u.heat.elements
  airTimer     : v.heat.airTimer.isSome = u.heat.airTimer.isSome
  permission   : u.hasPermission = true → v.hasPermission = true
  door         : u.pins.door = true → v.pins.door = true
  airf         : v.pins.airf = u.pins.airf

/-- What a command of the drum, or an event of it, does on its pocket. -/
inductive PocketUnit.DrumTurn (cycles : Nat) (u : PocketUnit) : PocketUnit → Prop where
  | edge (free : Nat) : u.DrumTurn cycles (u.tachEdge free cycles)
  | overflow : u.DrumTurn cycles { u with drum := u.drum.captureOverflow }
  | unwindBound (h : u.drum.unwind.isSome = true) : u.DrumTurn cycles (u.endUnwind cycles)
  | loosenOver : u.DrumTurn cycles (u.loosenOver cycles)
  | stopConfirmed (h : u.drum.state = .stopping) : u.DrumTurn cycles (u.confirmStop cycles)
  | standstillOver (h : u.drum.state = .settle) : u.DrumTurn cycles (u.standstillOver cycles)
  | entryOver (h : u.drum.order = .runSegment) : u.DrumTurn cycles (u.nextEntry cycles)
  | stopDropped (h : u.seq.run.engaged = false) : u.DrumTurn cycles { u with drum := { u.drum with stopTimer := none } }

/-- What a request to a pocket's sequencer, or an event of it, does, in the states in which it is carried out. -/
inductive PocketView.SeqTurn (env : Env) (v : PocketView) : PocketView → Prop where
  | skip (h : v.unit.seq.run.evaluates = true) : v.SeqTurn env (v.skip env)
  | advance (h : v.unit.seq.run = .held) : v.SeqTurn env (v.advance env)
  | abort (h : v.unit.seq.run = .running ∨ v.unit.seq.run = .held) : v.SeqTurn env (v.abort env)
  | retarget (h : v.unit.seq.run = .paused) (ht : v.unit.seq.resumeTarget = .running) :
      v.SeqTurn env (v.onUnit (PocketUnit.retargetSafe .aborted))
  | pause (h : v.unit.seq.run.drives = true) : v.SeqTurn env (v.enterPaused env)
  | openDoor : v.SeqTurn env (v.openDoor env)
  | resume (h : v.unit.seq.run = .paused) (hdoor : v.unit.pins.door = true) : v.SeqTurn env (v.resume env)
  | start (i : SlotNo) (r : PhaseRecord) (h : v.unit.seq.run = .idle ∨ v.unit.seq.run = .done)
      (hdoor : v.unit.pins.door = true) (hcheck : (v.release env.pocket).check i = .ok r) :
      v.SeqTurn env (v.startChain env i r)
  | backstep (k : Nat) (c : Checkpoint) (r : PhaseRecord)
      (h : v.unit.seq.run = .held ∨ (v.unit.seq.run = .paused ∧ v.unit.seq.resumeTarget = .running))
      (hc : v.unit.seq.history.reverse[k]? = some c)
      (hslot : v.pool[c.slot] = .loaded r ∨ v.pool[c.slot] = .active env.pocket r) :
      v.SeqTurn env (v.backstep env k c r)
  | endPhase (o : PhaseOutcome) (h : v.unit.seq.run.evaluates = true) (hopen : v.unit.seq.phaseOpen = true) :
      v.SeqTurn env (v.endPhase env o)
  | report (f : PocketFault) : v.SeqTurn env (v.report env f)
  | driveReport (h : v.unit.seq.run.engaged = true) : v.SeqTurn env (v.driveReport env)
  | unattended (h : v.unit.seq.run = .paused) (hdoor : v.unit.pins.door = true) :
      v.SeqTurn env ((v.onUnit PocketUnit.leavePause).resumeToSafe env)

/-- A write that races with a step is to the active slot, and leaves a slot that is not ACTIVE (R20). -/
def PocketView.RaceAllowed (env : Env) (v : PocketView) : Prop :=
  ∀ (i : SlotNo) (x : Slot), env.racing = some (i, x) → v.unit.seq.work.active = some i ∧ x.isActive = false

/-- Whether the banks hold at most 64 records each, the threshold being at least 1 (R188, R193). -/
def TrendBuffer.Bounded (t : TrendBuffer) : Prop := t.bankA.length ≤ 64 ∧ t.bankB.length ≤ 64 ∧ 1 ≤ t.threshold

/-- A step of the Temperature Scan, the Trend Buffer, the notices, the Link Port and the model's own fields: the pockets and
the pool stay, and the buffers keep their bounds. -/
structure State.BlocksOnly (s t : State) : Prop where
  pool     : t.pool = s.pool
  lower    : t.lower = s.lower
  upper    : t.upper = s.upper
  config   : t.supply.config = s.supply.config
  framePos : t.supply.framePos = s.supply.framePos
  mains    : t.supply.mainsPresent = s.supply.mainsPresent
  inbound  : s.link.inbound.length ≤ 2 → t.link.inbound.length ≤ 2
  trend    : s.trend.Bounded → t.trend.Bounded

/-- One thing that a command does to the state. -/
inductive State.Turn (s : State) : State → Prop where
  | blocks {t : State} (h : s.BlocksOnly t) : s.Turn t
  | mild (p : Pocket) {u : PocketUnit} (h : (s.unit p).Mild u) : s.Turn (s.setUnit p u)
  | drum (p : Pocket) (cycles : Nat) {u : PocketUnit} (h : (s.unit p).DrumTurn cycles u) : s.Turn (s.setUnit p u)
  | sequencer (p : Pocket) (env : Env) {v : PocketView} (henv : env.pocket = p) (hrace : (s.view p).RaceAllowed env)
      (h : (s.view p).SeqTurn env v) : s.Turn (s.setView p v)
  | leaveHalted (p : Pocket) (h : (s.unit p).seq.run = .halted) :
      s.Turn (s.onUnit p fun u => { u with seq := { u.seq with run := .idle } })
  | write (i : SlotNo) (x : Slot) (hi : s.pool[i].isActive = false) (hx : x.isActive = false) :
      s.Turn { s with pool := s.pool.set i x }
  | anchor (p : Pocket) (a : Option SlotNo) (h : a.isSome = true → (s.unit (otherPocket p)).seq.anchor ≠ a) :
      s.Turn (s.onUnit p fun u => { u with seq := { u.seq with anchor := a } })
  | airflowLost (p : Pocket) : s.Turn (s.onUnit p PocketUnit.loseAirflow)
  | airflowProven (p : Pocket) : s.Turn (s.onUnit p PocketUnit.proveAirflow)
  | zeroCross : s.Turn s.zeroCross
  | mainsLost : s.Turn { s with
      lower := s.lower.elementsOff, upper := s.upper.elementsOff, supply := { s.supply with mainsPresent := false } }
  | configure (a : Appliance) (h : 10 ≤ a.frame) : s.Turn (s.configure a)
  | reset (hl : s.lower.seq.run.engaged = false) (hu : s.upper.seq.run.engaged = false) : s.Turn s.resetBlocks
  | powerOn : s.Turn s.atPowerOn

/-- A chain of turns. -/
inductive State.Turns : State → State → Prop where
  | refl (s : State) : s.Turns s
  | tail {s t r : State} (h : s.Turns t) (hturn : t.Turn r) : s.Turns r

/-! ## Chains -/

section
variable {s t r : State} {p : Pocket}

theorem State.Turns.trans (h : s.Turns t) (k : t.Turns r) : s.Turns r := by
  induction k with
  | refl => exact h
  | tail _ hturn ih => exact .tail ih hturn

theorem State.Turn.turns (h : s.Turn t) : s.Turns t := .tail (.refl s) h

/-- What every turn keeps, every chain keeps. -/
theorem State.Turns.keeps {P : State → Prop} (hP : ∀ {a b : State}, a.Turn b → P a → P b) (h : s.Turns t) (hs : P s) :
    P t := by
  induction h with
  | refl => exact hs
  | tail _ hturn ih => exact hP hturn ih

/-- A chain of one step of the blocks. -/
theorem State.Turns.blocks (h : s.BlocksOnly t) : s.Turns t := (State.Turn.blocks h).turns

/-- A step of the blocks that touches neither the inbound queue nor the banks. -/
theorem State.BlocksOnly.of_eq (hpool : t.pool = s.pool := by rfl) (hlower : t.lower = s.lower := by rfl)
    (hupper : t.upper = s.upper := by rfl) (hsupply : t.supply = s.supply := by rfl)
    (hinbound : t.link.inbound = s.link.inbound := by rfl) (htrend : t.trend = s.trend := by rfl) :
    s.BlocksOnly t where
  pool     := hpool
  lower    := hlower
  upper    := hupper
  config   := by rw [hsupply]
  framePos := by rw [hsupply]
  mains    := by rw [hsupply]
  inbound  := by rw [hinbound]; exact id
  trend    := by rw [htrend]; exact id

theorem State.Turns.reply {k : Byte} {c : ResultCode} {d : List Byte} (h : s.Turns t) : s.Turns (t.reply k c d) :=
  h.trans (State.Turns.blocks .of_eq)

theorem State.turns_reply {k : Byte} {c : ResultCode} {d : List Byte} : s.Turns (s.reply k c d) := (State.Turns.refl s).reply

/-- A chain of one mild step. -/
theorem State.Turns.mild {f : PocketUnit → PocketUnit} (h : (s.unit p).Mild (f (s.unit p))) : s.Turns (s.onUnit p f) :=
  (State.Turn.mild p h).turns

theorem PocketUnit.DrumTurn.turns {cycles : Nat} {f : PocketUnit → PocketUnit}
    (h : (s.unit p).DrumTurn cycles (f (s.unit p))) : s.Turns (s.onUnit p f) := (State.Turn.drum p cycles h).turns

/-- A request to a sequencer: no write races with it (R200). -/
theorem PocketView.SeqTurn.turns {f : PocketView → PocketView} (h : (s.view p).SeqTurn (s.env p) (f (s.view p))) :
    s.Turns (s.onPocket p f) :=
  (State.Turn.sequencer p (s.env p) rfl (fun i x hrace => by simp at hrace) h).turns

/-- What a request would leave in a slot is not ACTIVE. -/
theorem State.writeOf_not_active {c : Instr} {i : SlotNo} {x : Slot} (h : s.writeOf c = some (i, x)) :
    x.isActive = false := by
  unfold State.writeOf at h
  split at h
  · split at h <;> simp at h
    rw [← h.2]; rfl
  · split at h
    · split at h <;> simp at h
      rw [← h.2]; rfl
    · simp at h
  · simp at h

/-- The write that races with an event of a pocket is to its active slot and leaves a slot that is not ACTIVE (R20). -/
theorem State.eventEnv_raceAllowed (s : State) (p : Pocket) : (s.view p).RaceAllowed (s.eventEnv p) := by
  intro i x hrace
  have hwrite : s.racingWrite p = some (i, x) := by
    obtain hnone | heq := s.eventEnv_racing p
    · simp [hnone] at hrace
    · rw [← heq, hrace]
  unfold State.racingWrite at hwrite
  split at hwrite
  · simp at hwrite
  · split at hwrite
    · simp at hwrite
    · next hx =>
      split at hwrite
      · next hactive =>
        simp only [Option.some.injEq, Prod.mk.injEq] at hwrite
        obtain ⟨rfl, rfl⟩ := hwrite
        exact ⟨hactive.1, State.writeOf_not_active hx⟩
      · simp at hwrite

/-- An event of a pocket's sequencer. -/
theorem PocketView.SeqTurn.turns_event {f : Env → PocketView → PocketView}
    (h : (s.view p).SeqTurn (s.eventEnv p) (f (s.eventEnv p) (s.view p))) : s.Turns (s.onEvent p f) := by
  have hturn := State.Turn.sequencer p (s.eventEnv p) rfl (s.eventEnv_raceAllowed p) h
  refine hturn.turns.trans (.blocks (.of_eq ?_ ?_ ?_ ?_ ?_ ?_)) <;> rw [State.onEvent_eq] <;> rfl

end

end Sys2Proof.Machine
end

section
/-! Every command is a chain of turns: first the requests, one after another, then the events, and the step with its clock. -/

namespace Sys2Proof.Machine

/-! ## Mild steps -/

/-- A step that leaves the run state and its marks, the motion of the drum, the heat and the faults, and no input worse. -/
theorem PocketUnit.Mild.of_parts {u v : PocketUnit}
    (hseq : v.seq = { u.seq with
      profile := v.seq.profile, confirm := v.seq.confirm, fanRunOn := v.seq.fanRunOn, fanFraction := v.seq.fanFraction } := by rfl)
    (hdrum : v.drum = { u.drum with
      table := v.drum.table, startTimer := v.drum.startTimer, speedLossTimer := v.drum.speedLossTimer } := by rfl)
    (hheat : v.heat = u.heat := by rfl) (hfaults : v.faults = u.faults := by rfl)
    (hdoor : u.pins.door = true → v.pins.door = true := by exact id) (hairf : v.pins.airf = u.pins.airf := by rfl) : u.Mild v := by
  have hpermission : u.hasPermission = true → v.hasPermission = true := by
    rw [PocketUnit.hasPermission_iff, PocketUnit.hasPermission_iff, hfaults, hseq]
    rintro ⟨hrun, hkind, hclosed, hrest⟩
    exact ⟨hrun, hkind, hdoor hclosed, hrest⟩
  constructor
  case permission => exact hpermission
  case door => exact hdoor
  case airf => exact hairf
  case demand | elements | airTimer => rw [hheat]
  case order | segment | state | dir | pendingDir | commanded | twist | unwind | stopTimer | settleTimer => rw [hdrum]
  all_goals rw [hseq]

/-- A latch on a pocket that is IDLE. -/
theorem PocketUnit.latch_mild (f : PocketFault) {u : PocketUnit} (h : u.seq.run = .idle) : u.Mild (u.latch f) := by
  constructor
  case permission =>
    intro hp
    rw [PocketUnit.hasPermission_of_not_running (by simp [h])] at hp
    exact absurd hp (by simp)
  all_goals simp

section
variable {s : State} {p : Pocket}

/-! ## Requests -/

theorem reqConfigure_turns (fields : ConfigureFields) (s : State) : s.Turns (reqConfigure fields s) := by
  unfold reqConfigure
  split
  · exact State.turns_reply
  · refine (State.Turn.configure _ ?_).turns.reply
    simp only [Appliance.clamped, clampNat]
    omega

theorem reqSetTempCal_turns (channel : Byte) (cLo tLo cHi tHi : Half) (s : State) :
    s.Turns (reqSetTempCal channel cLo tLo cHi tHi s) := by
  unfold reqSetTempCal
  split
  · exact State.turns_reply
  · dsimp only
    split
    · exact State.turns_reply
    · exact (State.Turns.blocks .of_eq).reply

theorem reqCalMoisture_turns (pocket : Byte) (s : State) : s.Turns (reqCalMoisture pocket s) := by
  unfold reqCalMoisture
  split
  · exact State.turns_reply
  · split
    · exact State.turns_reply
    · exact (State.Turns.mild .of_parts).reply

theorem reqSetDefaults_turns (pocket mask : Byte) (groups : List Byte) (s : State) :
    s.Turns (reqSetDefaults pocket mask groups s) := by
  unfold reqSetDefaults
  split
  · exact (State.Turns.mild .of_parts).reply
  · exact State.turns_reply

theorem reqPutMotion_turns (pocket index direction speed duration : Byte) (s : State) :
    s.Turns (reqPutMotion pocket index direction speed duration s) := by
  unfold reqPutMotion
  split
  · split
    · exact State.turns_reply
    · exact (State.Turns.mild .of_parts).reply
  · exact State.turns_reply

theorem State.answerRaced_turns (s : State) : s.Turns s.answerRaced :=
  .blocks .of_eq

theorem reqPutPhase_turns (slot kind next : Byte) (maxTime : Half) (segFirst segLast quals mask : Byte)
    (groups : List Byte) (s : State) :
    s.Turns (reqPutPhase slot kind next maxTime segFirst segLast quals mask groups s) := by
  unfold reqPutPhase
  split
  · split
    · exact s.answerRaced_turns.reply
    · split
      · exact State.turns_reply
      · next hi => exact (State.Turn.write _ _ (by simpa using hi) rfl).turns.reply
  · exact State.turns_reply

theorem reqErasePhase_turns (slot : Byte) (s : State) : s.Turns (reqErasePhase slot s) := by
  unfold reqErasePhase
  split
  · exact State.turns_reply
  · split
    · exact s.answerRaced_turns.reply
    · split
      · exact State.turns_reply
      · next hi =>
        simp only [Bool.or_eq_true, not_or, Bool.not_eq_true] at hi
        exact (State.Turn.write _ _ hi.1.1 rfl).turns.reply

theorem reqGetPhase_turns (slot : Byte) (s : State) : s.Turns (reqGetPhase slot s) := by
  unfold reqGetPhase
  split <;> exact State.turns_reply

theorem reqSetSafe_turns (pocket slot : Byte) (s : State) : s.Turns (reqSetSafe pocket slot s) := by
  unfold reqSetSafe
  split
  · split
    · exact State.turns_reply
    · split
      · exact State.turns_reply
      · next h => exact (State.Turn.anchor _ _ fun ha he => h ⟨ha, he⟩).turns.reply
  · exact State.turns_reply

/-- Checks 2 to 6 of START pass exactly in these states (R26). -/
theorem State.startRefusal_eq_none (s : State) (p : Pocket) :
    s.startRefusal p = none ↔
      ((s.unit p).seq.run = .idle ∨ (s.unit p).seq.run = .done) ∧ s.supply.configured = true ∧
        (s.unit p).seq.anchor ≠ none ∧ (s.unit p).faults = FaultSet.none ∧ (s.unit p).pins.door = true ∧
        (s.unit p).moist.calibration = none := by
  unfold State.startRefusal
  dsimp only
  grind [FaultSet.isEmpty_iff, Option.isSome_iff_ne_none]

theorem reqStart_turns (pocket slot : Byte) (s : State) : s.Turns (reqStart pocket slot s) := by
  unfold reqStart
  split
  · next p i _ _ =>
    split
    · exact State.turns_reply
    · next hrefusal =>
      obtain ⟨hrun, -, -, -, hdoor, -⟩ := (s.startRefusal_eq_none p).mp hrefusal
      split
      · exact State.turns_reply
      · next r hcheck => exact (PocketView.SeqTurn.start i r hrun hdoor hcheck).turns.reply
  · exact State.turns_reply

theorem reqPause_turns (pocket : Byte) (s : State) : s.Turns (reqPause pocket s) := by
  unfold reqPause
  split
  · exact State.turns_reply
  · next p _ =>
    have hdrives : ∀ r : RunState, (s.unit p).seq.run = r → r.drives = true →
        s.Turns (s.onPocket p (PocketView.enterPaused (s.env p))) := fun r hr hd =>
      (PocketView.SeqTurn.pause (by simpa [hr] using hd)).turns
    split
    · next hrun => exact (hdrives _ hrun rfl).reply
    · next hrun => exact (hdrives _ hrun rfl).reply
    · next hrun => exact (hdrives _ hrun rfl).reply
    all_goals exact State.turns_reply

theorem reqResume_turns (pocket : Byte) (s : State) : s.Turns (reqResume pocket s) := by
  unfold reqResume
  split
  · exact State.turns_reply
  · split
    · exact State.turns_reply
    · next hrun =>
      split
      · exact State.turns_reply
      · next hdoor => exact (PocketView.SeqTurn.resume (by simpa using hrun) (by simpa using hdoor)).turns.reply

theorem reqAdvance_turns (pocket : Byte) (s : State) : s.Turns (reqAdvance pocket s) := by
  unfold reqAdvance
  split
  · exact State.turns_reply
  · split
    · next hrun => exact (PocketView.SeqTurn.advance hrun).turns.reply
    · next hrun => exact (PocketView.SeqTurn.skip (by simp [hrun, RunState.evaluates])).turns.reply
    · next hrun => exact (PocketView.SeqTurn.skip (by simp [hrun, RunState.evaluates])).turns.reply
    all_goals exact State.turns_reply

theorem reqAbort_turns (pocket : Byte) (s : State) : s.Turns (reqAbort pocket s) := by
  unfold reqAbort
  split
  · exact State.turns_reply
  · split
    · next hrun => exact (PocketView.SeqTurn.abort (.inl hrun)).turns.reply
    · next hrun => exact (PocketView.SeqTurn.abort (.inr hrun)).turns.reply
    · next p _ _ _ hrun htarget =>
      exact (PocketView.SeqTurn.turns (f := fun v => v.onUnit (PocketUnit.retargetSafe .aborted))
        (PocketView.SeqTurn.retarget hrun htarget)).reply
    all_goals exact State.turns_reply

/-- Check 2 of BACKSTEP passes in HELD, and in PAUSED with resume target RUNNING (R62). -/
theorem Sequencer.backstepRefusal_eq_none (q : Sequencer) :
    q.backstepRefusal = none ↔ q.run = .held ∨ (q.run = .paused ∧ q.resumeTarget = .running) := by
  unfold Sequencer.backstepRefusal
  cases q.run <;> cases q.resumeTarget <;> simp

/-- Checks 3 to 5 of BACKSTEP: the entry exists, and its slot holds a record, as LOADED or as the pocket's own, that can be
run (R62). -/
theorem State.backstepTarget_eq_some {s : State} {p : Pocket} {k : Nat} {c : Checkpoint} {r : PhaseRecord} :
    s.backstepTarget p k = some (c, r) ↔
      (s.unit p).seq.history.reverse[k]? = some c ∧ segmentUsable r (s.unit p).drum = true ∧
        (s.pool[c.slot] = .loaded r ∨ s.pool[c.slot] = .active p r) := by
  unfold State.backstepTarget
  split
  · next h => simp [h]
  · next d h =>
    rw [h]
    split <;> rename_i hslot <;> grind

theorem reqBackstep_turns (pocket k : Byte) (s : State) : s.Turns (reqBackstep pocket k s) := by
  unfold reqBackstep
  split
  · exact State.turns_reply
  · split
    · exact State.turns_reply
    · split
      · exact State.turns_reply
      · next hrefusal =>
        split
        · exact State.turns_reply
        · next c r htarget =>
          obtain ⟨hc, -, hslot⟩ := State.backstepTarget_eq_some.mp htarget
          exact (PocketView.SeqTurn.backstep _ c r ((Sequencer.backstepRefusal_eq_none _).mp hrefusal) hc hslot).turns.reply

/-- The clearing of faults leaves no latch that was not there. -/
theorem State.faultsAfterClear_mild (s : State) (p : Pocket) (named : FaultSet) :
    (s.unit p).Mild { s.unit p with faults := s.faultsAfterClear p named } := by
  have hclear : ∀ f, (s.unit p).faults.has f = false → (s.faultsAfterClear p named).has f = false := by
    intro f hf
    simp [State.faultsAfterClear, hf]
  constructor
  case permission =>
    rw [PocketUnit.hasPermission_iff, PocketUnit.hasPermission_iff]
    rintro ⟨hrun, hkind, hdoor, hoverheat, hsensor, hairflow, hlink⟩
    exact ⟨hrun, hkind, hdoor, hclear .overheat hoverheat, hclear .sensor hsensor, hclear .airflow hairflow,
      hclear .linkLost hlink⟩
  all_goals first | rfl | exact id

/-- The test of R52 on a pocket. -/
theorem State.leaveHalted_turns (s : State) (p : Pocket) : s.Turns (s.onUnit p PocketUnit.leaveHalted) := by
  by_cases h : (s.unit p).seq.run = .halted ∧ (s.unit p).faults.isEmpty = true ∧ (s.unit p).drum.state = .stopped
  · rw [State.onUnit_congr (f := PocketUnit.leaveHalted) (g := fun u => { u with seq := { u.seq with run := .idle } }) (if_pos h)]
    exact (State.Turn.leaveHalted p h.1).turns
  · rw [State.onUnit_of_fixed (f := PocketUnit.leaveHalted) (if_neg h)]
    exact .refl s

theorem reqClearFault_turns (pocket faults : Byte) (s : State) : s.Turns (reqClearFault pocket faults s) := by
  unfold reqClearFault
  split
  · next p named _ _ =>
    have hclear : s.Turns (s.onUnit p fun u => { u with faults := s.faultsAfterClear p named }) :=
      .mild (s.faultsAfterClear_mild p named)
    have heq : s.onUnit p (PocketUnit.clearTo (s.faultsAfterClear p named)) =
        (s.onUnit p fun u => { u with faults := s.faultsAfterClear p named }).onUnit p PocketUnit.leaveHalted := by
      cases p <;> rfl
    dsimp only
    rw [heq]
    exact (hclear.trans (State.leaveHalted_turns _ p)).reply
  · exact State.turns_reply

theorem reqGetStatus_turns (target : Byte) (s : State) : s.Turns (reqGetStatus target s) := by
  unfold reqGetStatus
  split
  · exact (State.Turns.mild .of_parts).reply
  · exact (State.Turns.mild .of_parts).reply
  · exact (State.Turns.blocks .of_eq).reply
  · exact State.turns_reply

theorem reqGetHistory_turns (pocket : Byte) (s : State) : s.Turns (reqGetHistory pocket s) := by
  unfold reqGetHistory
  split <;> exact State.turns_reply

/-! ### The Trend Buffer's bounds -/

theorem TrendBuffer.Bounded.setReadBank {t : TrendBuffer} (h : t.Bounded) {rs : List TrendRecord} (hr : rs.length ≤ 64) :
    (t.setReadBank rs).Bounded := by
  obtain ⟨ha, hb, hthreshold⟩ := h
  unfold TrendBuffer.setReadBank
  split
  · exact ⟨ha, hr, hthreshold⟩
  · exact ⟨hr, hb, hthreshold⟩

theorem TrendBuffer.Bounded.setFillBank {t : TrendBuffer} (h : t.Bounded) {rs : List TrendRecord} (hr : rs.length ≤ 64) :
    (t.setFillBank rs).Bounded := by
  obtain ⟨ha, hb, hthreshold⟩ := h
  unfold TrendBuffer.setFillBank
  split
  · exact ⟨hr, hb, hthreshold⟩
  · exact ⟨ha, hr, hthreshold⟩

theorem TrendBuffer.Bounded.readBank {t : TrendBuffer} (h : t.Bounded) : t.readBank.length ≤ 64 := by
  obtain ⟨ha, hb, -⟩ := h
  unfold TrendBuffer.readBank
  split <;> assumption

theorem TrendView.switch_bounded {v : TrendView} (h : v.buffer.Bounded) : v.switch.buffer.Bounded :=
  h.setReadBank (rs := []) (by simp)

theorem TrendView.append_bounded {v : TrendView} (h : v.buffer.Bounded) (hroom : v.buffer.fillBank.length < 64)
    (r : TrendRecord) : (v.append r).buffer.Bounded := by
  have happended : (v.appended r).buffer.Bounded := h.setFillBank (by simp; omega)
  change (v.appended r).switchIfAbove.buffer.Bounded
  unfold TrendView.switchIfAbove
  split
  · exact TrendView.switch_bounded happended
  · exact happended

theorem TrendView.write_bounded {v : TrendView} (h : v.buffer.Bounded) (r : TrendRecord) : (v.write r).buffer.Bounded := by
  unfold TrendView.write
  split
  · split
    · exact TrendView.append_bounded (TrendView.switch_bounded h) (by simp [v.switch_does.2.1]) r
    · exact h
  · next hroom => exact TrendView.append_bounded h (by unfold bankSize at hroom; omega) r

theorem TrendView.removeReturned_bounded {v : TrendView} (h : v.buffer.Bounded) : v.removeReturned.buffer.Bounded := by
  have hremoved : v.removed.buffer.Bounded := h.setReadBank (by have := h.readBank; simp; omega)
  rw [TrendView.removeReturned_eq]
  split
  · exact TrendView.switch_bounded hremoved
  · exact hremoved

/-- A step of the Trend Buffer that keeps its bounds. -/
theorem State.onTrend_turns {f : TrendView → TrendView}
    (hf : ∀ v : TrendView, v.buffer.Bounded → (f v).buffer.Bounded) (s : State) : s.Turns (s.onTrend f) :=
  .blocks
    { pool := rfl, lower := rfl, upper := rfl, config := rfl, framePos := rfl, mains := rfl, inbound := id, trend := hf ⟨s.trend, s.device⟩ }

theorem reqReadTrend_turns (s : State) : s.Turns (reqReadTrend s) :=
  (s.onTrend_turns fun _ => TrendView.removeReturned_bounded).reply

theorem reqFlushTrend_turns (s : State) : s.Turns (reqFlushTrend s) := by
  unfold reqFlushTrend
  split
  · exact (s.onTrend_turns fun _ => TrendView.switch_bounded).reply
  · exact State.turns_reply

theorem reqTrendMode_turns (mode threshold : Byte) (s : State) : s.Turns (reqTrendMode mode threshold s) := by
  unfold reqTrendMode
  split
  · exact State.turns_reply
  · refine State.Turns.reply (.blocks ?_)
    refine { pool := rfl, lower := rfl, upper := rfl, config := rfl, framePos := rfl, mains := rfl, inbound := id,
             trend := fun ⟨ha, hb, _⟩ => ⟨ha, hb, ?_⟩ }
    simp only [clampNat]
    omega

/-! ### The resets -/

theorem State.relatch_turns (p : Pocket) {s : State} (h : (s.unit p).seq.run = .idle) : s.Turns (s.relatch p) := by
  have hlatch : ∀ (t : State) (f : PocketFault), (t.unit p).seq.run = .idle → t.Turns (t.onUnit p (PocketUnit.latch f)) :=
    fun t f ht => .mild (PocketUnit.latch_mild f ht)
  unfold State.relatch
  dsimp only
  split
  · split
    · exact (hlatch s _ h).trans (hlatch _ _ (by simpa using h))
    · exact hlatch s _ h
  · split
    · exact hlatch s _ h
    · exact .refl s

theorem State.resetPart_turns {s : State} (hl : s.lower.seq.run.engaged = false) (hu : s.upper.seq.run.engaged = false) :
    s.Turns s.resetPart := by
  rw [State.resetPart_eq]
  refine (State.Turn.reset hl hu).turns.trans ((State.relatch_turns .lower rfl).trans (State.relatch_turns .upper ?_))
  rw [State.relatch_eq]
  exact (congrArg (fun u : PocketUnit => u.seq.run) (State.onUnit_unit_other s.resetBlocks .lower _)).trans rfl

theorem reqResetPart_turns (s : State) : s.Turns (reqResetPart s) := by
  unfold reqResetPart
  split
  · exact State.turns_reply
  · next h =>
    simp only [Bool.or_eq_true, not_or, Bool.not_eq_true] at h
    exact (State.resetPart_turns h.1 h.2).reply

theorem State.reportTo_turns (s : State) (p : Pocket) (f : PocketFault) : s.Turns (s.reportTo p f) :=
  PocketView.SeqTurn.turns_event (PocketView.SeqTurn.report f)

theorem State.reportOpenCutout_turns (p : Pocket) (s : State) : s.Turns (s.reportOpenCutout p) := by
  unfold State.reportOpenCutout
  split
  · exact .refl s
  · exact s.reportTo_turns p .overheat

/-! ## A frame taken -/

theorem runRequest_turns (i : Instr) (s : State) : s.Turns (runRequest i s) := by
  cases i
  case configure => exact reqConfigure_turns _ s
  case setTempCal => exact reqSetTempCal_turns _ _ _ _ _ s
  case calMoisture => exact reqCalMoisture_turns _ s
  case setDefaults => exact reqSetDefaults_turns _ _ _ s
  case putMotion => exact reqPutMotion_turns _ _ _ _ _ s
  case putPhase => exact reqPutPhase_turns _ _ _ _ _ _ _ _ _ s
  case erasePhase => exact reqErasePhase_turns _ s
  case getPhase => exact reqGetPhase_turns _ s
  case setSafe => exact reqSetSafe_turns _ _ s
  case start => exact reqStart_turns _ _ s
  case pause => exact reqPause_turns _ s
  case resume => exact reqResume_turns _ s
  case advance => exact reqAdvance_turns _ s
  case abort => exact reqAbort_turns _ s
  case backstep => exact reqBackstep_turns _ _ s
  case clearFault => exact reqClearFault_turns _ _ s
  case getStatus => exact reqGetStatus_turns _ s
  case getHistory => exact reqGetHistory_turns _ s
  case getTemps => exact State.turns_reply
  case readTrend => exact reqReadTrend_turns s
  case flushTrend => exact reqFlushTrend_turns s
  case trendMode => exact reqTrendMode_turns _ _ s
  case resetPart => exact reqResetPart_turns s
  all_goals exact .refl s

theorem State.answerFrame_turns (f : InFrame) (s : State) : s.Turns (s.answerFrame f) := by
  unfold State.answerFrame
  split
  · split
    · exact State.turns_reply
    · exact State.turns_reply
    · exact runRequest_turns _ s
  · exact .blocks .of_eq

end

end Sys2Proof.Machine
end

section
/-! Every command is a chain of turns: the events, the step and its clock. -/

namespace Sys2Proof.Machine

section
variable {s : State} {p : Pocket}

/-! ## The drum -/

/-- A drum due for the end of its unwind bound has an unwind step. -/
theorem Drum.unwind_of_boundDue {d : Drum} (h : d.unwindBoundDue = true) : d.unwind.isSome = true := by
  unfold Drum.unwindBoundDue at h
  split at h
  · next hw => simp [hw]
  · simp at h

/-- A drum whose entry is due is driven. -/
theorem Drum.order_of_entryDue {d : Drum} (h : d.entryDue = true) : d.order = .runSegment := by
  unfold Drum.entryDue at h
  split at h
  · assumption
  · simp at h

/-- A met DRIVE condition, the discarded timer being one that no guard reads, or the stop timer (R91). -/
theorem State.driveCondition_turns {drop : Drum → Drum}
    (hdrop : (s.unit p).seq.run.engaged = false → s.Turns (s.onUnit p fun u => { u with drum := drop u.drum })) :
    s.Turns (s.driveCondition p drop) := by
  unfold State.driveCondition
  split
  · next h => exact (PocketView.SeqTurn.driveReport h).turns
  · next h => exact hdrop (by simpa using h)

/-! ## Windows and conversions -/

/-- A window that is judged changes the confirm counter and the moisture unit. -/
theorem State.judgeWindow_turns (w : SenseWindow) (s : State) (p : Pocket) :
    s.Turns (s.onUnit p (PocketUnit.judgeWindow w)) := .mild .of_parts

/-- A window that confirms dryness closes an open phase in RUNNING or SAFE. -/
theorem PocketUnit.open_of_confirmsDry {w : SenseWindow} {u : PocketUnit} (h : u.confirmsDry w = true) :
    u.seq.run.evaluates = true ∧ u.seq.phaseOpen = true := by
  simp only [PocketUnit.confirmsDry, PocketUnit.countsDry, PocketUnit.decides, Bool.and_eq_true] at h
  exact ⟨h.1.1.1.1.1.1.1, h.1.1.1.1.1.1.2⟩

/-- The pocket's window judged and its trend record written (R127, steps 1 to 4). -/
def State.windowJudged (p : Pocket) (w : SenseWindow) (s : State) : State :=
  let judged := s.onUnit p (PocketUnit.judgeWindow w)
  judged.onTrend (TrendView.write (judged.trendRecord p ((s.unit p).moist.windowReading w)))

theorem State.endWindow_eq (p : Pocket) (w : SenseWindow) (s : State) :
    s.endWindow p w =
      if (s.unit p).confirmsDry w then (s.windowJudged p w).onEvent p fun env => PocketView.endPhase env .dry
      else (s.windowJudged p w).onUnit p PocketUnit.alignWindow := rfl

theorem State.windowJudged_unit (p : Pocket) (w : SenseWindow) (s : State) :
    (s.windowJudged p w).unit p = (s.unit p).judgeWindow w := by
  simp [State.windowJudged]

theorem State.windowJudged_turns (p : Pocket) (w : SenseWindow) (s : State) : s.Turns (s.windowJudged p w) :=
  (s.judgeWindow_turns w p).trans (State.onTrend_turns (fun _ h => TrendView.write_bounded h _) _)

theorem State.endWindow_turns (p : Pocket) (w : SenseWindow) (s : State) : s.Turns (s.endWindow p w) := by
  rw [State.endWindow_eq]
  refine (s.windowJudged_turns p w).trans ?_
  split
  · next h =>
    obtain ⟨hrun, hopen⟩ := PocketUnit.open_of_confirmsDry h
    refine PocketView.SeqTurn.turns_event (.endPhase .dry ?_ ?_)
    · rw [State.view_unit, State.windowJudged_unit]; exact hrun
    · rw [State.view_unit, State.windowJudged_unit]; exact hopen
  · exact .mild .of_parts

theorem State.coolTest_turns (s : State) (p : Pocket) : s.Turns (s.coolTest p) := by
  unfold State.coolTest
  split
  · next h =>
    simp only [State.coolMet, Bool.and_eq_true] at h
    exact PocketView.SeqTurn.turns_event (.endPhase .cooled h.1.1.1 h.1.1.2)
  · exact .refl s

theorem State.afterInlet_turns (s : State) (p : Pocket) : s.Turns (s.afterInlet p) := by
  unfold State.afterInlet
  split
  · split
    · exact s.reportTo_turns p _
    · exact .refl s
  · split
    · exact s.reportTo_turns p _
    · exact .refl s

theorem State.spendFree_turns (s : State) : s.Turns s.spendFree := .blocks .of_eq

theorem State.reportThenEnd_turns (s : State) (p : Pocket) : s.Turns (s.reportThenEnd p) := by
  unfold State.reportThenEnd
  dsimp only
  split
  · exact (s.reportTo_turns p _).trans (State.coolTest_turns _ p)
  · exact s.reportTo_turns p _

theorem State.afterExhaust_turns (s : State) (p : Pocket) : s.Turns (s.afterExhaust p) := by
  unfold State.afterExhaust
  split
  · split
    · exact s.spendFree_turns.trans (State.reportThenEnd_turns _ p)
    · exact s.spendFree_turns.trans ((State.coolTest_turns _ p).trans (State.reportTo_turns _ p _))
  · exact s.coolTest_turns p

theorem State.convert_turns (s : State) (c : Channel) (n : Nat) : s.Turns (s.convert c n) := .blocks .of_eq

/-! ## The link -/

/-- A byte received leaves at most 2 frames in the queue (R198). -/
theorem LinkPort.receive_inbound_le (b : Byte) (good : Bool) {l : LinkPort} (h : l.inbound.length ≤ 2) :
    (l.receive b good).inbound.length ≤ 2 := by
  obtain ⟨a, heq⟩ | ⟨f, -, -, heq⟩ := l.receive_cases b good
  · simpa [heq] using h
  · rw [heq, (LinkPort.complete_does _ _).2.2.2.2.2.2.2.1]
    split
    · next hroom => rw [List.length_append, List.length_singleton]; exact hroom
    · exact h

theorem State.reportSilence_turns (p : Pocket) (s : State) : s.Turns (s.reportSilence p) := by
  unfold State.reportSilence
  split
  · exact s.reportTo_turns p _
  · exact .refl s

theorem State.expireSilence_turns (s : State) : s.Turns s.expireSilence := by
  have hexpired : s.Turns ({ s with link := { s.link with silenceExpired := true } } : State).spendFree := .blocks .of_eq
  unfold State.expireSilence
  dsimp only
  split
  · exact hexpired.trans ((State.reportSilence_turns .upper _).trans (State.reportSilence_turns .lower _))
  · exact hexpired.trans ((State.reportSilence_turns .lower _).trans (State.reportSilence_turns .upper _))

theorem State.beginNotice_turns (t : Target) (s : State) : s.Turns (s.beginNotice t) := by
  cases t with
  | pocket p =>
    have hclear : s.Turns (s.onUnit p fun u => { u with noticeMark := false }) := .mild .of_parts
    exact hclear.trans (by cases p <;> exact .blocks .of_eq)
  | device => exact .blocks .of_eq

end

/-! ## Commands -/

/-- The state, if the outcome is one, is reached from `s` by turns. -/
def State.ReachesOutcome (s : State) (o : Host.Outcome State Fault Refusal) : Prop :=
  ∀ t : State, o = .next t → s.Turns t

section
variable {s t : State}

theorem State.ReachesOutcome.next (h : s.Turns t) : s.ReachesOutcome (.next t)
  | _, rfl => h

/-- A command that acts only under its condition (entry 10). -/
theorem State.ReachesOutcome.when {c : Prop} [Decidable c] (h : c → s.Turns t) :
    s.ReachesOutcome (if c then .next t else .next s) := by
  split
  · next hc => exact .next (h hc)
  · exact .next (.refl s)

end

theorem execFrameTaken_turns (s : State) : s.ReachesOutcome (execFrameTaken s) := by
  unfold execFrameTaken
  split
  · next f rest hslot hinbound =>
    have htaken : s.Turns { s with link := { s.link with inbound := rest } } := .blocks
      { pool := rfl, lower := rfl, upper := rfl, config := rfl, framePos := rfl, mains := rfl,
        inbound := fun h => by rw [hinbound] at h; simp at h ⊢; omega, trend := id }
    exact .next (htaken.trans (State.answerFrame_turns f _))
  · exact .next (.refl s)

theorem execReplyTransmissionBegin_turns (s : State) : s.ReachesOutcome (execReplyTransmissionBegin s) := by
  unfold execReplyTransmissionBegin
  split
  · exact .next (.blocks .of_eq)
  · exact .next (.refl s)

theorem execNoticeFrameBegin_turns (s : State) : s.ReachesOutcome (execNoticeFrameBegin s) := by
  unfold execNoticeFrameBegin
  split
  · exact .next (s.beginNotice_turns _)
  · exact .next (.refl s)

theorem execTransmissionEnd_turns (s : State) : s.ReachesOutcome (execTransmissionEnd s) := by
  unfold execTransmissionEnd
  split
  · exact .when fun _ => .blocks .of_eq
  · exact .next (.refl s)

theorem execReceiveByte_turns (b : Byte) (good : Bool) (s : State) : s.ReachesOutcome (execReceiveByte b good s) :=
  .next (.blocks
    { pool := rfl, lower := rfl, upper := rfl, config := rfl, framePos := rfl, mains := rfl,
      inbound := LinkPort.receive_inbound_le b good, trend := id })

theorem execCalIsolatedPartEnd_turns (p : Pocket) (s : State) : s.ReachesOutcome (execCalIsolatedPartEnd p s) := by
  unfold execCalIsolatedPartEnd
  split
  · exact .when fun _ => .mild .of_parts
  · exact .next (.refl s)

/-- The end of the reference part of a calibration is seen by no guard. -/
theorem PocketUnit.endReference_mild (openLimit measuredOpen : Nat) (u : PocketUnit) :
    u.Mild (u.endReference openLimit measuredOpen) := by
  unfold PocketUnit.endReference
  dsimp only
  split
  · unfold PocketUnit.completeCal
    dsimp only
    split <;> exact .of_parts
  · exact .of_parts

theorem execCalComplete_turns (p : Pocket) (s : State) : s.ReachesOutcome (execCalComplete p s) := by
  unfold execCalComplete
  split
  · split
    · exact .next (.mild (PocketUnit.endReference_mild _ _ _))
    · exact .next (.refl s)
  · exact .next (.refl s)

theorem execWindowEnd_turns (p : Pocket) (s : State) : s.ReachesOutcome (execWindowEnd p s) := by
  unfold execWindowEnd
  split
  · exact .when fun _ => s.endWindow_turns p _
  · exact .next (.refl s)

theorem execChannelConversion_turns (channel : Channel) (count : ConverterCount) (s : State) :
    s.ReachesOutcome (execChannelConversion channel count s) := by
  cases channel with
  | lowerInlet => exact .next ((s.convert_turns _ _).trans (State.afterInlet_turns _ .lower))
  | lowerExhaust => exact .next ((s.convert_turns _ _).trans (State.afterExhaust_turns _ .lower))
  | upperInlet => exact .next ((s.convert_turns _ _).trans (State.afterInlet_turns _ .upper))
  | upperExhaust => exact .next ((s.convert_turns _ _).trans (State.afterExhaust_turns _ .upper))
  | ambient => exact .next (.blocks .of_eq)

theorem execMainsLoss_turns (s : State) : s.ReachesOutcome (execMainsLoss s) :=
  .when fun _ => State.Turn.mainsLost.turns.trans (.blocks .of_eq)

theorem execPowerOn_turns (s : State) : s.ReachesOutcome (execPowerOn s) :=
  .next (State.Turn.powerOn.turns.trans
    ((State.reportOpenCutout_turns .lower _).trans (State.reportOpenCutout_turns .upper _)))

theorem execDoorClosing_turns (p : Pocket) (s : State) : s.ReachesOutcome (execDoorClosing p s) := by
  unfold execDoorClosing
  split
  · exact .next (.refl s)
  · exact .next (.mild (.of_parts (hdoor := fun _ => rfl)))

theorem execMpulseEdge_turns (p : Pocket) (s : State) : s.ReachesOutcome (execMpulseEdge p s) := by
  unfold execMpulseEdge
  split
  · exact .next (.refl s)
  · exact .next (.mild .of_parts)

/-- A request is carried out by its owner (R200). -/
theorem exec_of_request {i : Instr} {k : Byte} {payload : List Byte} (h : requestFrame i = some (k, payload)) (s : State) :
    exec i s = .next (runRequest i s) := by
  cases i <;> first | rfl | cases h

/-- Every command is a chain of turns. -/
theorem exec_turns (c : Instr) (s : State) : s.ReachesOutcome (exec c s) := by
  rcases hc : requestFrame c with _ | ⟨k, payload⟩
  case some => exact exec_of_request hc s ▸ .next (runRequest_turns c s)
  cases c
  case powerOn => exact execPowerOn_turns s
  case receiveByte b good => exact execReceiveByte_turns b good s
  case receiveSilenceTimeout => exact .when fun _ => .blocks .of_eq
  case frameTaken => exact execFrameTaken_turns s
  case replyTransmissionBegin => exact execReplyTransmissionBegin_turns s
  case noticeFrameBegin => exact execNoticeFrameBegin_turns s
  case transmissionEnd => exact execTransmissionEnd_turns s
  case silenceTimerExpiry => exact .when fun _ => s.expireSilence_turns
  case doorOpening p => exact .when fun _ => PocketView.SeqTurn.openDoor.turns
  case doorClosing p => exact execDoorClosing_turns p s
  case phaseTimerExpiry p =>
    refine .when fun h => ?_
    simp only [PocketUnit.phaseDue, Bool.and_eq_true] at h
    exact PocketView.SeqTurn.turns_event (.endPhase _ h.1.1 h.1.2)
  case unattendedResume p =>
    refine .when fun h => ?_
    simp only [PocketUnit.unattendedDue, Bool.and_eq_true, decide_eq_true_eq] at h
    exact PocketView.SeqTurn.turns_event (f := fun env v => (v.onUnit PocketUnit.leavePause).resumeToSafe env)
      (.unattended h.1.1.1 h.1.2)
  case fanRunOnExpiry p => exact .when fun _ => .mild .of_parts
  case tachEdge p => exact .next ((PocketUnit.DrumTurn.edge s.free).turns.trans (State.spendFree_turns _))
  case tachoCaptureOverflow p => exact .when fun _ => (PocketUnit.DrumTurn.overflow (cycles := 0)).turns
  case unwindBoundExpiry p => exact .when fun h => (PocketUnit.DrumTurn.unwindBound (Drum.unwind_of_boundDue h)).turns
  case loosenDwellExpiry p => exact .when fun _ => PocketUnit.DrumTurn.loosenOver.turns
  case stopConfirmed p =>
    refine .when fun h => ?_
    simp only [Drum.stopDue, Bool.and_eq_true, decide_eq_true_eq] at h
    exact (PocketUnit.DrumTurn.stopConfirmed h.1).turns
  case standstillExpiry p =>
    exact .when fun h => (PocketUnit.DrumTurn.standstillOver ((Drum.standstillDue_iff _).mp h).1).turns
  case entryDurationExpiry p => exact .when fun h => (PocketUnit.DrumTurn.entryOver (Drum.order_of_entryDue h)).turns
  case startTimeout p => exact .when fun _ => State.driveCondition_turns fun _ => .mild .of_parts
  case speedLossTimeout p => exact .when fun _ => State.driveCondition_turns fun _ => .mild .of_parts
  case stopTimeout p =>
    exact .when fun _ => State.driveCondition_turns fun h => (PocketUnit.DrumTurn.stopDropped (cycles := 0) h).turns
  case mpulseEdge p => exact execMpulseEdge_turns p s
  case forcedOpenPeriod p => exact .when fun _ => .mild .of_parts
  case calIsolatedPartEnd p => exact execCalIsolatedPartEnd_turns p s
  case calComplete p => exact execCalComplete_turns p s
  case windowEnd p => exact execWindowEnd_turns p s
  case channelConversion c n => exact execChannelConversion_turns c n s
  case cutoutOpening p =>
    have hopen : s.Turns (s.onUnit p (PocketUnit.setCutout false)) := .mild .of_parts
    exact .when fun _ => hopen.trans (State.reportTo_turns _ p _)
  case zeroCross => exact .next State.Turn.zeroCross.turns
  case mainsLoss => exact execMainsLoss_turns s
  case airfDeasserted p => exact .when fun _ => (State.Turn.airflowLost p).turns
  case airfAsserted p => exact .next (State.Turn.airflowProven p).turns
  case airflowTimeout p => exact .when fun _ => s.reportTo_turns p .airflow
  case cutoutClosing p => exact .next (.mild .of_parts)
  all_goals cases hc

/-! ## The step -/

/-- A microsecond on a pocket is seen by no guard. -/
theorem PocketUnit.tick_mild (tach mains : Bool) (u : PocketUnit) : u.Mild (u.tick tach mains) := by
  have hfan := Sequencer.tickFan_eq
    { u.seq with
      phaseTimer := if u.seq.run.evaluates && u.seq.phaseOpen then u.seq.phaseTimer + 1 else u.seq.phaseTimer
      pauseTimer := if u.seq.run = .paused then bump pauseTimerMax u.seq.pauseTimer else u.seq.pauseTimer
      doorClosedFor := if u.seq.run = .paused ∧ u.seq.unattended = true ∧ u.pins.door = true
        then u.seq.doorClosedFor + 1 else u.seq.doorClosedFor }
  have hseq : (u.tick tach mains).seq = _ := hfan
  constructor
  case permission =>
    rw [PocketUnit.hasPermission_iff, PocketUnit.hasPermission_iff, hseq]
    exact id
  case door => exact id
  case airTimer => cases mains <;> simp [PocketUnit.tick, PocketHeat.tick, tickTimer]
  all_goals first
    | rw [hseq]
    | simp [PocketUnit.tick, Drum.tick, PocketHeat.tick, tickTimer]

theorem State.tick_turns (s : State) : s.Turns s.tick := by
  have hlower : s.Turns (s.setUnit .lower (s.lower.tick s.tachTicks s.supply.mainsPresent)) :=
    (State.Turn.mild .lower (PocketUnit.tick_mild _ _ _)).turns
  have hupper := (State.Turn.mild .upper (s := s.setUnit .lower (s.lower.tick s.tachTicks s.supply.mainsPresent))
    (PocketUnit.tick_mild s.tachTicks s.supply.mainsPresent s.upper)).turns
  refine hlower.trans (hupper.trans (.blocks ?_))
  have hsupply : s.supply.tick.config = s.supply.config ∧ s.supply.tick.framePos = s.supply.framePos ∧
      s.supply.tick.mainsPresent = s.supply.mainsPresent := by
    unfold Supply.tick; split <;> simp_all
  exact { pool := rfl, lower := rfl, upper := rfl, config := hsupply.1, framePos := hsupply.2.1, mains := hsupply.2.2,
          inbound := id, trend := id }

/-- Every step is a chain of turns: of the front command, or of the clock. -/
theorem step_turns {s t : State} (h : step s = .next t) : s.Turns t := by
  unfold step at h
  split at h
  · next c rest _ =>
    have hqueue : s.Turns { s with pending := rest } := .blocks .of_eq
    exact hqueue.trans (exec_turns c _ t h)
  · unfold idle at h
    split at h
    · next e s' hdue =>
      have hstate : s' = s ∨ s' = s.spendFree := by
        unfold State.nextDue at hdue
        split at hdue <;> simp at hdue <;> simp [← hdue.2]
      obtain rfl | rfl := hstate
      · exact exec_turns e _ t h
      · exact s.spendFree_turns.trans (exec_turns e _ t h)
    · simp only [Host.Outcome.next.injEq] at h
      exact h ▸ s.tick_turns

end Sys2Proof.Machine
end

section
/-! What the turns keep that no invariant is about: a turn of the drum leaves the sequencer, the moisture unit, the faults, the
inputs, the heat but for the reserve, the motion table and the drive order. -/

namespace Sys2Proof.Machine

/-- A property that every pocket has stays one that every pocket has when one pocket is replaced by one that has it. -/
theorem State.forall_unit_setUnit {P : PocketUnit → Prop} {s : State} {p : Pocket} {u : PocketUnit}
    (h : ∀ q, P (s.unit q)) (hu : P u) (q : Pocket) : P ((s.setUnit p u).unit q) := by
  obtain rfl | rfl := eq_or_eq_otherPocket p q
  · rwa [State.setUnit_unit]
  · rw [State.setUnit_unit_other]; exact h _

theorem State.forall_unit_setView {P : PocketUnit → Prop} {s : State} {p : Pocket} {v : PocketView}
    (h : ∀ q, P (s.unit q)) (hv : P v.unit) (q : Pocket) : P ((s.setView p v).unit q) := by
  obtain rfl | rfl := eq_or_eq_otherPocket p q
  · rwa [State.setView_unit]
  · rw [State.setView_unit_other]; exact h _

/-- What every turn of the drum keeps. -/
structure PocketUnit.MotionStep (u v : PocketUnit) : Prop where
  seq    : v.seq = u.seq
  moist  : v.moist = u.moist
  faults : v.faults = u.faults
  pins   : v.pins = u.pins
  heat   : v.heat = { u.heat with reserve := v.heat.reserve }
  table  : v.drum.table = u.drum.table
  order  : v.drum.order = u.drum.order

theorem PocketUnit.MotionStep.refl (u : PocketUnit) : u.MotionStep u := by constructor <;> rfl

theorem PocketUnit.MotionStep.trans {u v w : PocketUnit} (h : u.MotionStep v) (k : v.MotionStep w) : u.MotionStep w where
  seq    := k.seq.trans h.seq
  moist  := k.moist.trans h.moist
  faults := k.faults.trans h.faults
  pins   := k.pins.trans h.pins
  heat   := by rw [k.heat, h.heat]
  table  := k.table.trans h.table
  order  := k.order.trans h.order

theorem PocketUnit.DrumStep.motion {u v : PocketUnit} (h : u.DrumStep v) : u.MotionStep v :=
  ⟨h.seq, h.moist, h.faults, h.pins, h.heat, h.table, h.order⟩

theorem PocketUnit.MotionStep.beginRun {u w : PocketUnit} (h : u.MotionStep w) (cycles : Nat) (dir : Dir) (speed : Nat) :
    u.MotionStep (w.beginRun cycles dir speed) := h.trans (PocketUnit.beginRun_step cycles dir speed w).1.motion

/-- A change of the drum alone that keeps its table and its order. -/
theorem PocketUnit.MotionStep.of_drum (u : PocketUnit) {d : Drum} (htable : d.table = u.drum.table := by rfl)
    (horder : d.order = u.drum.order := by rfl) : u.MotionStep { u with drum := d } := by
  constructor <;> first | rfl | assumption

theorem Drum.takeMeasurement_keeps (d : Drum) :
    d.takeMeasurement.table = d.table ∧ d.takeMeasurement.order = d.order := by
  unfold Drum.takeMeasurement
  split
  · split <;> simp
  · rw [Drum.testSpeedLoss_eq]; simp

theorem PocketUnit.revolution_motion (free cycles : Nat) (u : PocketUnit) : u.MotionStep (u.revolution free cycles) := by
  have hcount : u.MotionStep { u with drum := u.drum.countRevolution } := .of_drum u
  have hmonitor : u.MotionStep (PocketUnit.monitorRevolution free { u with drum := u.drum.countRevolution }) :=
    hcount.trans (.of_drum _)
  unfold PocketUnit.revolution
  dsimp only
  split
  · exact hmonitor.trans (PocketUnit.trigger_step _ _).1.motion
  · split
    · split
      · exact hmonitor.trans (PocketUnit.endUnwind_step _ _).1.motion
      · exact hmonitor
    · exact hmonitor.trans (PocketUnit.twistCheck_step _).1.motion

theorem PocketUnit.edgeOnDrum_motion (u : PocketUnit) : u.MotionStep u.edgeOnDrum := by
  have hmeasured : u.MotionStep { u with drum := u.drum.takeMeasurement } :=
    .of_drum u u.drum.takeMeasurement_keeps.1 u.drum.takeMeasurement_keeps.2
  unfold PocketUnit.edgeOnDrum
  split
  · exact .of_drum u
  · exact .of_drum u
  · dsimp only
    split
    · exact hmeasured.trans (PocketUnit.twistCheck_step _).1.motion
    · exact hmeasured
  · exact hmeasured
  · exact .refl u

theorem PocketUnit.MotionStep.unwindAfterStop {u w : PocketUnit} (h : u.MotionStep w) (cycles : Nat) :
    u.MotionStep (w.unwindAfterStop cycles) := by
  unfold PocketUnit.unwindAfterStop
  split
  · split
    · split
      · exact h.trans (.of_drum w)
      · exact .beginRun (h.trans (.of_drum w)) _ _ _
    · exact h
  · exact h

/-- Every turn of the drum is a motion step. -/
theorem PocketUnit.DrumTurn.motion {cycles : Nat} {u v : PocketUnit} (h : u.DrumTurn cycles v) : u.MotionStep v := by
  cases h with
  | edge free =>
    have hpulse (e : EdgeRecord) : u.MotionStep { u with drum := (u.drum.captureEdge free).addPulse e } := .of_drum u
    unfold PocketUnit.tachEdge
    dsimp only
    split
    · exact (hpulse _).trans ((PocketUnit.revolution_motion _ _ _).trans (PocketUnit.edgeOnDrum_motion _))
    · exact (hpulse _).trans (PocketUnit.edgeOnDrum_motion _)
  | overflow => exact .of_drum u (Drum.takeMeasurement_keeps _).1 (Drum.takeMeasurement_keeps _).2
  | unwindBound => exact (PocketUnit.endUnwind_step _ _).1.motion
  | loosenOver =>
    unfold PocketUnit.loosenOver
    split
    · exact .beginRun (.of_drum u) _ _ _
    · exact .refl u
  | stopConfirmed =>
    unfold PocketUnit.confirmStop
    split
    · exact .of_drum u
    · exact .unwindAfterStop (.of_drum u) _
  | standstillOver =>
    unfold PocketUnit.standstillOver
    split
    · constructor <;> rfl
    · exact .refl u
  | entryOver => exact (PocketUnit.nextEntry_step _ _).1.motion
  | stopDropped => exact .of_drum u

/-- A motion step keeps heat permission. -/
theorem PocketUnit.MotionStep.hasPermission {u v : PocketUnit} (h : u.MotionStep v) : v.hasPermission = u.hasPermission := by
  simp [PocketUnit.hasPermission, h.seq, h.pins, h.faults]

end Sys2Proof.Machine
end

section
/-! The guard on heat (8.3, 8.6, 8.9): an output that is on has airflow and mains behind it through every operation of a
sequencer, and the test of heat permission with which each of them ends gives the guard. -/

namespace Sys2Proof.Machine

/-- The guard on a pocket's heat: both halves. -/
def PocketUnit.HeatSound (mains : Bool) (u : PocketUnit) : Prop := u.HeatGuarded mains ∧ u.HeatWithdrawn

/-- An output that is on has airflow proven and mains present, whatever the permission. -/
def PocketUnit.OutputsProven (mains : Bool) (u : PocketUnit) : Prop :=
  ∀ j : Fin 3, u.heat.elements[j].output = true → u.pins.airf = true ∧ mains = true

section
variable {mains : Bool} {u w : PocketUnit} {v : PocketView} {env : Env}

theorem PocketUnit.HeatSound.outputsProven (h : u.HeatSound mains) : u.OutputsProven mains := fun j hj => (h.1 j hj).2

/-- What is proven depends on the elements and on AIRF alone. -/
theorem PocketUnit.OutputsProven.of_eq (h : u.OutputsProven mains) (helements : w.heat.elements = u.heat.elements)
    (hairf : w.pins.airf = u.pins.airf) : w.OutputsProven mains := fun j hj => by
  rw [helements] at hj
  rw [hairf]
  exact h j hj

/-- Where heat is off, it is guarded. -/
theorem PocketHeat.IsOff.heatSound (h : u.heat.IsOff) : u.HeatSound mains := by
  obtain ⟨hdemand, htimer, helements⟩ := h
  refine ⟨fun j hj => ?_, fun _ => ⟨hdemand, htimer, fun j => ⟨(helements j).1, (helements j).2.1⟩⟩⟩
  rw [(helements j).2.2] at hj
  exact absurd hj (by simp)

/-- The test of heat permission gives the guard (R158). -/
theorem PocketUnit.OutputsProven.checkHeat (h : u.OutputsProven mains) : u.checkHeat.HeatSound mains := by
  by_cases hp : u.hasPermission = true
  · have hheat : u.checkHeat = u := if_pos hp
    rw [hheat]
    exact ⟨fun j hj => ⟨hp, h j hj⟩, fun hn => by rw [hp] at hn; exact absurd hn (by simp)⟩
  · exact (PocketUnit.checkHeat_isOff (by simpa using hp)).heatSound

/-- A step that leaves the heat's elements and demand, and takes no permission away, keeps the guard. -/
theorem PocketUnit.HeatSound.of_permission (h : u.HeatSound mains) (helements : w.heat.elements = u.heat.elements)
    (hdemand : w.heat.demand = u.heat.demand) (htimer : w.heat.airTimer.isSome = u.heat.airTimer.isSome)
    (hairf : w.pins.airf = u.pins.airf) (hpermission : u.hasPermission = true → w.hasPermission = true) :
    w.HeatSound mains := by
  refine ⟨fun j hj => ?_, fun hn => ?_⟩
  · rw [helements] at hj
    obtain ⟨hp, ha⟩ := h.1 j hj
    exact ⟨hpermission hp, hairf ▸ ha⟩
  · have hu : u.hasPermission = false := by
      refine (Bool.not_eq_true _).mp fun hp => ?_
      exact absurd ((hpermission hp).symm.trans hn) (by simp)
    obtain ⟨hd, ht, he⟩ := h.2 hu
    rw [helements, hdemand]
    refine ⟨hd, ?_, he⟩
    simpa [ht] using htimer

theorem PocketUnit.Mild.heatSound (h : u.Mild w) (hu : u.HeatSound mains) : w.HeatSound mains :=
  hu.of_permission h.elements h.demand h.airTimer h.airf h.permission

theorem PocketUnit.MotionStep.heatSound (h : u.MotionStep w) (hu : u.HeatSound mains) : w.HeatSound mains :=
  hu.of_permission (by rw [h.heat]) (by rw [h.heat]) (by rw [h.heat]) (by rw [h.pins]) (by rw [h.hasPermission]; exact id)

/-! ## The sequencer: what keeps the outputs proven -/

namespace PocketUnit.OutputsProven

theorem closePhase (h : u.OutputsProven mains) (o : PhaseOutcome) : (u.closePhase o).OutputsProven mains :=
  h.of_eq (by simp) (by simp)

theorem latch (h : u.OutputsProven mains) (f : PocketFault) : (u.latch f).OutputsProven mains :=
  h.of_eq (by simp) (by simp)

theorem clearQuals (h : u.OutputsProven mains) : u.clearQuals.OutputsProven mains := h

theorem release (h : v.unit.OutputsProven mains) (p : Pocket) : (v.release p).unit.OutputsProven mains :=
  h.of_eq (by simp) (by simp)

theorem vacate (h : v.unit.OutputsProven mains) (env : Env) (i : SlotNo) : (v.vacate env i).unit.OutputsProven mains :=
  h.of_eq (by simp) (by simp)

theorem enterSlot (h : v.unit.OutputsProven mains) (env : Env) (i : SlotNo) (r : PhaseRecord) :
    (v.enterSlot env i r).unit.OutputsProven mains := by
  obtain ⟨-, -, -, -, -, -, hpins, hheat, -⟩ := PocketView.enterSlot_does env i r v
  exact h.of_eq (by rw [hheat]) (by rw [hpins])

theorem retargetSafe (h : u.OutputsProven mains) (o : PhaseOutcome) : (u.retargetSafe o).OutputsProven mains :=
  h.closePhase o

theorem resumeEntry (h : u.OutputsProven mains) (cycles : Nat) : (u.resumeEntry cycles).OutputsProven mains := by
  obtain ⟨-, -, -, hpins, hheat, -⟩ := PocketUnit.resumeEntry_keeps cycles u
  exact h.of_eq (by rw [hheat]) (by rw [hpins])

theorem handRunning (h : u.OutputsProven mains) (cycles : Nat) (first last : EntryNo) :
    (u.handRunning cycles first last).OutputsProven mains := by
  obtain ⟨-, -, -, hpins, hheat, -⟩ := PocketUnit.handRunning_keeps cycles first last u
  exact h.of_eq (by rw [hheat]) (by rw [hpins])

theorem holdDrum (h : u.OutputsProven mains) (cycles : Nat) : (u.holdDrum cycles).OutputsProven mains := by
  have hstep := (PocketUnit.holdDrum_step cycles u).1
  exact h.of_eq (by rw [hstep.heat]) (by rw [hstep.pins])

/-! ## The sequencer: what ends with the test of heat permission -/

theorem enterHalted (h : v.unit.OutputsProven mains) (env : Env) : (v.enterHalted env).unit.HeatSound mains :=
  checkHeat (h.of_eq (by simp [PocketUnit.clearQuals, PocketUnit.abandonWindow])
    (by simp [PocketUnit.clearQuals, PocketUnit.abandonWindow]))

theorem enterDone (h : v.unit.OutputsProven mains) (env : Env) : (v.enterDone env).unit.HeatSound mains :=
  checkHeat (h.of_eq (by simp [PocketUnit.abandonWindow]) (by simp [PocketUnit.abandonWindow]))

theorem chainHalt (h : v.unit.OutputsProven mains) (env : Env) : (v.chainHalt env).unit.HeatSound mains :=
  enterHalted (h.latch .chain) env

theorem enterSafe (_ : v.unit.OutputsProven mains) (env : Env) : (v.enterSafe env).unit.HeatSound mains := by
  obtain ⟨a, r, -, -, -, -, -, -, hoff⟩ | ⟨-, -, -, hoff⟩ := v.enterSafe_cases env <;> exact hoff.heatSound

theorem orderSafe (h : v.unit.OutputsProven mains) (env : Env) : (v.orderSafe env).unit.OutputsProven mains := by
  have hclosed : (v.onUnit (PocketUnit.closePhase .faulted)).unit.OutputsProven mains := h.closePhase _
  unfold PocketView.orderSafe
  split
  · exact (hclosed.enterSafe env).outputsProven
  · exact (hclosed.enterSafe env).outputsProven
  · split
    · exact h.retargetSafe _
    · exact h
  all_goals exact h

theorem orderHalt (h : v.unit.OutputsProven mains) (env : Env) : (v.orderHalt env).unit.OutputsProven mains := by
  unfold PocketView.orderHalt
  split
  · exact (enterHalted (v := v.onUnit (PocketUnit.closePhase .faulted)) (h.closePhase _) env).outputsProven
  · exact h

theorem abandonedByHost (h : v.unit.OutputsProven mains) (env : Env) : (v.abandonedByHost env).unit.OutputsProven mains :=
  h.orderSafe env

theorem respond (h : v.unit.OutputsProven mains) (env : Env) (f : PocketFault) :
    (v.respond env f).unit.OutputsProven mains := by
  unfold PocketView.respond
  split
  · split <;> first | exact h.orderSafe env | exact h
  · split <;> first | exact h.orderSafe env | exact h
  · split <;> first | exact h.orderSafe env | exact h
  · exact h.orderHalt env
  · exact h
  · split <;> first | exact h.orderSafe env | exact h.abandonedByHost env | exact h

theorem report (h : v.unit.OutputsProven mains) (env : Env) (f : PocketFault) : (v.report env f).unit.HeatSound mains := by
  obtain ⟨-, heq⟩ | ⟨-, -, -, heq⟩ | ⟨-, -, heq⟩ := v.report_cases env f <;> rw [heq]
  · exact checkHeat (respond (v := v.onUnit (PocketUnit.latch f)) (h.latch f) env f)
  · exact checkHeat (h.abandonedByHost env)
  · exact h.checkHeat

theorem become (h : v.unit.OutputsProven mains) (env : Env) (st : RunState) : (v.become env st).unit.HeatSound mains := by
  have hst : PocketUnit.HeatSound mains
      (v.onUnit fun u => PocketUnit.checkHeat { u with seq := { u.seq with run := st } }).unit := checkHeat h
  unfold PocketView.become PocketView.reportOnEntry
  split
  · exact hst.outputsProven.report env .linkLost
  · exact hst

theorem advance (h : v.unit.OutputsProven mains) (env : Env) : (v.advance env).unit.HeatSound mains := by
  have hclear : (v.onUnit PocketUnit.clearQuals).unit.OutputsProven mains := h
  unfold PocketView.advance
  dsimp only
  split
  · exact hclear.enterDone env
  · next i _ =>
    obtain ⟨r, -, heq⟩ | ⟨e, -, heq⟩ := (v.onUnit PocketUnit.clearQuals).activate_cases env i <;> rw [heq] <;> dsimp only
    · split <;> exact ((hclear.vacate env i).enterSlot env i r).become env _
    · split
      · exact (hclear.vacate env i).chainHalt env
      · exact enterSafe (v := (PocketView.vacate env i _).onUnit (PocketUnit.latch .chain))
          ((hclear.vacate env i).latch .chain) env

theorem endPhase (h : v.unit.OutputsProven mains) (env : Env) (o : PhaseOutcome) :
    (v.endPhase env o).unit.HeatSound mains := by
  obtain ⟨-, -, -, heq⟩ | ⟨-, heq⟩ := v.endPhase_cases env o <;> rw [heq]
  · exact become (v := (v.onUnit (PocketUnit.closePhase o)).onUnit fun u =>
      PocketUnit.alignWindow (PocketUnit.raise .held (u.holdDrum env.reserveCycles)))
      ((h.closePhase o).holdDrum env.reserveCycles) env .held
  · exact advance (v := v.onUnit (PocketUnit.closePhase o)) (h.closePhase o) env

theorem enterPaused (h : v.unit.OutputsProven mains) (env : Env) : (v.enterPaused env).unit.HeatSound mains := by
  unfold PocketView.enterPaused
  exact become (by exact h) env .paused

theorem continueIn (h : v.unit.OutputsProven mains) (env : Env) (st : RunState) :
    (v.continueIn env st).unit.HeatSound mains := by
  unfold PocketView.continueIn
  exact become (v := v.onUnit fun u => PocketUnit.alignWindow (u.resumeEntry env.reserveCycles)) (h.resumeEntry _) env st

theorem resumeToSafe (h : v.unit.OutputsProven mains) (env : Env) : (v.resumeToSafe env).unit.HeatSound mains := by
  unfold PocketView.resumeToSafe
  split
  · exact h.continueIn env .safe
  · exact h.enterSafe env

theorem startChain (h : v.unit.OutputsProven mains) (env : Env) (i : SlotNo) (r : PhaseRecord) :
    (v.startChain env i r).unit.HeatSound mains := by
  unfold PocketView.startChain
  refine become ?_ env .running
  exact enterSlot (v := (v.release env.pocket).onUnit PocketUnit.freshRun) (h.release _) env i r

theorem restore (h : u.OutputsProven mains) (c : Checkpoint) (r : PhaseRecord) : (u.restore c r).OutputsProven mains :=
  h.of_eq (by simp [PocketUnit.restore, PocketUnit.rewind]) (by simp [PocketUnit.restore, PocketUnit.rewind])

theorem backstep (h : v.unit.OutputsProven mains) (env : Env) (k : Nat) (c : Checkpoint) (r : PhaseRecord) :
    (v.backstep env k c r).unit.HeatSound mains := by
  have hmoved (w : PocketView) (hw : w.unit.OutputsProven mains) :
      (w.moveTo env.pocket c.slot r).unit.OutputsProven mains := by
    unfold PocketView.moveTo
    split
    · exact hw
    · exact hw.release _
  unfold PocketView.backstep
  refine become ?_ env .paused
  exact of_eq (hmoved (v.onUnit fun u =>
      { u with seq := { u.seq with history := u.seq.history.take (u.seq.history.length - k) } }) h)
    (by simp [PocketUnit.restore, PocketUnit.rewind, PocketUnit.abandonWindow])
    (by simp [PocketUnit.restore, PocketUnit.rewind, PocketUnit.abandonWindow])

end PocketUnit.OutputsProven

/-! ## Turns of a sequencer -/

/-- The mark of an unattended pocket cleared, and the guard with it as before. -/
theorem PocketUnit.HeatSound.leavePause (h : u.HeatSound mains) : u.leavePause.HeatSound mains :=
  h.of_permission rfl rfl rfl rfl id

theorem PocketUnit.HeatSound.retry (h : v.unit.HeatSound mains) (env : Env) : (v.retry env).unit.HeatSound mains := by
  unfold PocketView.retry
  split
  · exact h
  · split
    · exact h
    · refine PocketUnit.OutputsProven.become ?_ env .running
      exact (h.outputsProven.restore _ _).handRunning _ _ _

theorem PocketUnit.HeatSound.resume (h : v.unit.HeatSound mains) (env : Env) : (v.resume env).unit.HeatSound mains := by
  have hleft : (v.onUnit PocketUnit.leavePause).unit.HeatSound mains := h.leavePause
  unfold PocketView.resume
  dsimp only
  split
  · exact hleft.outputsProven.resumeToSafe env
  · split
    · exact PocketUnit.OutputsProven.continueIn (by exact hleft.outputsProven) env .held
    · split
      · exact PocketUnit.OutputsProven.continueIn (by exact hleft.outputsProven) env .running
      · split
        · exact hleft.retry env
        · exact PocketUnit.OutputsProven.advance (v := (v.onUnit PocketUnit.leavePause).onUnit _)
            (hleft.outputsProven.closePhase .abandoned) env

/-- A door opening takes the permission from a pocket that it pauses; no other has any (R157). -/
theorem PocketUnit.HeatSound.openDoor (h : v.unit.HeatSound mains) (env : Env) : (v.openDoor env).unit.HeatSound mains := by
  have hopen : v.unit.seq.run ≠ .running → (v.unit.setDoor false).HeatSound mains := fun hrun =>
    h.of_permission rfl rfl rfl rfl fun hp => by
      rw [PocketUnit.hasPermission_of_not_running hrun] at hp
      exact absurd hp (by simp)
  have hproven : (v.onUnit (PocketUnit.setDoor false)).unit.OutputsProven mains := h.outputsProven
  unfold PocketView.openDoor
  dsimp only
  split <;> rename_i hrun
  · exact hproven.enterPaused env
  · exact hproven.enterPaused env
  · exact hproven.enterPaused env
  · exact PocketUnit.HeatSound.of_permission (hopen (by rw [show v.unit.seq.run = _ from hrun]; simp)) rfl rfl rfl rfl id
  all_goals exact hopen (by rw [show v.unit.seq.run = _ from hrun]; simp)

theorem PocketUnit.HeatSound.retargetSafe (h : u.HeatSound mains) (o : PhaseOutcome) :
    (u.retargetSafe o).HeatSound mains := by
  refine h.of_permission ?_ ?_ ?_ ?_ ?_ <;> simp [PocketUnit.retargetSafe, PocketUnit.hasPermission]

/-- Every turn of a sequencer keeps the guard on its heat. -/
theorem PocketView.SeqTurn.heatSound {w : PocketView} (h : v.SeqTurn env w) (hv : v.unit.HeatSound mains) :
    w.unit.HeatSound mains := by
  have hproven := hv.outputsProven
  cases h with
  | skip => exact PocketUnit.OutputsProven.advance (v := v.onUnit _) (hproven.closePhase .skipped) env
  | advance => exact hproven.advance env
  | abort => exact PocketUnit.OutputsProven.enterSafe (v := v.onUnit _) (hproven.closePhase .aborted) env
  | retarget => exact hv.retargetSafe .aborted
  | pause => exact hproven.enterPaused env
  | openDoor => exact hv.openDoor env
  | resume => exact hv.resume env
  | start i r => exact hproven.startChain env i r
  | backstep k c r => exact hproven.backstep env k c r
  | endPhase o => exact hproven.endPhase env o
  | report f => exact hproven.report env f
  | driveReport => exact PocketUnit.OutputsProven.report (v := v.onUnit _) (by exact hproven) env .drive
  | unattended => exact PocketUnit.OutputsProven.resumeToSafe (v := v.onUnit _) (by exact hproven) env

/-! ## Turns of the heat -/

theorem PocketUnit.HeatSound.loseAirflow (h : u.HeatSound mains) : u.loseAirflow.HeatSound mains := by
  have hpermission : u.loseAirflow.hasPermission = u.hasPermission := rfl
  refine ⟨fun j hj => ?_, fun hn => ?_⟩
  · simp [PocketUnit.loseAirflow, PocketHeat.outputsOff] at hj
  · obtain ⟨hd, ht, he⟩ := h.2 (hpermission ▸ hn)
    refine ⟨hd, ?_, fun j => ?_⟩
    · simp [PocketUnit.loseAirflow, airTimerAt, hd]
    · simpa [PocketUnit.loseAirflow, PocketHeat.outputsOff] using he j

theorem PocketUnit.HeatSound.proveAirflow (h : u.HeatSound mains) : u.proveAirflow.HeatSound mains := by
  refine ⟨fun j hj => ?_, fun hn => ?_⟩
  · obtain ⟨hp, -, hm⟩ := h.1 j hj
    exact ⟨hp, rfl, hm⟩
  · obtain ⟨hd, -, he⟩ := h.2 hn
    exact ⟨hd, rfl, he⟩

theorem PocketUnit.HeatSound.elementsOff (h : u.HeatSound mains) : u.elementsOff.HeatSound false := by
  refine ⟨fun j hj => ?_, fun hn => ?_⟩
  · simp [PocketUnit.elementsOff, PocketHeat.outputsOff] at hj
  · obtain ⟨hd, ht, he⟩ := h.2 hn
    exact ⟨hd, ht, fun j => by simpa [PocketUnit.elementsOff, PocketHeat.outputsOff] using he j⟩

theorem PocketUnit.HeatSound.reconfigured (h : u.HeatSound mains) (changed : Bool) :
    (u.reconfigured changed).HeatSound mains := by
  refine ⟨fun j hj => ?_, fun hn => ?_⟩
  · exact h.1 j (by simpa [PocketUnit.reconfigured, Element.reconfigured] using hj)
  · obtain ⟨hd, ht, he⟩ := h.2 hn
    refine ⟨hd, ht, fun j => ?_⟩
    have hj := (he j).2
    simp only [Fin.getElem_fin] at hj
    simp [PocketUnit.reconfigured, Element.reconfigured, hj]

end

/-! ## A zero-cross -/

theorem elementNo_add_sub (a e : ElementNo) : a + (e - a) = e := by
  revert a e
  decide

/-- Whoever is granted conduction has asked for it (R165, R166). -/
theorem State.requests_of_granted {s : State} {e : ElementNo} (h : e ∈ s.examine.granted) : s.requests e = true := by
  have he : s.supply.pointer + (e - s.supply.pointer) = e := elementNo_add_sub _ _
  exact he ▸ ((s.mem_examine_granted_iff (e - s.supply.pointer)).mp (by rwa [he])).1

theorem elementPocket_elementNo (p : Pocket) (j : Fin 3) : elementPocket (elementNo p j) = p := by
  cases p <;> revert j <;> decide

/-- An element that is on after a zero-cross was granted conduction, which only a pocket with permission and airflow asks for
(R165 to R167). -/
theorem State.zeroCross_output_guarded {s : State} {p : Pocket} {j : Fin 3}
    (h : (s.zeroCross.unit p).heat.elements[j].output = true) :
    (s.unit p).hasPermission = true ∧ (s.unit p).pins.airf = true := by
  have hp := elementPocket_elementNo p j
  rw [State.zeroCross_elements] at h
  have hgranted : elementNo p j ∈ s.examined.examine.granted := by simpa [Element.decided] using h
  obtain ⟨-, -, hpermission, hairf⟩ := (s.examined_requests _).mp (State.requests_of_granted hgranted)
  rw [hp] at hpermission hairf
  exact ⟨hpermission, hairf⟩

/-- A zero-cross leaves the run state, the inputs and the faults, so it leaves heat permission. -/
theorem State.zeroCross_keeps (s : State) (p : Pocket) :
    (s.zeroCross.unit p).seq = (s.unit p).seq ∧ (s.zeroCross.unit p).drum = (s.unit p).drum ∧
      (s.zeroCross.unit p).moist = (s.unit p).moist ∧ (s.zeroCross.unit p).faults = (s.unit p).faults ∧
      (s.zeroCross.unit p).notices = (s.unit p).notices ∧ (s.zeroCross.unit p).noticeMark = (s.unit p).noticeMark ∧
      (s.zeroCross.unit p).pins = (s.unit p).pins := by
  rw [State.zeroCross_unit, State.examined_unit, State.framed_unit]
  split <;> exact ⟨rfl, rfl, rfl, rfl, rfl, rfl, rfl⟩

/-- A pocket without permission gets no demand, and the timer of demand without airflow is not started, in a zero-cross. -/
theorem State.zeroCross_withdrawn {s : State} {p : Pocket} (hpermission : (s.unit p).hasPermission = false)
    (h : (s.unit p).HeatWithdrawn) :
    (s.zeroCross.unit p).heat.demand = 0 ∧ (s.zeroCross.unit p).heat.airTimer = none ∧
      ∀ j : Fin 3, (s.zeroCross.unit p).heat.elements[j].onCount = 0 ∧
        (s.zeroCross.unit p).heat.elements[j].accumulator = 0 := by
  obtain ⟨hdemand, htimer, helements⟩ := h hpermission
  have hnone : s.demandOf p = 0 := State.demandOf_eq_zero (.inl hpermission)
  have hframed : (s.framed.unit p).heat.demand = 0 ∧ (s.framed.unit p).heat.airTimer = none ∧
      ∀ j : Fin 3, (s.framed.unit p).heat.elements[j].onCount = 0 := by
    rw [State.framed_unit, hnone]
    split
    · refine ⟨rfl, rfl, fun j => ?_⟩
      simp only [PocketUnit.beginFrame, Fin.getElem_fin, Vector.getElem_ofFn, Appliance.onCount]
      split <;> simp
    · exact ⟨hdemand, htimer, fun j => (helements j).1⟩
  obtain ⟨hd, ht, hcount⟩ := hframed
  refine ⟨?_, ?_, fun j => ⟨?_, ?_⟩⟩
  · rw [State.zeroCross_unit, State.examined_unit]; exact hd
  · rw [State.zeroCross_unit, State.examined_unit]; exact ht
  · rw [State.zeroCross_onCount, hcount]
  · rw [State.zeroCross_elements]
    simp only [Element.decided, Element.accumulate_accumulator, hcount, State.framed_accumulator, (helements j).2]
    simp

theorem State.zeroCross_mains (s : State) : s.zeroCross.supply.mainsPresent = true := by
  unfold State.zeroCross
  dsimp only
  split <;> rfl

theorem State.zeroCross_heatSound {s : State} {p : Pocket} (h : (s.unit p).HeatWithdrawn) :
    (s.zeroCross.unit p).HeatSound true := by
  obtain ⟨hseq, -, -, hfaults, -, -, hpins⟩ := s.zeroCross_keeps p
  have hpermission : (s.zeroCross.unit p).hasPermission = (s.unit p).hasPermission := by
    simp [PocketUnit.hasPermission, hseq, hfaults, hpins]
  refine ⟨fun j hj => ?_, fun hn => State.zeroCross_withdrawn (hpermission ▸ hn) h⟩
  obtain ⟨hp, ha⟩ := State.zeroCross_output_guarded hj
  exact ⟨hpermission ▸ hp, hpins ▸ ha, rfl⟩

/-! ## The statement -/

/-- Both pockets' heat is guarded. -/
def State.HeatSound (s : State) : Prop := ∀ p : Pocket, (s.unit p).HeatSound s.supply.mainsPresent

theorem State.heatSound_iff (s : State) : s.HeatSound ↔ s.HeatGuarded ∧ s.HeatWithdrawn := by
  constructor
  · exact fun h => ⟨⟨(h .lower).1, (h .upper).1⟩, (h .lower).2, (h .upper).2⟩
  · rintro ⟨⟨hlower, hupper⟩, hlower', hupper'⟩ (_ | _)
    · exact ⟨hlower, hlower'⟩
    · exact ⟨hupper, hupper'⟩

theorem State.Turn.heatSound {s t : State} (h : s.Turn t) (hs : s.HeatSound) : t.HeatSound := by
  have hone {p : Pocket} {f : PocketUnit → PocketUnit}
      (hf : (s.unit p).HeatSound s.supply.mainsPresent → (f (s.unit p)).HeatSound s.supply.mainsPresent) :
      (s.onUnit p f).HeatSound := fun q => by
    rw [State.onUnit_supply]
    exact State.forall_unit_setUnit hs (hf (hs p)) q
  cases h with
  | blocks h =>
    rintro (_ | _)
    · rw [State.unit_lower, h.lower, h.mains]; exact hs .lower
    · rw [State.unit_upper, h.upper, h.mains]; exact hs .upper
  | mild p h => exact hone (f := fun _ => _) h.heatSound
  | drum p cycles h => exact hone (f := fun _ => _) h.motion.heatSound
  | sequencer p env henv hrace h =>
    intro q
    rw [State.setView_supply]
    exact State.forall_unit_setView hs (h.heatSound (hs p)) q
  | leaveHalted p h =>
    exact hone fun hp => hp.of_permission rfl rfl rfl rfl fun hrun => by
      rw [PocketUnit.hasPermission_of_not_running (by simp [h])] at hrun
      exact absurd hrun (by simp)
  | write => exact fun q => hs q
  | anchor p a => exact hone fun hp => hp.of_permission rfl rfl rfl rfl id
  | airflowLost p => exact hone PocketUnit.HeatSound.loseAirflow
  | airflowProven p => exact hone PocketUnit.HeatSound.proveAirflow
  | zeroCross =>
    intro q
    rw [State.zeroCross_mains]
    exact State.zeroCross_heatSound (hs q).2
  | mainsLost =>
    rintro (_ | _)
    · exact (hs .lower).elementsOff
    · exact (hs .upper).elementsOff
  | configure a =>
    rintro (_ | _)
    · exact (hs .lower).reconfigured _
    · exact (hs .upper).reconfigured _
  | reset => rintro (_ | _) <;> exact PocketHeat.powerOn_isOff.heatSound
  | powerOn => rintro (_ | _) <;> exact PocketHeat.powerOn_isOff.heatSound

/-- Settles O56: every step is a chain of turns, and every turn keeps the guard. -/
theorem stepKeepsHeatGuarded : Obligations.StepKeepsHeatGuarded := by
  unfold Obligations.StepKeepsHeatGuarded
  intro s t hguarded hwithdrawn hstep
  rw [← State.heatSound_iff]
  exact (step_turns hstep).keeps State.Turn.heatSound ((State.heatSound_iff s).mpr ⟨hguarded, hwithdrawn⟩)

end Sys2Proof.Machine
end

section
/-! The guard on the drums (2.1, 2.6, 4.2, 4.4, 4.7): what holds of a drum that is driven and of one that rests, and the turns
of the drum, which keep both. -/

namespace Sys2Proof.Machine

/-! ## The guard, by the run state -/

/-- What holds of a drum in RUNNING, SAFE and HELD. -/
structure Drum.Driven (d : Drum) : Prop where
  order   : d.order = .runSegment
  segment : d.segment.isSome = true
  outputs : d.OutputsMatch

/-- What holds of a drum in every other run state. -/
structure Drum.Resting (d : Drum) : Prop where
  order      : d.order = .stop
  unwind     : d.unwind = none
  pendingDir : d.pendingDir = none
  runOutput  : d.runOutput = false
  commanded  : d.commanded = 0
  settled    : d.state ≠ .settle

/-- The guard on a pocket's drum: the door is closed behind a driven drum, and a pocket at rest keeps its segment in PAUSED
alone. -/
def PocketUnit.DrumSound (u : PocketUnit) : Prop :=
  if u.seq.run.drives then u.drum.Driven ∧ u.pins.door = true
  else u.drum.Resting ∧ (u.drum.segment.isSome = true ↔ u.seq.run = .paused)

theorem RunState.engaged_iff_drives (r : RunState) : r.engaged = true ↔ r.drives = true ∨ r = .paused := by
  cases r <;> simp [RunState.engaged, RunState.drives]

/-- The three statements of the guard are what holds of a drum by its pocket's run state. -/
theorem PocketUnit.drumSound_iff (u : PocketUnit) :
    u.DrumSound ↔ u.DriveGuarded ∧ u.OrderMatches ∧ u.drum.OutputsMatch := by
  unfold PocketUnit.DrumSound PocketUnit.DriveGuarded PocketUnit.OrderMatches
  rw [RunState.engaged_iff_drives]
  by_cases hdrives : u.seq.run.drives = true
  · simp only [hdrives, if_true, true_or, iff_true, imp_true_iff, true_and, forall_const]
    constructor
    · rintro ⟨⟨horder, hsegment, houtputs⟩, hdoor⟩
      refine ⟨⟨horder, fun hpending => ?_, hdoor⟩, ⟨horder, hsegment⟩, houtputs⟩
      obtain ⟨dir, hdir⟩ := Option.isSome_iff_exists.mp hpending
      exact (houtputs.2.1 dir hdir).1
    · rintro ⟨⟨horder, -, hdoor⟩, ⟨-, hsegment⟩, houtputs⟩
      exact ⟨⟨horder, hsegment, houtputs⟩, hdoor⟩
  · simp only [hdrives, Bool.false_eq_true, if_false, false_or, iff_false, imp_false, false_and, false_implies, and_true]
    constructor
    · rintro ⟨⟨horder, hunwind, hpending, hrun, hcommanded, hsettled⟩, hsegment⟩
      exact ⟨⟨by simp [horder], by simp [hunwind], by simp [hpending], by simp [hrun]⟩, ⟨by simp [horder], hsegment⟩,
        fun _ => hcommanded, by simp [hpending], fun h => absurd h hsettled⟩
    · rintro ⟨⟨horder, hunwind, hpending, hrun⟩, ⟨-, hsegment⟩, hcommanded, -, hsettle⟩
      have hrun : u.drum.runOutput = false := by simpa using hrun
      refine ⟨⟨?_, by simpa using hunwind, by simpa using hpending, hrun, hcommanded hrun, fun h => ?_⟩, hsegment⟩
      · cases ho : u.drum.order
        · exact absurd ho horder
        · rfl
      · exact hpending (hsettle h).1

section
variable {d e : Drum} {u w : PocketUnit} {cycles : Nat}

/-- The outputs read these fields alone. -/
theorem Drum.OutputsMatch.of_eq (h : d.OutputsMatch) (hstate : e.state = d.state := by rfl)
    (hcommanded : e.commanded = d.commanded := by rfl) (hpending : e.pendingDir = d.pendingDir := by rfl)
    (hdir : e.dir = d.dir := by rfl) (hstop : e.stopTimer.isSome = d.stopTimer.isSome := by rfl)
    (hsettle : e.settleTimer.isSome = d.settleTimer.isSome := by rfl) : e.OutputsMatch := by
  unfold Drum.OutputsMatch Drum.runOutput at *
  rw [hstate, hcommanded, hpending, hdir, hstop, hsettle]
  exact h

theorem Drum.Resting.outputs (h : d.Resting) : d.OutputsMatch :=
  ⟨fun _ => h.commanded, by simp [h.pendingDir], fun hs => absurd hs h.settled⟩

/-- What matches is 0 and waits for nothing in STARTING and TURNING. -/
theorem Drum.OutputsMatch.pending_of_run (h : d.OutputsMatch) (hrun : d.state = .starting ∨ d.state = .turning) :
    d.pendingDir = none := by
  refine Classical.byContradiction fun hp => ?_
  obtain ⟨dir, hdir⟩ := Option.ne_none_iff_exists'.mp hp
  obtain ⟨hs, -⟩ := h.2.1 dir hdir
  rcases hrun with hr | hr <;> simp [hr] at hs

/-- A drum that RUN drives and that waits for nothing matches. -/
theorem Drum.OutputsMatch.of_run (hrun : d.state = .starting ∨ d.state = .turning) (hpending : d.pendingDir = none) :
    d.OutputsMatch := by
  refine ⟨?_, by simp [hpending], ?_⟩
  · rcases hrun with hr | hr <;> simp [Drum.runOutput, hr]
  · rcases hrun with hr | hr <;> simp [hr]

/-- A drum that RUN does not drive, and that waits for nothing, is commanded no speed and is not in SETTLE. -/
theorem Drum.OutputsMatch.of_rest (hcommanded : d.commanded = 0) (hpending : d.pendingDir = none) (hsettle : d.state ≠ .settle) :
    d.OutputsMatch := ⟨fun _ => hcommanded, by simp [hpending], fun h => absurd h hsettle⟩

theorem Drum.OutputsMatch.commanded (h : d.OutputsMatch) (hs : d.state ≠ .starting) (ht : d.state ≠ .turning) :
    d.commanded = 0 := h.1 (by simp [Drum.runOutput, hs, ht])

/-- After a stop command the drum waits for nothing, at speed 0, outside SETTLE (R80). -/
theorem Drum.OutputsMatch.stopCommand_rests (h : d.OutputsMatch) :
    d.stopCommand.pendingDir = none ∧ d.stopCommand.commanded = 0 ∧ d.stopCommand.state ≠ .settle := by
  unfold Drum.stopCommand
  split <;> rename_i hs
  · exact ⟨rfl, rfl, by simp⟩
  · exact ⟨rfl, rfl, by simp⟩
  · exact ⟨rfl, h.commanded (by simp [hs]) (by simp [hs]), by simp [hs]⟩
  · exact ⟨rfl, h.commanded (by simp [hs]) (by simp [hs]), by simp⟩
  · refine ⟨?_, h.commanded (by simp [hs]) (by simp [hs]), by simp [hs]⟩
    refine Classical.byContradiction fun hp => ?_
    obtain ⟨dir, hdir⟩ := Option.ne_none_iff_exists'.mp hp
    simpa [hs] using (h.2.1 dir hdir).1

theorem Drum.OutputsMatch.stopCommand (h : d.OutputsMatch) : d.stopCommand.OutputsMatch :=
  let ⟨hpending, hcommanded, hsettle⟩ := h.stopCommand_rests
  .of_rest hcommanded hpending hsettle

theorem Dir.eq_opposite_of_ne {a b : Dir} (h : a ≠ b) : a = b.opposite := by
  cases a <;> cases b <;> simp_all [Dir.opposite]

/-- A wait for the direction that is not asserted, bounded in STOPPING and SETTLE, matches. -/
theorem Drum.OutputsMatch.of_wait {dir : Dir} (hcommanded : d.commanded = 0) (hpending : d.pendingDir = some dir)
    (hdir : dir ≠ d.dir) (hstate : (d.state = .stopping ∧ d.stopTimer.isSome = true) ∨
      (d.state = .settle ∧ d.settleTimer.isSome = true)) : d.OutputsMatch := by
  refine ⟨fun _ => hcommanded, fun dir' hdir' => ?_, fun hs => ?_⟩
  · obtain rfl : dir = dir' := by simpa [hpending] using hdir'
    refine ⟨?_, Dir.eq_opposite_of_ne hdir, fun hs => ?_⟩
    · exact hstate.imp And.left And.left
    · rcases hstate with h | h
      · exact h.2
      · simp [h.1] at hs
  · rcases hstate with h | h
    · simp [h.1] at hs
    · exact ⟨by simp [hpending], h.2⟩

/-! ## Operations of the drum -/

theorem PocketUnit.beginRun_outputs (cycles : Nat) (dir : Dir) (speed : Nat) (h : u.drum.OutputsMatch) :
    (u.beginRun cycles dir speed).drum.OutputsMatch := by
  unfold PocketUnit.beginRun
  split <;> rename_i hs hd <;> simp only [decide_eq_true_eq, decide_eq_false_iff_not] at hd
  · exact .of_run (.inl (by rw [Drum.testSpeedLoss_eq]; exact hs))
      (by rw [Drum.testSpeedLoss_eq]; exact h.pending_of_run (.inl hs))
  · exact .of_run (.inr (by rw [Drum.testSpeedLoss_eq]; exact hs))
      (by rw [Drum.testSpeedLoss_eq]; exact h.pending_of_run (.inr hs))
  · exact .of_wait (dir := dir) (by simp [Drum.stopCommand, hs, Drum.awaitReversal]) rfl
      (by simpa [Drum.awaitReversal] using hd) (.inl (by simp [Drum.stopCommand, hs, Drum.awaitReversal]))
  · exact .of_wait (dir := dir) (by simp [Drum.stopCommand, hs, Drum.awaitReversal]) rfl
      (by simpa [Drum.awaitReversal] using hd) (.inl (by simp [Drum.stopCommand, hs, Drum.awaitReversal]))
  · exact .of_run (.inl rfl) rfl
  · exact .of_run (.inl rfl) rfl
  · exact .of_run (.inl rfl) rfl
  · exact .of_wait (dir := dir) (h.commanded (by simp [hs]) (by simp [hs])) rfl hd (.inl ⟨hs, rfl⟩)
  · exact .of_wait (dir := dir) (h.commanded (by simp [hs]) (by simp [hs])) rfl hd (.inr ⟨rfl, rfl⟩)
  · exact .of_wait (dir := dir) (h.commanded (by simp [hs]) (by simp [hs])) rfl hd (.inr ⟨hs, (h.2.2 hs).2⟩)

theorem PocketUnit.trigger_outputs (k : TriggerKind) (h : u.drum.OutputsMatch) : (u.trigger k).drum.OutputsMatch := by
  unfold PocketUnit.trigger
  split
  · unfold PocketUnit.insertUnwind PocketUnit.countUnwind
    dsimp only
    split <;> exact Drum.OutputsMatch.stopCommand (h.of_eq)
  · exact h

theorem PocketUnit.twistCheck_outputs (h : u.drum.OutputsMatch) : u.twistCheck.drum.OutputsMatch := by
  unfold PocketUnit.twistCheck
  split
  · exact PocketUnit.trigger_outputs .twist h
  · exact h

theorem PocketUnit.beginEntry_outputs (cycles : Nat) (h : u.drum.OutputsMatch) :
    (u.beginEntry cycles).drum.OutputsMatch := by
  unfold PocketUnit.beginEntry
  split
  · exact h
  · split
    · exact h.stopCommand.of_eq
    · exact PocketUnit.twistCheck_outputs (PocketUnit.beginRun_outputs _ _ _ h)

/-- A drum that holds a segment and matches is driven once its order is RUN SEGMENT and the entry at the cursor begins. -/
theorem PocketUnit.beginEntry_driven (cycles : Nat) (horder : u.drum.order = .runSegment)
    (hsegment : u.drum.segment.isSome = true) (h : u.drum.OutputsMatch) : (u.beginEntry cycles).drum.Driven := by
  obtain ⟨hstep, -, hseg⟩ := PocketUnit.beginEntry_step cycles u
  exact ⟨hstep.order.trans horder, by rw [hseg, hsegment], PocketUnit.beginEntry_outputs cycles h⟩

theorem PocketUnit.nextEntry_driven (cycles : Nat) (h : u.drum.Driven) : (u.nextEntry cycles).drum.Driven :=
  PocketUnit.beginEntry_driven cycles h.order (by simpa [Drum.moveCursor] using h.segment) h.outputs.of_eq

theorem Drum.dropUnwind_outputs (h : d.OutputsMatch) : d.dropUnwind.OutputsMatch := by
  unfold Drum.dropUnwind
  split
  · exact h.of_eq
  · exact h

theorem PocketUnit.endUnwind_driven (cycles : Nat) (h : u.drum.Driven) : (u.endUnwind cycles).drum.Driven := by
  obtain ⟨-, -, horder, -, -, -, -, hsegment, -⟩ := Drum.dropUnwind_keeps u.drum
  exact PocketUnit.nextEntry_driven cycles
    ⟨horder.trans h.order, by rw [hsegment]; exact h.segment, Drum.dropUnwind_outputs h.outputs⟩

theorem PocketUnit.holdDrum_driven (cycles : Nat) (h : u.drum.Driven) : (u.holdDrum cycles).drum.Driven := by
  unfold PocketUnit.holdDrum
  split
  · exact PocketUnit.endUnwind_driven cycles h
  · exact h

theorem PocketUnit.handRunning_driven (cycles : Nat) (first last : EntryNo) (h : u.drum.OutputsMatch) :
    (u.handRunning cycles first last).drum.Driven :=
  PocketUnit.beginEntry_driven cycles rfl rfl h.of_eq

theorem PocketUnit.resumeEntry_driven (cycles : Nat) (hsegment : u.drum.segment.isSome = true) (h : u.drum.OutputsMatch) :
    (u.resumeEntry cycles).drum.Driven := PocketUnit.beginEntry_driven cycles rfl hsegment h.of_eq

theorem Drum.OutputsMatch.suspend_rests (h : d.OutputsMatch) : d.suspend.Resting := by
  obtain ⟨⟨hrun, -, -, horder, hunwind, -, -⟩, -⟩ := d.suspend_stops
  have hstop : ∀ e : Drum, e.OutputsMatch →
      ({ e.stopCommand with order := .stop, entryTime := none } : Drum).pendingDir = none ∧
      ({ e.stopCommand with order := .stop, entryTime := none } : Drum).commanded = 0 ∧
      ({ e.stopCommand with order := .stop, entryTime := none } : Drum).state ≠ .settle := fun _ he => he.stopCommand_rests
  have hfields : d.suspend.pendingDir = none ∧ d.suspend.commanded = 0 ∧ d.suspend.state ≠ .settle := by
    unfold Drum.suspend
    dsimp only
    split
    · exact hstop _ (Drum.dropUnwind_outputs h).of_eq
    · exact hstop _ h
  exact ⟨horder, hunwind, hfields.1, hrun, hfields.2.1, hfields.2.2⟩

theorem Drum.suspend_segment (d : Drum) : d.suspend.segment.isSome = d.segment.isSome := by
  unfold Drum.suspend
  dsimp only
  split
  · rw [(Drum.stopCommand_keeps _).2.2.2.2.2.2.1]
    simp [Drum.moveCursor, (Drum.dropUnwind_keeps d).2.2.2.2.2.2.2.1]
  · rw [(Drum.stopCommand_keeps _).2.2.2.2.2.2.1]

theorem Drum.OutputsMatch.discard_rests (h : d.OutputsMatch) : d.discard.Resting := by
  obtain ⟨⟨hrun, -, -, horder, hunwind, -, -⟩, -, hpending⟩ := d.discard_stops
  obtain ⟨-, hcommanded, hsettle⟩ := (Drum.dropUnwind_outputs h).stopCommand_rests
  exact ⟨horder, hunwind, hpending, hrun, hcommanded, hsettle⟩

theorem Drum.Resting.handStopped (h : d.Resting) (first last : EntryNo) : (d.handStopped first last).Resting :=
  ⟨rfl, rfl, rfl, h.runOutput, h.commanded, h.settled⟩

/-! ## Turns of a driven drum -/

theorem Drum.takeMeasurement_outputs (h : d.OutputsMatch) : d.takeMeasurement.OutputsMatch := by
  unfold Drum.takeMeasurement
  split <;> rename_i hs
  · split
    · exact .of_run (.inr rfl) (h.pending_of_run (.inl hs))
    · exact h
  · rw [Drum.testSpeedLoss_eq]; exact h.of_eq

theorem Drum.takeMeasurement_segment (d : Drum) : d.takeMeasurement.segment = d.segment := by
  unfold Drum.takeMeasurement
  split
  · split <;> rfl
  · rw [Drum.testSpeedLoss_eq]

theorem PocketUnit.trigger_driven (k : TriggerKind) (h : u.drum.Driven) : (u.trigger k).drum.Driven := by
  obtain ⟨hstep, -, hsegment, -⟩ := PocketUnit.trigger_step k u
  exact ⟨hstep.order.trans h.order, by rw [hsegment]; exact h.segment, PocketUnit.trigger_outputs k h.outputs⟩

theorem PocketUnit.twistCheck_driven (h : u.drum.Driven) : u.twistCheck.drum.Driven := by
  unfold PocketUnit.twistCheck
  split
  · exact PocketUnit.trigger_driven .twist h
  · exact h

theorem PocketUnit.beginRun_driven (cycles : Nat) (dir : Dir) (speed : Nat) (h : u.drum.Driven) :
    (u.beginRun cycles dir speed).drum.Driven := by
  obtain ⟨hstep, -, hsegment⟩ := PocketUnit.beginRun_step cycles dir speed u
  exact ⟨hstep.order.trans h.order, by rw [hsegment]; exact h.segment, PocketUnit.beginRun_outputs cycles dir speed h.outputs⟩

theorem PocketUnit.revolution_driven (free cycles : Nat) (h : u.drum.Driven) : (u.revolution free cycles).drum.Driven := by
  have hmonitor : (PocketUnit.monitorRevolution free { u with drum := u.drum.countRevolution }).drum.Driven :=
    ⟨h.order, h.segment, h.outputs.of_eq⟩
  unfold PocketUnit.revolution
  dsimp only
  split
  · exact PocketUnit.trigger_driven _ hmonitor
  · split
    · split
      · exact PocketUnit.endUnwind_driven _ hmonitor
      · exact hmonitor
    · exact PocketUnit.twistCheck_driven hmonitor

theorem PocketUnit.edgeOnDrum_driven (h : u.drum.Driven) : u.edgeOnDrum.drum.Driven := by
  have hmeasured : u.drum.takeMeasurement.Driven :=
    ⟨u.drum.takeMeasurement_keeps.2.trans h.order, by rw [Drum.takeMeasurement_segment]; exact h.segment,
      Drum.takeMeasurement_outputs h.outputs⟩
  have hdisturbed : u.drum.state ≠ .starting → u.drum.state ≠ .turning →
      ({ u.drum with state := .stopping, stopTimer := some 0, settleTimer := none } : Drum).Driven := fun hs ht =>
    ⟨h.order, h.segment, fun _ => h.outputs.commanded hs ht,
      fun dir hdir => ⟨.inl rfl, (h.outputs.2.1 dir hdir).2.1, fun _ => rfl⟩, by simp⟩
  unfold PocketUnit.edgeOnDrum
  split <;> rename_i hs
  · exact hdisturbed (by simp [hs]) (by simp [hs])
  · exact hdisturbed (by simp [hs]) (by simp [hs])
  · dsimp only
    split
    · exact PocketUnit.twistCheck_driven (u := { u with drum := u.drum.takeMeasurement }) hmeasured
    · exact hmeasured
  · exact hmeasured
  · exact h

theorem PocketUnit.unwindAfterStop_driven (cycles : Nat) (h : u.drum.Driven) : (u.unwindAfterStop cycles).drum.Driven := by
  unfold PocketUnit.unwindAfterStop
  split
  · split
    · split
      · exact ⟨h.order, h.segment, h.outputs.of_eq⟩
      · exact PocketUnit.beginRun_driven (u := { u with drum := { u.drum with unwind := some _ } }) _ _ _
          ⟨h.order, h.segment, h.outputs.of_eq⟩
    · exact h
  · exact h

theorem PocketUnit.confirmStop_driven (cycles : Nat) (hs : u.drum.state = .stopping) (h : u.drum.Driven) :
    (u.confirmStop cycles).drum.Driven := by
  have hcommanded := h.outputs.commanded (by simp [hs]) (by simp [hs])
  unfold PocketUnit.confirmStop
  split
  · next dir hdir =>
    have hopposite := (h.outputs.2.1 dir hdir).2.1
    refine ⟨h.order, h.segment, .of_wait (dir := dir) hcommanded hdir ?_ (.inr ⟨rfl, rfl⟩)⟩
    rw [hopposite]
    cases u.drum.dir <;> simp [Dir.opposite]
  · next hnone =>
    exact PocketUnit.unwindAfterStop_driven cycles
      ⟨h.order, h.segment, .of_rest hcommanded hnone (by simp)⟩

/-- Every turn of the drum keeps a driven drum driven. -/
theorem PocketUnit.DrumTurn.driven (h : u.DrumTurn cycles w) (hengaged : u.seq.run.engaged = true) (hu : u.drum.Driven) :
    w.drum.Driven := by
  cases h with
  | edge free =>
    have hpulse (e : EdgeRecord) : ((u.drum.captureEdge free).addPulse e).Driven :=
      ⟨hu.order, hu.segment, hu.outputs.of_eq⟩
    unfold PocketUnit.tachEdge
    dsimp only
    split
    · exact PocketUnit.edgeOnDrum_driven (PocketUnit.revolution_driven
        (u := { u with drum := (u.drum.captureEdge free).addPulse _ }) free cycles (hpulse _))
    · exact PocketUnit.edgeOnDrum_driven (u := { u with drum := (u.drum.captureEdge free).addPulse _ }) (hpulse _)
  | overflow =>
    refine ⟨(Drum.takeMeasurement_keeps _).2.trans hu.order, ?_, Drum.takeMeasurement_outputs hu.outputs.of_eq⟩
    exact (congrArg Option.isSome (Drum.takeMeasurement_segment _)).trans hu.segment
  | unwindBound => exact PocketUnit.endUnwind_driven cycles hu
  | loosenOver =>
    unfold PocketUnit.loosenOver
    split
    · exact PocketUnit.beginRun_driven (u := { u with drum := { u.drum with unwind := some _ } }) _ _ _
        ⟨hu.order, hu.segment, hu.outputs.of_eq⟩
    · exact hu
  | stopConfirmed hs => exact PocketUnit.confirmStop_driven cycles hs hu
  | standstillOver =>
    unfold PocketUnit.standstillOver
    split
    · exact ⟨hu.order, hu.segment, .of_run (.inl rfl) rfl⟩
    · exact hu
  | entryOver => exact PocketUnit.nextEntry_driven cycles hu
  | stopDropped hidle => exact absurd hengaged (by simp [hidle])

/-! ## Turns of a drum at rest -/

theorem Drum.Resting.runEntry?_eq (h : d.Resting) : d.runEntry? = none := by
  simp [Drum.runEntry?, h.order]

/-- A revolution of a drum at rest triggers nothing. -/
theorem PocketUnit.revolution_of_resting (free cycles : Nat) (h : u.drum.Resting) :
    u.revolution free cycles = PocketUnit.monitorRevolution free { u with drum := u.drum.countRevolution } := by
  have hentry : (PocketUnit.monitorRevolution free { u with drum := u.drum.countRevolution }).drum.runEntry? = none := by
    simp [Drum.runEntry?, PocketUnit.monitorRevolution, Drum.countRevolution, h.order]
  have hunwind : (PocketUnit.monitorRevolution free { u with drum := u.drum.countRevolution }).drum.unwind = none := by
    simp [PocketUnit.monitorRevolution, Drum.countRevolution, h.unwind]
  unfold PocketUnit.revolution
  simp [hunwind, PocketUnit.trigger, PocketUnit.twistCheck, PocketUnit.twistFires, hentry]

/-- An edge on a drum at rest leaves it at rest, with its segment. -/
theorem PocketUnit.edgeOnDrum_resting (h : u.drum.Resting) :
    u.edgeOnDrum.drum.Resting ∧ u.edgeOnDrum.drum.segment = u.drum.segment := by
  have hrun := h.runOutput
  unfold PocketUnit.edgeOnDrum
  split <;> rename_i hs
  · exact ⟨⟨h.order, h.unwind, h.pendingDir, rfl, h.commanded, by simp⟩, rfl⟩
  · exact ⟨⟨h.order, h.unwind, h.pendingDir, rfl, h.commanded, by simp⟩, rfl⟩
  · simp [Drum.runOutput, hs] at hrun
  · simp [Drum.runOutput, hs] at hrun
  · exact ⟨h, rfl⟩

theorem PocketUnit.DrumTurn.resting (h : u.DrumTurn cycles w) (hu : u.drum.Resting) :
    w.drum.Resting ∧ w.drum.segment = u.drum.segment := by
  cases h with
  | edge free =>
    have hpulse (e : EdgeRecord) : ((u.drum.captureEdge free).addPulse e).Resting :=
      ⟨hu.order, hu.unwind, hu.pendingDir, hu.runOutput, hu.commanded, hu.settled⟩
    unfold PocketUnit.tachEdge
    dsimp only
    split
    · rw [PocketUnit.revolution_of_resting free cycles (hpulse _)]
      obtain ⟨hrest, hsegment⟩ := PocketUnit.edgeOnDrum_resting
        (u := PocketUnit.monitorRevolution free
          { u with drum := ((u.drum.captureEdge free).addPulse
              { period := u.drum.edgePeriod, counted := u.drum.countedNow }).countRevolution })
        ⟨hu.order, by simp [PocketUnit.monitorRevolution, Drum.countRevolution, Drum.addPulse, Drum.captureEdge, hu.unwind],
          hu.pendingDir, hu.runOutput, hu.commanded, hu.settled⟩
      exact ⟨hrest, hsegment⟩
    · exact PocketUnit.edgeOnDrum_resting (u := { u with drum := (u.drum.captureEdge free).addPulse _ }) (hpulse _)
  | overflow =>
    have hrun := hu.runOutput
    have hsame : u.drum.captureOverflow = { u.drum with tachPassed := true, speed := 0 } := by
      cases hs : u.drum.state <;>
        simp [Drum.runOutput, hs] at hrun <;> simp [Drum.captureOverflow, Drum.takeMeasurement, Drum.testSpeedLoss, hs]
    rw [hsame]
    exact ⟨⟨hu.order, hu.unwind, hu.pendingDir, hu.runOutput, hu.commanded, hu.settled⟩, rfl⟩
  | unwindBound h => simp [hu.unwind] at h
  | loosenOver => simp [PocketUnit.loosenOver, hu.unwind, hu]
  | stopConfirmed hs =>
    have hconfirmed : u.confirmStop cycles =
        { u with drum := { u.drum with state := .stopped, stopTimer := none, settleTimer := some 0 } } := by
      simp [PocketUnit.confirmStop, hu.pendingDir, PocketUnit.unwindAfterStop, hu.unwind]
    rw [hconfirmed]
    exact ⟨⟨hu.order, hu.unwind, hu.pendingDir, rfl, hu.commanded, by simp⟩, rfl⟩
  | standstillOver hs => exact absurd hs hu.settled
  | entryOver h => simp [hu.order] at h
  | stopDropped => exact ⟨⟨hu.order, hu.unwind, hu.pendingDir, hu.runOutput, hu.commanded, hu.settled⟩, rfl⟩

/-- Every turn of the drum keeps the guard. -/
theorem PocketUnit.DrumTurn.drumSound (h : u.DrumTurn cycles w) (hu : u.DrumSound) : w.DrumSound := by
  have hmotion := h.motion
  unfold PocketUnit.DrumSound at *
  rw [hmotion.seq, hmotion.pins]
  split at hu
  · next hdrives =>
    rw [if_pos hdrives]
    exact ⟨h.driven ((RunState.engaged_iff_drives _).mpr (.inl hdrives)) hu.1, hu.2⟩
  · next hdrives =>
    rw [if_neg hdrives]
    obtain ⟨hrest, hsegment⟩ := h.resting hu.1
    exact ⟨hrest, by rw [hsegment]; exact hu.2⟩

end

end Sys2Proof.Machine
end

section
/-! The guard on the drums through the operations of a sequencer, and through every turn (2.1, 2.6, 4.2, 4.4, 4.7). What an
operation needs is that the outputs match, and where it drives the drum, that the door is closed. -/

namespace Sys2Proof.Machine

section
variable {u w : PocketUnit} {v : PocketView} {env : Env}

theorem PocketUnit.DrumSound.of_driven (hrun : u.seq.run.drives = true) (h : u.drum.Driven) (hdoor : u.pins.door = true) :
    u.DrumSound := by
  unfold PocketUnit.DrumSound
  rw [if_pos hrun]
  exact ⟨h, hdoor⟩

theorem PocketUnit.DrumSound.of_resting (hrun : u.seq.run.drives = false) (h : u.drum.Resting)
    (hsegment : u.drum.segment.isSome = true ↔ u.seq.run = .paused) : u.DrumSound := by
  unfold PocketUnit.DrumSound
  rw [if_neg (by simp [hrun])]
  exact ⟨h, hsegment⟩

namespace PocketUnit.DrumSound

theorem driven (h : u.DrumSound) (hrun : u.seq.run.drives = true) : u.drum.Driven ∧ u.pins.door = true := by
  unfold PocketUnit.DrumSound at h
  rwa [if_pos hrun] at h

theorem resting (h : u.DrumSound) (hrun : u.seq.run.drives = false) :
    u.drum.Resting ∧ (u.drum.segment.isSome = true ↔ u.seq.run = .paused) := by
  unfold PocketUnit.DrumSound at h
  rwa [if_neg (by simp [hrun])] at h

theorem outputs (h : u.DrumSound) : u.drum.OutputsMatch := by
  cases hrun : u.seq.run.drives
  · exact (h.resting hrun).1.outputs
  · exact (h.driven hrun).1.outputs

/-- A pocket that is engaged holds a segment. -/
theorem segment (h : u.DrumSound) (hrun : u.seq.run.engaged = true) : u.drum.segment.isSome = true := by
  obtain hdrives | hpaused := (RunState.engaged_iff_drives _).mp hrun
  · exact (h.driven hdrives).1.segment
  · exact (h.resting (by simp [hpaused, RunState.drives])).2.mpr hpaused

/-- The guard depends on the run state, the drum and the door alone. -/
theorem of_eq (h : u.DrumSound) (hrun : w.seq.run = u.seq.run := by rfl) (hdrum : w.drum = u.drum := by rfl)
    (hdoor : w.pins.door = u.pins.door := by rfl) : w.DrumSound := by
  unfold PocketUnit.DrumSound at *
  rwa [hrun, hdrum, hdoor]

theorem latch (h : u.DrumSound) (f : PocketFault) : (u.latch f).DrumSound := h.of_eq (by simp) (by simp) (by simp)

theorem checkHeat (h : u.DrumSound) : u.checkHeat.DrumSound := h.of_eq (by simp) (by simp) (by simp)

theorem closePhase (h : u.DrumSound) (o : PhaseOutcome) : (u.closePhase o).DrumSound := h.of_eq (by simp) (by simp) (by simp)

theorem retargetSafe (h : u.DrumSound) (o : PhaseOutcome) : (u.retargetSafe o).DrumSound :=
  (h.closePhase o).of_eq

end PocketUnit.DrumSound

/-! ## Entries into the run states -/

@[simp] theorem PocketUnit.clearQuals_drum (u : PocketUnit) : u.clearQuals.drum = u.drum := rfl
@[simp] theorem PocketUnit.clearQuals_pins (u : PocketUnit) : u.clearQuals.pins = u.pins := rfl

theorem PocketUnit.completeActivation_driven (cycles : Nat) (i : SlotNo) (h : u.drum.OutputsMatch) :
    (u.completeActivation cycles i).drum.Driven := PocketUnit.handRunning_driven _ _ _ h.of_eq

theorem PocketView.enterSlot_driven (env : Env) (i : SlotNo) (r : PhaseRecord) (h : v.unit.drum.OutputsMatch) :
    (v.enterSlot env i r).unit.drum.Driven :=
  PocketUnit.completeActivation_driven _ _ (by rwa [PocketUnit.takeWork_drum])

/-- A drum whose segment is discarded rests, and holds none. -/
theorem PocketUnit.DrumSound.of_discard {d : Drum} (h : d.OutputsMatch) (hdrum : u.drum = d.discard)
    (hrun : u.seq.run = .idle ∨ u.seq.run = .halted ∨ u.seq.run = .done) : u.DrumSound := by
  refine .of_resting ?_ (hdrum ▸ h.discard_rests) ?_
  · rcases hrun with hrun | hrun | hrun <;> simp [hrun, RunState.drives]
  · rw [hdrum, d.discard_stops.2.1]
    rcases hrun with hrun | hrun | hrun <;> simp [hrun]

theorem PocketView.enterHalted_drumSound (env : Env) (h : v.unit.drum.OutputsMatch) : (v.enterHalted env).unit.DrumSound := by
  obtain ⟨-, hseq, hdrum, -⟩ := v.enterHalted_does env
  exact .of_discard h hdrum (.inr (.inl (by rw [hseq])))

theorem PocketView.enterDone_drumSound (env : Env) (h : v.unit.drum.OutputsMatch) : (v.enterDone env).unit.DrumSound := by
  obtain ⟨-, hseq, hdrum, -⟩ := v.enterDone_does env
  exact .of_discard h hdrum (.inr (.inr (by rw [hseq])))

theorem PocketView.chainHalt_drumSound (env : Env) (h : v.unit.drum.OutputsMatch) : (v.chainHalt env).unit.DrumSound :=
  PocketView.enterHalted_drumSound env (by simpa using h)

theorem PocketView.enterSlot_door (env : Env) (i : SlotNo) (r : PhaseRecord) (v : PocketView) :
    (v.enterSlot env i r).unit.pins = v.unit.pins := (PocketView.enterSlot_does env i r v).2.2.2.2.2.2.1

theorem PocketView.enterSafe_drumSound (env : Env) (h : v.unit.drum.OutputsMatch) (hdoor : v.unit.pins.door = true) :
    (v.enterSafe env).unit.DrumSound := by
  unfold PocketView.enterSafe
  dsimp only
  split
  · exact PocketView.chainHalt_drumSound env h
  · next a _ =>
    obtain ⟨r, -, heq⟩ | ⟨e, -, heq⟩ := (v.onUnit PocketUnit.clearQuals).activate_cases env a <;> rw [heq] <;> dsimp only
    · refine PocketUnit.DrumSound.checkHeat (.of_driven rfl (PocketView.enterSlot_driven env a r ?_) ?_)
      · simpa using h
      · simpa [PocketView.enterSlot_door] using hdoor
    · exact PocketView.chainHalt_drumSound env (by simpa using h)

/-! ## Fault orders and reports -/

namespace PocketUnit.DrumSound

theorem orderSafe (h : v.unit.DrumSound) (env : Env) : (v.orderSafe env).unit.DrumSound := by
  have hsafe (hrun : v.unit.seq.run.drives = true) :
      (PocketView.enterSafe env (v.onUnit (PocketUnit.closePhase .faulted))).unit.DrumSound :=
    PocketView.enterSafe_drumSound env (by simpa using h.outputs) (by simpa using (h.driven hrun).2)
  unfold PocketView.orderSafe
  split <;> rename_i hrun
  · exact hsafe (by rw [hrun]; rfl)
  · exact hsafe (by rw [hrun]; rfl)
  · split
    · exact h.retargetSafe _
    · exact h
  all_goals exact h

theorem orderHalt (h : v.unit.DrumSound) (env : Env) : (v.orderHalt env).unit.DrumSound := by
  unfold PocketView.orderHalt
  split
  · exact PocketView.enterHalted_drumSound env (by simpa using h.outputs)
  · exact h

theorem abandonedByHost (h : v.unit.DrumSound) (env : Env) : (v.abandonedByHost env).unit.DrumSound := (h.orderSafe env).of_eq

theorem respond (h : v.unit.DrumSound) (env : Env) (f : PocketFault) : (v.respond env f).unit.DrumSound := by
  unfold PocketView.respond
  split
  · split
    all_goals first | exact h.orderSafe env | exact h
  · split
    all_goals first | exact h.orderSafe env | exact h
  · split
    all_goals first | exact h.orderSafe env | exact h
  · exact h.orderHalt env
  · exact h
  · split
    all_goals first | exact h.orderSafe env | exact h.abandonedByHost env | exact h

theorem report (h : v.unit.DrumSound) (env : Env) (f : PocketFault) : (v.report env f).unit.DrumSound := by
  obtain ⟨-, heq⟩ | ⟨-, -, -, heq⟩ | ⟨-, -, heq⟩ := v.report_cases env f <;> rw [heq]
  · exact checkHeat (respond (v := v.onUnit (PocketUnit.latch f)) (h.latch f) env f)
  · exact checkHeat (h.abandonedByHost env)
  · exact h.checkHeat

theorem become {st : RunState} (h : PocketUnit.DrumSound { v.unit with seq := { v.unit.seq with run := st } }) (env : Env) :
    (v.become env st).unit.DrumSound := by
  have hst : PocketUnit.DrumSound
      (v.onUnit fun u => PocketUnit.checkHeat { u with seq := { u.seq with run := st } }).unit := h.checkHeat
  unfold PocketView.become PocketView.reportOnEntry
  split
  · exact hst.report env .linkLost
  · exact hst

end PocketUnit.DrumSound

/-! ## The ways between the run states -/

/-- A pocket that drives its drum takes a run state that drives it. -/
theorem PocketView.become_drumSound {st : RunState} (env : Env) (hst : st.drives = true) (h : v.unit.drum.Driven)
    (hdoor : v.unit.pins.door = true) : (v.become env st).unit.DrumSound :=
  PocketUnit.DrumSound.become (.of_driven hst h hdoor) env

theorem PocketView.advance_drumSound (env : Env) (h : v.unit.drum.OutputsMatch) (hdoor : v.unit.pins.door = true) :
    (v.advance env).unit.DrumSound := by
  unfold PocketView.advance
  dsimp only
  split
  · exact PocketView.enterDone_drumSound env h
  · next i _ =>
    obtain ⟨r, -, heq⟩ | ⟨e, -, heq⟩ := (v.onUnit PocketUnit.clearQuals).activate_cases env i <;> rw [heq] <;> dsimp only
    · have hdriven := PocketView.enterSlot_driven (v := (v.onUnit PocketUnit.clearQuals).vacate env i) env i r (by simpa using h)
      have hclosed : (((v.onUnit PocketUnit.clearQuals).vacate env i).enterSlot env i r).unit.pins.door = true := by
        simpa [PocketView.enterSlot_door] using hdoor
      split <;> exact PocketView.become_drumSound env rfl hdriven hclosed
    · split
      · exact PocketView.chainHalt_drumSound env (by simpa using h)
      · exact PocketView.enterSafe_drumSound env (by simpa using h) (by simpa using hdoor)

theorem PocketView.enterHeld_drumSound (env : Env) (h : v.unit.drum.Driven) (hdoor : v.unit.pins.door = true) :
    (v.enterHeld env).unit.DrumSound :=
  PocketView.become_drumSound env rfl (PocketUnit.holdDrum_driven env.reserveCycles h)
    (by simpa [PocketUnit.alignWindow, (PocketUnit.holdDrum_step env.reserveCycles v.unit).1.pins] using hdoor)

theorem PocketView.continueIn_drumSound {st : RunState} (env : Env) (hst : st.drives = true)
    (hsegment : v.unit.drum.segment.isSome = true) (h : v.unit.drum.OutputsMatch) (hdoor : v.unit.pins.door = true) :
    (v.continueIn env st).unit.DrumSound :=
  PocketView.become_drumSound env hst (PocketUnit.resumeEntry_driven env.reserveCycles hsegment h)
    (by simpa [PocketUnit.alignWindow, (PocketUnit.resumeEntry_keeps env.reserveCycles v.unit).2.2.2.1] using hdoor)

theorem PocketView.enterPaused_drumSound (env : Env) (hsegment : v.unit.drum.segment.isSome = true)
    (h : v.unit.drum.OutputsMatch) : (v.enterPaused env).unit.DrumSound :=
  PocketUnit.DrumSound.become (.of_resting rfl h.suspend_rests
    (by simpa [PocketUnit.abandonWindow, Drum.suspend_segment] using hsegment)) env

theorem PocketView.resumeToSafe_drumSound (env : Env) (hsegment : v.unit.drum.segment.isSome = true)
    (h : v.unit.drum.OutputsMatch) (hdoor : v.unit.pins.door = true) : (v.resumeToSafe env).unit.DrumSound := by
  unfold PocketView.resumeToSafe
  split
  · exact PocketView.continueIn_drumSound env rfl hsegment h hdoor
  · exact PocketView.enterSafe_drumSound env h hdoor

theorem PocketUnit.restore_drum_outputs (c : Checkpoint) (r : PhaseRecord) (h : u.drum.OutputsMatch) :
    (u.restore c r).drum.OutputsMatch := by
  rw [PocketUnit.restore, PocketUnit.takeWork_drum]
  exact h.of_eq

theorem PocketUnit.restore_pins (c : Checkpoint) (r : PhaseRecord) (u : PocketUnit) : (u.restore c r).pins = u.pins := by
  rw [PocketUnit.restore, PocketUnit.takeWork_pins]
  rfl

namespace PocketUnit.DrumSound

theorem retry (h : v.unit.DrumSound) (env : Env) (hdoor : v.unit.pins.door = true) : (v.retry env).unit.DrumSound := by
  unfold PocketView.retry
  split
  · exact h
  · split
    · exact h
    · next _ c hc _ r hr =>
      refine PocketView.become_drumSound env rfl (PocketUnit.handRunning_driven _ _ _ ?_) ?_
      · exact PocketUnit.restore_drum_outputs c r h.outputs
      · simpa [PocketUnit.alignWindow, (PocketUnit.handRunning_keeps _ _ _ _).2.2.2.1, PocketUnit.restore_pins] using hdoor

theorem resume (h : v.unit.DrumSound) (env : Env) (hrun : v.unit.seq.run = .paused) (hdoor : v.unit.pins.door = true) :
    (v.resume env).unit.DrumSound := by
  have hsegment := h.segment (by rw [hrun]; rfl)
  unfold PocketView.resume
  dsimp only
  split
  · exact PocketView.resumeToSafe_drumSound env hsegment h.outputs hdoor
  · split
    · exact PocketView.continueIn_drumSound env rfl hsegment h.outputs hdoor
    · split
      · exact PocketView.continueIn_drumSound env rfl hsegment h.outputs hdoor
      · split
        · exact retry (v := v.onUnit PocketUnit.leavePause) (of_eq h) env hdoor
        · exact PocketView.advance_drumSound env (by simpa [PocketUnit.leavePause] using h.outputs)
            (by simpa [PocketUnit.leavePause] using hdoor)

theorem openDoor (h : v.unit.DrumSound) (env : Env) : (v.openDoor env).unit.DrumSound := by
  have hpaused (hrun : v.unit.seq.run.engaged = true) :
      ((v.onUnit (PocketUnit.setDoor false)).enterPaused env).unit.DrumSound :=
    PocketView.enterPaused_drumSound env (h.segment hrun) h.outputs
  have hopen (hrun : v.unit.seq.run.drives = false) : (v.unit.setDoor false).DrumSound :=
    .of_resting hrun (h.resting hrun).1 (h.resting hrun).2
  unfold PocketView.openDoor
  dsimp only
  split <;> rename_i hrun
  · exact hpaused (by rw [show v.unit.seq.run = _ from hrun]; rfl)
  · exact hpaused (by rw [show v.unit.seq.run = _ from hrun]; rfl)
  · exact hpaused (by rw [show v.unit.seq.run = _ from hrun]; rfl)
  · exact of_eq (hopen (by rw [show v.unit.seq.run = _ from hrun]; rfl))
  all_goals exact hopen (by rw [show v.unit.seq.run = _ from hrun]; rfl)

theorem startChain (h : v.unit.DrumSound) (env : Env) (i : SlotNo) (r : PhaseRecord) (hdoor : v.unit.pins.door = true) :
    (v.startChain env i r).unit.DrumSound := by
  unfold PocketView.startChain
  refine PocketView.become_drumSound env rfl ?_ ?_
  · exact PocketView.enterSlot_driven (v := (v.release env.pocket).onUnit PocketUnit.freshRun) env i r
      (Drum.OutputsMatch.of_eq (d := v.unit.drum) h.outputs (by simp [PocketUnit.freshRun]) (by simp [PocketUnit.freshRun])
        (by simp [PocketUnit.freshRun]) (by simp [PocketUnit.freshRun]) (by simp [PocketUnit.freshRun])
        (by simp [PocketUnit.freshRun]))
  · simpa [PocketUnit.freshMarks, PocketView.enterSlot_door, PocketUnit.freshRun] using hdoor

theorem moveTo_drum (p : Pocket) (i : SlotNo) (r : PhaseRecord) (v : PocketView) :
    (v.moveTo p i r).unit.drum = v.unit.drum := by
  unfold PocketView.moveTo
  split <;> simp

/-- A BACKSTEP leaves a drum at rest with the target's segment. -/
theorem backstep (h : v.unit.DrumSound) (env : Env) (k : Nat) (c : Checkpoint) (r : PhaseRecord) :
    (v.backstep env k c r).unit.DrumSound := by
  unfold PocketView.backstep
  refine become (of_resting rfl (Drum.Resting.handStopped (Drum.OutputsMatch.suspend_rests ?_) _ _) ?_) env
  · exact PocketUnit.restore_drum_outputs c r (by simpa [PocketUnit.abandonWindow, moveTo_drum] using h.outputs)
  · exact iff_of_true rfl rfl

/-- A stop command before the report of DRIVE keeps a driven drum driven and a resting one at rest. -/
theorem stopCommand (h : u.DrumSound) : PocketUnit.DrumSound { u with drum := u.drum.stopCommand } := by
  obtain ⟨-, horder, -, -, -, -, hsegment, hunwind, -⟩ := u.drum.stopCommand_keeps
  obtain ⟨hpending, hcommanded, hsettle⟩ := h.outputs.stopCommand_rests
  cases hrun : u.seq.run.drives
  · obtain ⟨hrest, hkept⟩ := h.resting hrun
    exact .of_resting hrun ⟨horder.trans hrest.order, hunwind.trans hrest.unwind, hpending, u.drum.stopCommand_stops,
      hcommanded, hsettle⟩ (by rwa [hsegment])
  · obtain ⟨hdriven, hdoor⟩ := h.driven hrun
    exact .of_driven hrun ⟨horder.trans hdriven.order, by rw [hsegment]; exact hdriven.segment, hdriven.outputs.stopCommand⟩ hdoor

end PocketUnit.DrumSound

/-! ## Turns -/

/-- Every turn of a sequencer keeps the guard on its drum. -/
theorem PocketView.SeqTurn.drumSound {w : PocketView} (h : v.SeqTurn env w) (hv : v.unit.DrumSound) : w.unit.DrumSound := by
  have houtputs := hv.outputs
  have hdriven (hrun : v.unit.seq.run.drives = true) := hv.driven hrun
  have hevaluates : v.unit.seq.run.evaluates = true → v.unit.seq.run.drives = true := by
    cases v.unit.seq.run <;> simp [RunState.evaluates, RunState.drives]
  cases h with
  | skip h =>
    exact PocketView.advance_drumSound env (by simpa using houtputs) (by simpa using (hdriven (hevaluates h)).2)
  | advance h => exact PocketView.advance_drumSound env houtputs (hdriven (by rw [h]; rfl)).2
  | abort h =>
    have hdrives : v.unit.seq.run.drives = true := by rcases h with h | h <;> simp [h, RunState.drives]
    exact PocketView.enterSafe_drumSound env (by simpa using houtputs) (by simpa using (hdriven hdrives).2)
  | retarget => exact hv.retargetSafe .aborted
  | pause h => exact PocketView.enterPaused_drumSound env (hdriven h).1.segment houtputs
  | openDoor => exact hv.openDoor env
  | resume h hdoor => exact hv.resume env h hdoor
  | start i r h hdoor => exact hv.startChain env i r hdoor
  | backstep k c r => exact hv.backstep env k c r
  | endPhase o h =>
    obtain ⟨hdrum, hdoor⟩ := hdriven (hevaluates h)
    obtain ⟨-, -, -, heq⟩ | ⟨-, heq⟩ := v.endPhase_cases env o <;> rw [heq]
    · exact PocketView.enterHeld_drumSound env (by simpa using hdrum) (by simpa using hdoor)
    · exact PocketView.advance_drumSound env (by simpa using houtputs) (by simpa using hdoor)
  | report f => exact hv.report env f
  | driveReport => exact PocketUnit.DrumSound.report (v := v.onUnit fun u => { u with drum := u.drum.stopCommand }) hv.stopCommand env .drive
  | unattended h hdoor =>
    exact PocketView.resumeToSafe_drumSound env (hv.segment (by rw [h]; rfl)) houtputs hdoor

theorem PocketUnit.Mild.drumSound (h : u.Mild w) (hu : u.DrumSound) : w.DrumSound := by
  have houtputs : w.drum.OutputsMatch := hu.outputs.of_eq h.state h.commanded h.pendingDir h.dir h.stopTimer h.settleTimer
  cases hrun : u.seq.run.drives
  · obtain ⟨hrest, hsegment⟩ := hu.resting hrun
    refine .of_resting (by rw [h.run, hrun]) ⟨h.order.trans hrest.order, ?_, h.pendingDir.trans hrest.pendingDir, ?_,
      h.commanded.trans hrest.commanded, h.state ▸ hrest.settled⟩ (by rw [h.segment, h.run]; exact hsegment)
    · simpa [hrest.unwind] using h.unwind
    · rw [Drum.runOutput, h.state]; exact hrest.runOutput
  · obtain ⟨hdriven, hdoor⟩ := hu.driven hrun
    exact .of_driven (by rw [h.run, hrun]) ⟨h.order.trans hdriven.order, by rw [h.segment]; exact hdriven.segment, houtputs⟩
      (h.door hdoor)

/-- RESET_PART leaves the drum of a pocket that is not engaged at rest with no segment. -/
theorem PocketUnit.DrumSound.resetPart (h : u.DrumSound) (hrun : u.seq.run.engaged = false) : u.resetPart.DrumSound := by
  have hdrives : u.seq.run.drives = false := by
    refine (Bool.not_eq_true _).mp fun hd => ?_
    simp [(RunState.engaged_iff_drives u.seq.run).mpr (.inl hd)] at hrun
  obtain ⟨hrest, -⟩ := h.resting hdrives
  refine .of_resting rfl ⟨rfl, rfl, rfl, hrest.runOutput, rfl, hrest.settled⟩ ?_
  simp [PocketUnit.resetPart, Drum.resetPart, Sequencer.resetPart]

/-- A pocket after POWER_ON, whatever its inputs. -/
theorem PocketUnit.DrumSound.powerOn (pins : Pins) : PocketUnit.DrumSound { PocketUnit.powerOn with pins := pins } := by
  refine .of_resting rfl ⟨rfl, rfl, rfl, rfl, rfl, ?_⟩ ?_ <;>
    simp [PocketUnit.powerOn, Drum.powerOn, Sequencer.powerOn]

end

/-! ## The statement -/

/-- Both pockets' drums are guarded. -/
def State.DrumsSound (s : State) : Prop := ∀ p : Pocket, (s.unit p).DrumSound

theorem State.drumsSound_iff (s : State) : s.DrumsSound ↔ s.DriveGuarded ∧ s.OrderMatches ∧ s.OutputsMatch := by
  constructor
  · intro h
    obtain ⟨hguard, horder, houtputs⟩ := (PocketUnit.drumSound_iff _).mp (h .lower)
    obtain ⟨hguard', horder', houtputs'⟩ := (PocketUnit.drumSound_iff _).mp (h .upper)
    exact ⟨⟨hguard, hguard'⟩, ⟨horder, horder'⟩, houtputs, houtputs'⟩
  · rintro ⟨⟨hguard, hguard'⟩, ⟨horder, horder'⟩, houtputs, houtputs'⟩ (_ | _)
    · exact (PocketUnit.drumSound_iff _).mpr ⟨hguard, horder, houtputs⟩
    · exact (PocketUnit.drumSound_iff _).mpr ⟨hguard', horder', houtputs'⟩

theorem State.Turn.drumsSound {s t : State} (h : s.Turn t) (hs : s.DrumsSound) : t.DrumsSound := by
  have hone {p : Pocket} {f : PocketUnit → PocketUnit}
      (hf : (s.unit p).DrumSound → (f (s.unit p)).DrumSound) : (s.onUnit p f).DrumsSound :=
    State.forall_unit_setUnit hs (hf (hs p))
  cases h with
  | blocks h =>
    rintro (_ | _)
    · rw [State.unit_lower, h.lower]; exact hs .lower
    · rw [State.unit_upper, h.upper]; exact hs .upper
  | mild p h => exact hone (f := fun _ => _) h.drumSound
  | drum p cycles h => exact hone (f := fun _ => _) h.drumSound
  | sequencer p env henv hrace h => exact State.forall_unit_setView hs (h.drumSound (hs p))
  | leaveHalted p hrun =>
    refine hone fun hp => ?_
    obtain ⟨hrest, hsegment⟩ := hp.resting (by rw [hrun]; rfl)
    refine .of_resting rfl hrest ?_
    simpa [hrun] using hsegment
  | write => exact fun q => hs q
  | anchor p a => exact hone fun hp => hp.of_eq
  | airflowLost p => exact hone fun hp => hp.of_eq
  | airflowProven p => exact hone fun hp => hp.of_eq
  | zeroCross =>
    intro q
    obtain ⟨hseq, hdrum, -, -, -, -, hpins⟩ := s.zeroCross_keeps q
    exact (hs q).of_eq (by rw [hseq]) hdrum (by rw [hpins])
  | mainsLost =>
    rintro (_ | _)
    · exact (hs .lower).of_eq
    · exact (hs .upper).of_eq
  | configure a =>
    rintro (_ | _)
    · exact (hs .lower).of_eq
    · exact (hs .upper).of_eq
  | reset hl hu =>
    rintro (_ | _)
    · exact (hs .lower).resetPart hl
    · exact (hs .upper).resetPart hu
  | powerOn => rintro (_ | _) <;> exact .powerOn _

/-- Settles O57: every step is a chain of turns, and every turn keeps the guard. -/
theorem stepKeepsDrumsGuarded : Obligations.StepKeepsDrumsGuarded := by
  unfold Obligations.StepKeepsDrumsGuarded
  intro s t hguard horder houtputs _ hstep
  rw [← State.drumsSound_iff]
  exact (step_turns hstep).keeps State.Turn.drumsSound ((State.drumsSound_iff s).mpr ⟨hguard, horder, houtputs⟩)

end Sys2Proof.Machine
end

section
/-! The ranges of the counters and the bounds of the buffers (3.1, 5.2, 8.5, 10.2, 11.2), through every turn. -/

namespace Sys2Proof.Machine

/-- A twist within its range (R97). -/
def TwistBounded (x : Int) : Prop := -999 ≤ x ∧ x ≤ 999

/-- The counters of a pocket within their ranges, the accumulators up to `top`. -/
structure PocketUnit.InRange (top : Nat) (u : PocketUnit) : Prop where
  twist        : TwistBounded u.drum.twist
  checkpoints  : ∀ c ∈ u.seq.history, TwistBounded c.twistStart
  history      : u.seq.history.length ≤ 8
  accumulators : ∀ j : Fin 3, u.heat.elements[j].accumulator ≤ top

theorem twistStep_bounded (dir : Dir) {x : Int} (h : TwistBounded x) : TwistBounded (twistStep dir x) := by
  obtain ⟨hlow, hhigh⟩ := h
  cases dir <;> simp only [TwistBounded, twistStep] <;> omega

theorem twistBounded_zero : TwistBounded 0 := by simp [TwistBounded]

/-! ## Histories -/

/-- An outcome written leaves the twist of every entry. -/
theorem mem_setOutcome {o : Option PhaseOutcome} {h : List Checkpoint} {c : Checkpoint} (hc : c ∈ setOutcome o h) :
    ∃ d ∈ h, c.twistStart = d.twistStart := by
  induction h with
  | nil => simp [setOutcome] at hc
  | cons x xs ih =>
    cases xs with
    | nil =>
      obtain rfl : c = { x with outcome := o } := by simpa [setOutcome] using hc
      exact ⟨x, by simp, rfl⟩
    | cons y ys =>
      rw [setOutcome] at hc
      · obtain rfl | hc := List.mem_cons.mp hc
        · exact ⟨c, by simp, rfl⟩
        · obtain ⟨d, hd, htwist⟩ := ih hc
          exact ⟨d, List.mem_cons_of_mem _ hd, htwist⟩
      · simp

theorem mem_pushHistory {h : List Checkpoint} {c d : Checkpoint} (hd : d ∈ pushHistory h c) : d ∈ h ∨ d = c := by
  unfold pushHistory at hd
  obtain hd | hd := List.mem_append.mp hd
  · split at hd
    · exact .inl (List.mem_of_mem_tail hd)
    · exact .inl hd
  · exact .inr (by simpa using hd)

/-! ## Operations of a sequencer -/

section
variable {top : Nat} {u w : PocketUnit} {v : PocketView} {env : Env}

namespace PocketUnit.InRange

/-- The ranges depend on the twist, the history and the elements alone. -/
theorem of_eq (h : u.InRange top) (htwist : w.drum.twist = u.drum.twist := by rfl)
    (hhistory : w.seq.history = u.seq.history := by rfl) (helements : w.heat.elements = u.heat.elements := by rfl) :
    w.InRange top where
  twist        := htwist ▸ h.twist
  checkpoints  := hhistory ▸ h.checkpoints
  history      := hhistory ▸ h.history
  accumulators := helements ▸ h.accumulators

theorem latch (h : u.InRange top) (f : PocketFault) : (u.latch f).InRange top := h.of_eq (by simp) (by simp) (by simp)

/-- Heat withdrawn leaves every accumulator 0. -/
theorem of_isOff (h : u.InRange top) (hoff : w.heat.IsOff) (htwist : w.drum.twist = u.drum.twist := by rfl)
    (hhistory : w.seq.history = u.seq.history := by rfl) : w.InRange top where
  twist        := htwist ▸ h.twist
  checkpoints  := hhistory ▸ h.checkpoints
  history      := hhistory ▸ h.history
  accumulators := fun j => by
    obtain ⟨-, -, helements⟩ := hoff
    rw [(helements j).2.1]
    exact Nat.zero_le _

theorem checkHeat (h : u.InRange top) : u.checkHeat.InRange top := by
  by_cases hp : u.hasPermission = true
  · rwa [PocketUnit.checkHeat, if_pos hp]
  · exact h.of_isOff (PocketUnit.checkHeat_isOff (by simpa using hp)) (by simp) (by simp)

theorem closePhase (h : u.InRange top) (o : PhaseOutcome) : (u.closePhase o).InRange top where
  twist        := by simpa using h.twist
  checkpoints  := fun c hc => by
    rw [PocketUnit.closePhase_seq] at hc
    dsimp only at hc
    split at hc
    · obtain ⟨d, hd, htwist⟩ := mem_setOutcome hc
      exact htwist ▸ h.checkpoints d hd
    · exact h.checkpoints c hc
  history      := by
    rw [PocketUnit.closePhase_seq]
    dsimp only
    split
    · simpa using h.history
    · exact h.history
  accumulators := by simpa using h.accumulators

theorem retargetSafe (h : u.InRange top) (o : PhaseOutcome) : (u.retargetSafe o).InRange top := (h.closePhase o).of_eq

theorem release (h : v.unit.InRange top) (p : Pocket) : (v.release p).unit.InRange top :=
  h.of_eq (by simp) (by simp) (by simp)

theorem vacate (h : v.unit.InRange top) (env : Env) (i : SlotNo) : (v.vacate env i).unit.InRange top :=
  h.of_eq (by simp) (by simp) (by simp)

/-- An activation pushes the twist of the moment. -/
theorem enterSlot (h : v.unit.InRange top) (env : Env) (i : SlotNo) (r : PhaseRecord) :
    (v.enterSlot env i r).unit.InRange top := by
  obtain ⟨-, -, hseq, -, -, -, -, hheat, -, htwist, -⟩ := PocketView.enterSlot_does env i r v
  constructor
  · rw [htwist]; exact h.twist
  · rw [hseq]
    intro c hc
    obtain hc | rfl := mem_pushHistory hc
    · exact h.checkpoints c hc
    · exact h.twist
  · rw [hseq]; exact pushHistory_length_le _ _ h.history
  · rw [hheat]; exact h.accumulators

theorem enterHalted (h : v.unit.InRange top) (env : Env) : (v.enterHalted env).unit.InRange top := by
  obtain ⟨-, hseq, hdrum, -, -, -, -, hoff⟩ := v.enterHalted_does env
  exact h.of_isOff hoff (by rw [hdrum]; exact v.unit.drum.discard_stops.1.2.2.2.2.2.2) (by rw [hseq])

theorem enterDone (h : v.unit.InRange top) (env : Env) : (v.enterDone env).unit.InRange top := by
  obtain ⟨-, hseq, hdrum, -, -, -, -, hoff⟩ := v.enterDone_does env
  exact h.of_isOff hoff (by rw [hdrum]; exact v.unit.drum.discard_stops.1.2.2.2.2.2.2) (by rw [hseq])

theorem chainHalt (h : v.unit.InRange top) (env : Env) : (v.chainHalt env).unit.InRange top := enterHalted (h.latch .chain) env

theorem becomeSafe (h : u.InRange top) : u.becomeSafe.InRange top := by
  unfold PocketUnit.becomeSafe
  exact checkHeat h.of_eq

theorem enterSafe (h : v.unit.InRange top) (env : Env) : (v.enterSafe env).unit.InRange top := by
  have hclear : (v.onUnit PocketUnit.clearQuals).unit.InRange top := h.of_eq
  unfold PocketView.enterSafe
  dsimp only
  split
  · exact hclear.chainHalt env
  · next a _ =>
    obtain ⟨r, -, heq⟩ | ⟨e, -, heq⟩ := (v.onUnit PocketUnit.clearQuals).activate_cases env a <;> rw [heq] <;> dsimp only
    · have hentered := (hclear.vacate env a).enterSlot env a r
      exact hentered.becomeSafe
    · exact (hclear.vacate env a).chainHalt env

theorem orderSafe (h : v.unit.InRange top) (env : Env) : (v.orderSafe env).unit.InRange top := by
  have hclosed : (v.onUnit (PocketUnit.closePhase .faulted)).unit.InRange top := h.closePhase _
  unfold PocketView.orderSafe
  split
  · exact hclosed.enterSafe env
  · exact hclosed.enterSafe env
  · split
    · exact h.retargetSafe _
    · exact h
  all_goals exact h

theorem orderHalt (h : v.unit.InRange top) (env : Env) : (v.orderHalt env).unit.InRange top := by
  unfold PocketView.orderHalt
  split
  · exact enterHalted (v := v.onUnit (PocketUnit.closePhase .faulted)) (h.closePhase _) env
  · exact h

theorem abandonedByHost (h : v.unit.InRange top) (env : Env) : (v.abandonedByHost env).unit.InRange top := (h.orderSafe env).of_eq

theorem respond (h : v.unit.InRange top) (env : Env) (f : PocketFault) : (v.respond env f).unit.InRange top := by
  unfold PocketView.respond
  split
  · split
    all_goals first | exact h.orderSafe env | exact h
  · split
    all_goals first | exact h.orderSafe env | exact h
  · split
    all_goals first | exact h.orderSafe env | exact h
  · exact h.orderHalt env
  · exact h
  · split
    all_goals first | exact h.orderSafe env | exact h.abandonedByHost env | exact h

theorem report (h : v.unit.InRange top) (env : Env) (f : PocketFault) : (v.report env f).unit.InRange top := by
  obtain ⟨-, heq⟩ | ⟨-, -, -, heq⟩ | ⟨-, -, heq⟩ := v.report_cases env f <;> rw [heq]
  · exact checkHeat (respond (v := v.onUnit (PocketUnit.latch f)) (h.latch f) env f)
  · exact checkHeat (h.abandonedByHost env)
  · exact h.checkHeat

theorem become (h : v.unit.InRange top) (env : Env) (st : RunState) : (v.become env st).unit.InRange top := by
  have hst : PocketUnit.InRange top
      (v.onUnit fun u => PocketUnit.checkHeat { u with seq := { u.seq with run := st } }).unit := checkHeat h.of_eq
  unfold PocketView.become PocketView.reportOnEntry
  split
  · exact hst.report env .linkLost
  · exact hst

theorem advance (h : v.unit.InRange top) (env : Env) : (v.advance env).unit.InRange top := by
  have hclear : (v.onUnit PocketUnit.clearQuals).unit.InRange top := h.of_eq
  unfold PocketView.advance
  dsimp only
  split
  · exact hclear.enterDone env
  · next i _ =>
    have hvacated := hclear.vacate env i
    obtain ⟨r, -, heq⟩ | ⟨e, -, heq⟩ := (v.onUnit PocketUnit.clearQuals).activate_cases env i <;> rw [heq] <;> dsimp only
    · split <;> exact (hvacated.enterSlot env i r).become env _
    · split
      · exact hvacated.chainHalt env
      · exact enterSafe (v := (PocketView.vacate env i _).onUnit (PocketUnit.latch .chain)) (hvacated.latch .chain) env

theorem endPhase (h : v.unit.InRange top) (env : Env) (o : PhaseOutcome) : (v.endPhase env o).unit.InRange top := by
  obtain ⟨-, -, -, heq⟩ | ⟨-, heq⟩ := v.endPhase_cases env o <;> rw [heq]
  · refine become ?_ env .held
    have hstep := (PocketUnit.holdDrum_step env.reserveCycles (v.unit.closePhase o)).1
    have helements := congrArg PocketHeat.elements hstep.heat
    exact of_eq (h.closePhase o) hstep.twist (congrArg Sequencer.history hstep.seq) helements
  · exact advance (v := v.onUnit (PocketUnit.closePhase o)) (h.closePhase o) env

theorem enterPaused (h : v.unit.InRange top) (env : Env) : (v.enterPaused env).unit.InRange top :=
  become (of_eq h v.unit.drum.suspend_stops.1.2.2.2.2.2.2) env .paused

theorem continueIn (h : v.unit.InRange top) (env : Env) (st : RunState) : (v.continueIn env st).unit.InRange top := by
  obtain ⟨hseq, -, -, -, hheat, -, -, htwist, -⟩ := PocketUnit.resumeEntry_keeps env.reserveCycles v.unit
  have helements := congrArg PocketHeat.elements hheat
  exact become (of_eq h htwist (congrArg Sequencer.history hseq) helements) env st

theorem resumeToSafe (h : v.unit.InRange top) (env : Env) : (v.resumeToSafe env).unit.InRange top := by
  unfold PocketView.resumeToSafe
  split
  · exact h.continueIn env .safe
  · exact h.enterSafe env

/-- A restoration takes the twist of a checkpoint of the history. -/
theorem restore (h : u.InRange top) {c : Checkpoint} (hc : TwistBounded c.twistStart) (r : PhaseRecord) :
    (u.restore c r).InRange top where
  twist        := by simpa [PocketUnit.restore, PocketUnit.rewind] using hc
  checkpoints  := fun d hd => by
    obtain ⟨e, he, htwist⟩ := mem_setOutcome (h := u.seq.history) (by simpa [PocketUnit.restore, PocketUnit.rewind] using hd)
    exact htwist ▸ h.checkpoints e he
  history      := by simpa [PocketUnit.restore, PocketUnit.rewind] using h.history
  accumulators := by simpa [PocketUnit.restore, PocketUnit.rewind] using h.accumulators

theorem retry (h : v.unit.InRange top) (env : Env) : (v.retry env).unit.InRange top := by
  unfold PocketView.retry
  split
  · exact h
  · split
    · exact h
    · next _ c hc _ r hr =>
      have hrestored := h.restore (h.checkpoints c (List.mem_of_getLast? hc)) r
      obtain ⟨hseq, -, -, -, hheat, -, -, htwist, -⟩ := PocketUnit.handRunning_keeps env.reserveCycles
        (v.unit.restore c r).seq.work.segFirst (v.unit.restore c r).seq.work.segLast (v.unit.restore c r)
      have helements := congrArg PocketHeat.elements hheat
      exact become (of_eq hrestored htwist (congrArg Sequencer.history hseq) helements) env .running

theorem resume (h : v.unit.InRange top) (env : Env) : (v.resume env).unit.InRange top := by
  have hleft : (v.onUnit PocketUnit.leavePause).unit.InRange top := h.of_eq
  unfold PocketView.resume
  dsimp only
  split
  · exact hleft.resumeToSafe env
  · split
    · exact continueIn (of_eq hleft) env .held
    · split
      · exact continueIn (of_eq hleft) env .running
      · split
        · exact hleft.retry env
        · exact advance (v := (v.onUnit PocketUnit.leavePause).onUnit _) (hleft.closePhase .abandoned) env

theorem openDoor (h : v.unit.InRange top) (env : Env) : (v.openDoor env).unit.InRange top := by
  have hopen : (v.onUnit (PocketUnit.setDoor false)).unit.InRange top := h.of_eq
  unfold PocketView.openDoor
  dsimp only
  split
  · exact hopen.enterPaused env
  · exact hopen.enterPaused env
  · exact hopen.enterPaused env
  · exact hopen.of_eq
  all_goals exact hopen

theorem startChain (h : v.unit.InRange top) (env : Env) (i : SlotNo) (r : PhaseRecord) :
    (v.startChain env i r).unit.InRange top := by
  have hfresh : ((v.release env.pocket).onUnit PocketUnit.freshRun).unit.InRange top :=
    ⟨twistBounded_zero, by simp [PocketUnit.freshRun], by simp [PocketUnit.freshRun],
      by simpa [PocketUnit.freshRun] using h.accumulators⟩
  exact become (of_eq (hfresh.enterSlot env i r)) env .running

theorem moveTo (h : v.unit.InRange top) (p : Pocket) (i : SlotNo) (r : PhaseRecord) : (v.moveTo p i r).unit.InRange top := by
  unfold PocketView.moveTo
  split
  · exact h
  · exact h.release p

theorem backstep (h : v.unit.InRange top) (env : Env) (k : Nat) {c : Checkpoint} (hc : TwistBounded c.twistStart)
    (r : PhaseRecord) : (v.backstep env k c r).unit.InRange top := by
  have hcut : (v.onUnit fun u =>
      { u with seq := { u.seq with history := u.seq.history.take (u.seq.history.length - k) } }).unit.InRange top :=
    ⟨h.twist, fun d hd => h.checkpoints d (List.mem_of_mem_take hd), Nat.le_trans (List.length_take_le' _ _) h.history, h.accumulators⟩
  have hmoved := hcut.moveTo env.pocket c.slot r
  have hrestored := (of_eq (w := PocketUnit.abandonWindow _) hmoved).restore hc r
  exact become (of_eq hrestored (Drum.suspend_stops _).1.2.2.2.2.2.2) env .paused

end PocketUnit.InRange

/-- Every turn of a sequencer keeps the ranges of its pocket. -/
theorem PocketView.SeqTurn.inRange {w : PocketView} (h : v.SeqTurn env w) (hv : v.unit.InRange top) :
    w.unit.InRange top := by
  cases h with
  | skip => exact PocketUnit.InRange.advance (v := v.onUnit _) (hv.closePhase .skipped) env
  | advance => exact hv.advance env
  | abort => exact PocketUnit.InRange.enterSafe (v := v.onUnit _) (hv.closePhase .aborted) env
  | retarget => exact hv.retargetSafe .aborted
  | pause => exact hv.enterPaused env
  | openDoor => exact hv.openDoor env
  | resume => exact hv.resume env
  | start i r => exact hv.startChain env i r
  | backstep k c r h hc =>
    exact hv.backstep env k (hv.checkpoints c (List.mem_reverse.mp (List.mem_of_getElem? hc))) r
  | endPhase o => exact hv.endPhase env o
  | report f => exact hv.report env f
  | driveReport =>
    exact PocketUnit.InRange.report (v := v.onUnit fun u => { u with drum := u.drum.stopCommand })
      (hv.of_eq v.unit.drum.stopCommand_keeps.2.2.1) env .drive
  | unattended => exact PocketUnit.InRange.resumeToSafe (v := v.onUnit PocketUnit.leavePause) hv.of_eq env

/-! ## Turns of the drum -/

theorem Drum.takeMeasurement_twist (d : Drum) : d.takeMeasurement.twist = d.twist := by
  unfold Drum.takeMeasurement
  split
  · split <;> rfl
  · rw [Drum.testSpeedLoss_eq]

theorem PocketUnit.edgeOnDrum_twist (u : PocketUnit) : u.edgeOnDrum.drum.twist = u.drum.twist := by
  unfold PocketUnit.edgeOnDrum
  split
  · rfl
  · rfl
  · dsimp only
    split
    · exact (PocketUnit.twistCheck_step _).1.twist.trans (Drum.takeMeasurement_twist _)
    · exact Drum.takeMeasurement_twist _
  · exact Drum.takeMeasurement_twist _
  · rfl

/-- A completed revolution moves the twist by one step (R97). -/
theorem PocketUnit.revolution_twist (free cycles : Nat) (u : PocketUnit) :
    (u.revolution free cycles).drum.twist = twistStep u.drum.dir u.drum.twist := by
  unfold PocketUnit.revolution
  dsimp only
  split
  · exact (PocketUnit.trigger_step _ _).1.twist
  · split
    · split
      · exact (PocketUnit.endUnwind_step _ _).1.twist
      · rfl
    · exact (PocketUnit.twistCheck_step _).1.twist

theorem PocketUnit.unwindAfterStop_twist (cycles : Nat) (u : PocketUnit) :
    (u.unwindAfterStop cycles).drum.twist = u.drum.twist := by
  unfold PocketUnit.unwindAfterStop
  split
  · split
    · split
      · rfl
      · exact (PocketUnit.beginRun_step _ _ _ _).1.twist
    · rfl
  · rfl

/-- A turn of the drum leaves the twist or moves it by one step. -/
theorem PocketUnit.DrumTurn.twist {cycles : Nat} (h : u.DrumTurn cycles w) :
    w.drum.twist = u.drum.twist ∨ w.drum.twist = twistStep u.drum.dir u.drum.twist := by
  cases h with
  | edge free =>
    unfold PocketUnit.tachEdge
    dsimp only
    split
    · exact .inr ((PocketUnit.edgeOnDrum_twist _).trans (PocketUnit.revolution_twist _ _ _))
    · exact .inl (PocketUnit.edgeOnDrum_twist _)
  | overflow => exact .inl (Drum.takeMeasurement_twist _)
  | unwindBound => exact .inl (PocketUnit.endUnwind_step _ _).1.twist
  | loosenOver =>
    refine .inl ?_
    unfold PocketUnit.loosenOver
    split
    · exact (PocketUnit.beginRun_step _ _ _ _).1.twist
    · rfl
  | stopConfirmed =>
    refine .inl ?_
    unfold PocketUnit.confirmStop
    split
    · rfl
    · exact PocketUnit.unwindAfterStop_twist _ _
  | standstillOver =>
    refine .inl ?_
    unfold PocketUnit.standstillOver
    split <;> rfl
  | entryOver => exact .inl (PocketUnit.nextEntry_step _ _).1.twist
  | stopDropped => exact .inl rfl

theorem PocketUnit.DrumTurn.inRange {cycles : Nat} (h : u.DrumTurn cycles w) (hu : u.InRange top) : w.InRange top where
  twist        := by
    obtain heq | heq := h.twist <;> rw [heq]
    · exact hu.twist
    · exact twistStep_bounded _ hu.twist
  checkpoints  := by rw [h.motion.seq]; exact hu.checkpoints
  history      := by rw [h.motion.seq]; exact hu.history
  accumulators := by rw [h.motion.heat]; exact hu.accumulators

theorem PocketUnit.InRange.outputsOff (h : u.InRange top) (hw : w.heat.elements = u.heat.outputsOff.elements)
    (htwist : w.drum.twist = u.drum.twist := by rfl) (hhistory : w.seq.history = u.seq.history := by rfl) :
    w.InRange top where
  twist        := htwist ▸ h.twist
  checkpoints  := hhistory ▸ h.checkpoints
  history      := hhistory ▸ h.history
  accumulators := fun j => by simpa [hw, PocketHeat.outputsOff] using h.accumulators j

/-- A CONFIGURE that changes F sets the accumulators to 0 (R152). -/
theorem PocketUnit.InRange.reconfigured {top' : Nat} {changed : Bool} (h : u.InRange top) (hF : changed = false → top' = top) :
    (u.reconfigured changed).InRange top' where
  twist        := h.twist
  checkpoints  := h.checkpoints
  history      := h.history
  accumulators := fun j => by
    cases changed
    · simpa [PocketUnit.reconfigured, Element.reconfigured, hF] using h.accumulators j
    · simp [PocketUnit.reconfigured, Element.reconfigured]

theorem PocketHeat.powerOn_accumulators (top : Nat) (j : Fin 3) : PocketHeat.powerOn.elements[j].accumulator ≤ top := by
  obtain ⟨-, haccumulator, -⟩ := PocketHeat.powerOn_isOff.2.2 j
  rw [haccumulator]
  exact Nat.zero_le top

theorem PocketUnit.powerOn_inRange (top : Nat) (pins : Pins) :
    PocketUnit.InRange top { PocketUnit.powerOn with pins := pins } where
  twist        := twistBounded_zero
  checkpoints  := by simp [PocketUnit.powerOn, Sequencer.powerOn]
  history      := by simp [PocketUnit.powerOn, Sequencer.powerOn]
  accumulators := PocketHeat.powerOn_accumulators top

theorem PocketUnit.resetPart_inRange (top : Nat) (u : PocketUnit) : u.resetPart.InRange top where
  twist        := twistBounded_zero
  checkpoints  := by simp [PocketUnit.resetPart, Sequencer.resetPart]
  history      := by simp [PocketUnit.resetPart, Sequencer.resetPart]
  accumulators := PocketHeat.powerOn_accumulators top

end

/-! ## A zero-cross -/

/-- The additions of the frame saturate at 2F - 1, and a grant takes from the accumulator (R164, R166). -/
theorem State.zeroCross_accumulator_le {s : State} {p : Pocket} {j : Fin 3}
    (h : (s.unit p).heat.elements[j].accumulator ≤ 2 * s.supply.config.frame - 1) :
    (s.zeroCross.unit p).heat.elements[j].accumulator ≤ 2 * s.supply.config.frame - 1 := by
  have hadded : ((s.framed.unit p).heat.elements[j].accumulate s.supply.config.frame).accumulator ≤
      2 * s.supply.config.frame - 1 := by
    rw [Element.accumulate_accumulator, State.framed_accumulator]
    split
    · exact Nat.min_le_left _ _
    · exact h
  rw [State.zeroCross_elements, Element.decided]
  dsimp only
  split <;> omega

theorem State.zeroCross_blocks (s : State) :
    s.zeroCross.link = s.link ∧ s.zeroCross.trend = s.trend ∧ s.zeroCross.supply.config = s.supply.config := by
  unfold State.zeroCross
  dsimp only
  split <;> exact ⟨rfl, rfl, rfl⟩

theorem State.zeroCross_framePos_lt {s : State} (h : 1 ≤ s.supply.config.frame) :
    s.zeroCross.supply.framePos < s.zeroCross.supply.config.frame := by
  have hnext (x : Supply) (hx : 1 ≤ x.config.frame) : x.nextPosition < x.config.frame := by
    unfold Supply.nextPosition
    split <;> omega
  have hconfig := (s.zeroCross_blocks).2.2
  unfold State.zeroCross at hconfig ⊢
  exact hnext _ (by rw [show _ = s.supply.config from hconfig]; exact h)

/-! ## The statement -/

/-- The counters of both pockets, the frame position and the buffers within their ranges. -/
structure State.RangesSound (s : State) : Prop where
  units    : ∀ p : Pocket, (s.unit p).InRange (2 * s.supply.config.frame - 1)
  frame    : 10 ≤ s.supply.config.frame
  framePos : s.supply.framePos < s.supply.config.frame
  inbound  : s.link.inbound.length ≤ 2
  trend    : s.trend.Bounded

theorem State.rangesSound_iff (s : State) :
    s.RangesSound ↔ s.TwistInRange ∧ s.AccumulatorsInRange ∧ s.BuffersBounded ∧ 1 ≤ s.trend.threshold := by
  constructor
  · rintro ⟨hunits, hframe, hpos, hinbound, hbankA, hbankB, hthreshold⟩
    obtain ⟨htwist, hcheckpoints, hhistory, -⟩ := hunits .lower
    obtain ⟨htwist', hcheckpoints', hhistory', -⟩ := hunits .upper
    exact ⟨⟨⟨htwist, hcheckpoints⟩, htwist', hcheckpoints'⟩, ⟨hframe, hpos, fun p => (hunits p).accumulators⟩,
      ⟨hhistory, hhistory', hinbound, hbankA, hbankB⟩, hthreshold⟩
  · rintro ⟨⟨⟨htwist, hcheckpoints⟩, htwist', hcheckpoints'⟩, ⟨hframe, hpos, haccumulators⟩,
      ⟨hhistory, hhistory', hinbound, hbankA, hbankB⟩, hthreshold⟩
    refine ⟨?_, hframe, hpos, hinbound, hbankA, hbankB, hthreshold⟩
    rintro (_ | _)
    · exact ⟨htwist, hcheckpoints, hhistory, haccumulators .lower⟩
    · exact ⟨htwist', hcheckpoints', hhistory', haccumulators .upper⟩

theorem State.Turn.rangesSound {s t : State} (h : s.Turn t) (hs : s.RangesSound) : t.RangesSound := by
  have hone {p : Pocket} {f : PocketUnit → PocketUnit}
      (hf : (s.unit p).InRange (2 * s.supply.config.frame - 1) →
        (f (s.unit p)).InRange (2 * s.supply.config.frame - 1)) : (s.onUnit p f).RangesSound := by
    refine ⟨fun q => ?_, by simpa using hs.frame, by simpa using hs.framePos, by simpa using hs.inbound, by simpa using hs.trend⟩
    rw [State.onUnit_supply]
    exact State.forall_unit_setUnit hs.units (hf (hs.units p)) q
  cases h with
  | blocks h =>
    refine ⟨?_, by rw [h.config]; exact hs.frame, by rw [h.config, h.framePos]; exact hs.framePos, h.inbound hs.inbound,
      h.trend hs.trend⟩
    rw [h.config]
    rintro (_ | _)
    · rw [State.unit_lower, h.lower]; exact hs.units .lower
    · rw [State.unit_upper, h.upper]; exact hs.units .upper
  | mild p h => exact hone (f := fun _ => _) fun hp => hp.of_eq h.twist h.history h.elements
  | drum p cycles h => exact hone (f := fun _ => _) h.inRange
  | sequencer p env henv hrace h =>
    refine ⟨fun q => ?_, by simpa using hs.frame, by simpa using hs.framePos, by simpa using hs.inbound, by simpa using hs.trend⟩
    rw [State.setView_supply]
    exact State.forall_unit_setView hs.units (h.inRange (hs.units p)) q
  | leaveHalted p => exact hone fun hp => hp.of_eq
  | write => exact ⟨fun q => hs.units q, hs.frame, hs.framePos, hs.inbound, hs.trend⟩
  | anchor p a => exact hone fun hp => hp.of_eq
  | airflowLost p => exact hone fun hp => hp.outputsOff rfl
  | airflowProven p => exact hone fun hp => hp.of_eq
  | zeroCross =>
    obtain ⟨hlink, htrend, hconfig⟩ := s.zeroCross_blocks
    have hframe := hs.frame
    refine ⟨fun q => ?_, hconfig ▸ hframe, State.zeroCross_framePos_lt (by omega), hlink ▸ hs.inbound, htrend ▸ hs.trend⟩
    obtain ⟨hseq, hdrum, -⟩ := s.zeroCross_keeps q
    rw [hconfig]
    exact ⟨hdrum ▸ (hs.units q).twist, hseq ▸ (hs.units q).checkpoints, hseq ▸ (hs.units q).history,
      fun j => State.zeroCross_accumulator_le ((hs.units q).accumulators j)⟩
  | mainsLost =>
    refine ⟨?_, hs.frame, hs.framePos, hs.inbound, hs.trend⟩
    rintro (_ | _)
    · exact (hs.units .lower).outputsOff rfl
    · exact (hs.units .upper).outputsOff rfl
  | configure a hframe =>
    have hF : decide (a.frame ≠ s.supply.config.frame) = false → 2 * a.frame - 1 = 2 * s.supply.config.frame - 1 := by
      intro h
      rw [Decidable.not_not.mp (of_decide_eq_false h)]
    refine ⟨?_, hframe, Nat.lt_of_lt_of_le (Nat.zero_lt_succ 9) hframe, hs.inbound, hs.trend⟩
    rintro (_ | _)
    · exact (hs.units .lower).reconfigured hF
    · exact (hs.units .upper).reconfigured hF
  | reset =>
    obtain ⟨-, -, hthreshold⟩ := hs.trend
    refine ⟨?_, hs.frame, hs.framePos, hs.inbound, by simp [State.resetBlocks, TrendBuffer.resetPart],
      by simp [State.resetBlocks, TrendBuffer.resetPart], hthreshold⟩
    rintro (_ | _) <;> exact PocketUnit.resetPart_inRange _ _
  | powerOn =>
    have hframe : 10 ≤ State.reset.supply.config.frame ∧ State.reset.supply.framePos < State.reset.supply.config.frame := by
      decide
    refine ⟨?_, hframe.1, hframe.2, Nat.zero_le 2, Nat.zero_le 64, Nat.zero_le 64,
      (by decide : 1 ≤ State.reset.trend.threshold)⟩
    rintro (_ | _) <;> exact PocketUnit.powerOn_inRange _ _

/-- Settles O59: every step is a chain of turns, and every turn keeps the ranges. -/
theorem stepKeepsRanges : Obligations.StepKeepsRanges := by
  unfold Obligations.StepKeepsRanges
  intro s t htwist haccumulators hbuffers hthreshold hstep
  rw [← State.rangesSound_iff]
  exact (step_turns hstep).keeps State.Turn.rangesSound
    ((State.rangesSound_iff s).mpr ⟨htwist, haccumulators, hbuffers, hthreshold⟩)

end Sys2Proof.Machine
end

section
/-! The marks of phases do not bind the unattended mark to the resume target: the state that refutes O58. -/

namespace Sys2Proof.Machine

/-- A timed phase of 600 s at the end of its chain. -/
def lastPhase : PhaseRecord where
  kind     := .timed
  next     := none
  maxTime  := 600
  segFirst := 0
  segLast  := 0
  quals    := Quals.none
  heat     := none
  dry      := none
  cool     := none
  tangle   := none

/-- LOWER paused in its open phase of slot 0 with resume target RUNNING, without an anchor, and marked unattended, its
door-closed count complete: a state that `PhasesMatch` admits. -/
def unattendedRun : State :=
  { State.reset with
    pool := (Vector.replicate 48 Slot.empty).set 0 (.active .lower lastPhase)
    lower := { PocketUnit.powerOn with
      seq := { Sequencer.powerOn with
        run := .paused, work := workFrom 0 lastPhase Profile.powerOn false, resumeTarget := .running, unattended := true,
        doorClosedFor := 10000000,
        history := [{ slot := 0, ordinal := 1, eStart := none, twistStart := 0, outcome := none }], activations := 1 } }
    pending := [.unattendedResume .lower] }

/-- The state that its step gives. -/
def unattendedRunHalted : State :=
  { unattendedRun with pending := [] }.onEvent .lower fun env v => (v.onUnit PocketUnit.leavePause).resumeToSafe env

theorem unattendedRun_slotsOwned : unattendedRun.SlotsOwned := by
  have hlower : ∀ i : SlotNo, unattendedRun.pool[i].activeIn .lower = true ↔ unattendedRun.lower.seq.work.active = some i := by
    decide +kernel
  have hupper : ∀ i : SlotNo, unattendedRun.pool[i].activeIn .upper = true ↔ unattendedRun.upper.seq.work.active = some i := by
    decide +kernel
  rintro (_ | _)
  · exact hlower
  · exact hupper

theorem unattendedRun_ownership : unattendedRun.Ownership :=
  ⟨unattendedRun_slotsOwned, ⟨_, rfl, rfl⟩, rfl⟩

theorem unattendedRun_phasesMatch : unattendedRun.PhasesMatch := ⟨⟨rfl, rfl, rfl⟩, rfl, rfl⟩

theorem unattendedRun_anchorsApart : unattendedRun.AnchorsApart := by
  rintro i ⟨hlower, -⟩
  have hnone : unattendedRun.lower.seq.anchor = none := rfl
  simp [hnone] at hlower

/-- The resume of R46 goes to the safe chain, halts for want of an anchor, and leaves the phase open. -/
theorem step_unattendedRun :
    step unattendedRun = .next unattendedRunHalted ∧
      unattendedRunHalted.lower.seq.run = .halted ∧
      unattendedRunHalted.lower.seq.phaseOpen = true :=
  ⟨rfl, rfl, rfl⟩

/-- Refutes O58: an open phase paused with resume target RUNNING and the unattended mark meets the premises, and the
unattended resume halts the pocket with the phase still open. -/
theorem not_stepKeepsSlotsAndPhases : ¬ Obligations.StepKeepsSlotsAndPhases := by
  unfold Obligations.StepKeepsSlotsAndPhases
  intro h
  obtain ⟨hstep, hrun, hopen⟩ := step_unattendedRun
  obtain ⟨-, ⟨⟨-, hmatches⟩, -⟩, -⟩ :=
    h _ _ unattendedRun_ownership unattendedRun_phasesMatch unattendedRun_anchorsApart hstep
  rw [Sequencer.OpenAsRun, hrun] at hmatches
  exact absurd (hopen.symm.trans hmatches) (by decide)

end Sys2Proof.Machine
end

section
/-! How a command ends: each answers a next state with the queue of waiting commands as it was (entries 1 and 10), and a
request is answered, with nothing done beside the link where it is refused (00, Requests and results). -/

namespace Sys2Proof.Machine

/-! ## Requests -/

/-- The answer to a request of kind `k`: refused, with nothing but the reply, or carried out and replied to. -/
inductive State.Answers (k : Byte) (s : State) : State → Prop where
  | refused {r : ResultCode} (hr : r.carriedOut = false) : s.Answers k (s.reply k r [])
  | carried {t : State} {r : ResultCode} {d : List Byte} (hr : r.carriedOut = true) (hqueue : t.pending = s.pending) :
      s.Answers k (t.reply k r d)

section
variable {s t : State} {k : Byte}

/-- A step of one pocket that is replied to. -/
theorem State.Answers.onUnit {p : Pocket} {f : PocketUnit → PocketUnit} {r : ResultCode} {d : List Byte}
    (hr : r.carriedOut = true) : s.Answers k ((s.onUnit p f).reply k r d) := .carried hr (State.onUnit_pending ..)

theorem State.Answers.onPocket {p : Pocket} {f : PocketView → PocketView} {r : ResultCode} {d : List Byte}
    (hr : r.carriedOut = true) : s.Answers k ((s.onPocket p f).reply k r d) := .carried hr (State.onPocket_pending ..)

theorem State.Answers.pending (h : s.Answers k t) : t.pending = s.pending := by
  cases h with
  | refused => rfl
  | carried hr hqueue => exact hqueue

/-- A refusal leaves all but the link, and its reply carries no data. -/
theorem State.Answers.of_refused (h : s.Answers k t) {a : Reply} {r : ResultCode} (ha : t.link.answer = some a)
    (har : a.result = some r) (hr : r.carriedOut = false) : t = { s with link := t.link } ∧ a.kind = k + 0x80 ∧ a.data = [] := by
  cases h with
  | refused =>
    rw [State.reply_answer, Option.some.injEq] at ha
    subst ha
    exact ⟨rfl, rfl, rfl⟩
  | carried hc =>
    rw [State.reply_answer, Option.some.injEq] at ha
    subst ha
    simp only [Option.some.injEq] at har
    rw [har, hr] at hc
    exact absurd hc (by simp)

end

theorem clampResult_carriedOut (changed : Bool) : (clampResult changed).carriedOut = true := by cases changed <;> rfl

/-- An OK under one condition, and OK_CLAMPED under the other, carry the request out. -/
theorem carriedOut_ite {c : Prop} [Decidable c] {a b : ResultCode} (ha : a.carriedOut = true) (hb : b.carriedOut = true) :
    (if c then a else b).carriedOut = true := by split <;> assumption

theorem ActivationFailure.startResult_refuses (e : ActivationFailure) : e.startResult.carriedOut = false := by cases e <;> rfl

theorem State.startRefusal_refuses {s : State} {p : Pocket} {r : ResultCode} (h : s.startRefusal p = some r) :
    r.carriedOut = false := by
  unfold State.startRefusal at h
  dsimp only at h
  split at h
  · cases h; rfl
  split at h
  · cases h; rfl
  split at h
  · cases h; rfl
  split at h
  · cases h; rfl
  split at h
  · cases h; rfl
  · cases h

theorem Sequencer.backstepRefusal_refuses {q : Sequencer} {r : ResultCode} (h : q.backstepRefusal = some r) :
    r.carriedOut = false := by
  unfold Sequencer.backstepRefusal at h
  split at h <;> cases h <;> rfl

section
variable (s : State)

theorem reqConfigure_answers (fields : ConfigureFields) : s.Answers 0x01 (reqConfigure fields s) := by
  unfold reqConfigure
  split
  · exact .refused rfl
  · exact .carried (carriedOut_ite rfl rfl) rfl

theorem reqSetTempCal_answers (channel : Byte) (cLo tLo cHi tHi : Half) :
    s.Answers 0x02 (reqSetTempCal channel cLo tLo cHi tHi s) := by
  unfold reqSetTempCal
  split
  · exact .refused rfl
  · dsimp only
    split
    · exact .refused rfl
    · exact .carried (carriedOut_ite rfl rfl) rfl

theorem reqCalMoisture_answers (pocket : Byte) : s.Answers 0x03 (reqCalMoisture pocket s) := by
  unfold reqCalMoisture
  split
  · exact .refused rfl
  · split
    · exact .refused rfl
    · exact .onUnit rfl

theorem reqSetDefaults_answers (pocket mask : Byte) (groups : List Byte) :
    s.Answers 0x04 (reqSetDefaults pocket mask groups s) := by
  unfold reqSetDefaults
  split
  · exact .onUnit (clampResult_carriedOut _)
  · exact .refused rfl

theorem reqPutMotion_answers (pocket index direction speed duration : Byte) :
    s.Answers 0x05 (reqPutMotion pocket index direction speed duration s) := by
  unfold reqPutMotion
  split
  · split
    · exact .refused rfl
    · exact .onUnit (carriedOut_ite rfl rfl)
  · exact .refused rfl

theorem reqPutPhase_answers (slot kind next : Byte) (maxTime : Half) (segFirst segLast quals mask : Byte)
    (groups : List Byte) : s.Answers 0x06 (reqPutPhase slot kind next maxTime segFirst segLast quals mask groups s) := by
  unfold reqPutPhase
  split
  · split
    · exact .carried (clampResult_carriedOut _) rfl
    · split
      · exact .refused rfl
      · exact .carried (clampResult_carriedOut _) rfl
  · exact .refused rfl

theorem reqErasePhase_answers (slot : Byte) : s.Answers 0x07 (reqErasePhase slot s) := by
  unfold reqErasePhase
  split
  · exact .refused rfl
  · split
    · exact .carried rfl rfl
    · split
      · exact .refused rfl
      · exact .carried rfl rfl

theorem reqGetPhase_answers (slot : Byte) : s.Answers 0x08 (reqGetPhase slot s) := by
  unfold reqGetPhase
  split
  · exact .refused rfl
  · exact .carried rfl rfl

theorem reqSetSafe_answers (pocket slot : Byte) : s.Answers 0x09 (reqSetSafe pocket slot s) := by
  unfold reqSetSafe
  split
  · split
    · exact .refused rfl
    · split
      · exact .refused rfl
      · exact .onUnit rfl
  · exact .refused rfl

theorem reqStart_answers (pocket slot : Byte) : s.Answers 0x10 (reqStart pocket slot s) := by
  unfold reqStart
  split
  · split
    · next h => exact .refused (State.startRefusal_refuses h)
    · split
      · exact .refused (ActivationFailure.startResult_refuses _)
      · exact .onPocket rfl
  · exact .refused rfl

theorem reqPause_answers (pocket : Byte) : s.Answers 0x11 (reqPause pocket s) := by
  unfold reqPause
  split
  · exact .refused rfl
  · split
    · exact .onPocket rfl
    · exact .onPocket rfl
    · exact .onPocket rfl
    all_goals exact .refused rfl

theorem reqResume_answers (pocket : Byte) : s.Answers 0x12 (reqResume pocket s) := by
  unfold reqResume
  split
  · exact .refused rfl
  · split
    · exact .refused rfl
    · split
      · exact .refused rfl
      · exact .onPocket rfl

theorem reqAdvance_answers (pocket : Byte) : s.Answers 0x13 (reqAdvance pocket s) := by
  unfold reqAdvance
  split
  · exact .refused rfl
  · split
    · exact .onPocket rfl
    · exact .onPocket rfl
    · exact .onPocket rfl
    all_goals exact .refused rfl

theorem reqBackstep_answers (pocket k : Byte) : s.Answers 0x14 (reqBackstep pocket k s) := by
  unfold reqBackstep
  split
  · exact .refused rfl
  · split
    · exact .refused rfl
    · split
      · next h => exact .refused (Sequencer.backstepRefusal_refuses h)
      · split
        · exact .refused rfl
        · exact .onPocket rfl

theorem reqAbort_answers (pocket : Byte) : s.Answers 0x15 (reqAbort pocket s) := by
  unfold reqAbort
  split
  · exact .refused rfl
  · split
    · exact .onPocket rfl
    · exact .onPocket rfl
    · exact .onUnit rfl
    all_goals exact .refused rfl

theorem reqClearFault_answers (pocket faults : Byte) : s.Answers 0x16 (reqClearFault pocket faults s) := by
  unfold reqClearFault
  split
  · exact .onUnit (carriedOut_ite rfl rfl)
  · exact .refused rfl

theorem reqGetStatus_answers (target : Byte) : s.Answers 0x20 (reqGetStatus target s) := by
  unfold reqGetStatus
  split
  · exact .onUnit rfl
  · exact .onUnit rfl
  · exact .carried rfl rfl
  · exact .refused rfl

theorem reqGetHistory_answers (pocket : Byte) : s.Answers 0x21 (reqGetHistory pocket s) := by
  unfold reqGetHistory
  split
  · exact .refused rfl
  · exact .carried rfl rfl

theorem reqFlushTrend_answers : s.Answers 0x25 (reqFlushTrend s) := by
  unfold reqFlushTrend
  split
  · exact .carried rfl rfl
  · exact .refused rfl

theorem reqTrendMode_answers (mode threshold : Byte) : s.Answers 0x24 (reqTrendMode mode threshold s) := by
  unfold reqTrendMode
  split
  · exact .refused rfl
  · exact .carried (carriedOut_ite rfl rfl) rfl

theorem State.relatch_pending (p : Pocket) : (s.relatch p).pending = s.pending := by
  unfold State.relatch
  dsimp only
  split <;> split <;> simp

theorem reqResetPart_answers : s.Answers 0x30 (reqResetPart s) := by
  unfold reqResetPart
  split
  · exact .refused rfl
  · refine .carried rfl ?_
    rw [State.resetPart_eq, State.relatch_pending, State.relatch_pending]
    rfl

end

/-- Every request is answered under its own kind. -/
theorem runRequest_answers {i : Instr} {k : Byte} {payload : List Byte} (h : requestFrame i = some (k, payload)) (s : State) :
    s.Answers k (runRequest i s) := by
  cases i <;> cases h
  case configure fields => exact reqConfigure_answers s fields
  case setTempCal => exact reqSetTempCal_answers s ..
  case calMoisture => exact reqCalMoisture_answers s _
  case setDefaults => exact reqSetDefaults_answers s ..
  case putMotion => exact reqPutMotion_answers s ..
  case putPhase => exact reqPutPhase_answers s ..
  case erasePhase => exact reqErasePhase_answers s _
  case getPhase => exact reqGetPhase_answers s _
  case setSafe => exact reqSetSafe_answers s ..
  case start => exact reqStart_answers s ..
  case pause => exact reqPause_answers s _
  case resume => exact reqResume_answers s _
  case advance => exact reqAdvance_answers s _
  case abort => exact reqAbort_answers s _
  case backstep => exact reqBackstep_answers s ..
  case clearFault => exact reqClearFault_answers s ..
  case getStatus => exact reqGetStatus_answers s _
  case getHistory => exact reqGetHistory_answers s _
  case getTemps => exact .carried rfl rfl
  case readTrend => exact .carried rfl rfl
  case flushTrend => exact reqFlushTrend_answers s
  case trendMode => exact reqTrendMode_answers s ..
  case resetPart => exact reqResetPart_answers s

/-- Settles O4: the answer to a request, by its refusals. -/
theorem refusedRequestChangesNothing : Obligations.RefusedRequestChangesNothing := by
  unfold Obligations.RefusedRequestChangesNothing
  intro i k payload s t a r hframe hexec ha har hr
  rw [exec_of_request hframe, Host.Outcome.next.injEq] at hexec
  subst hexec
  exact (runRequest_answers hframe s).of_refused ha har hr

/-! ## Completion -/

/-- The outcome is a next state with the queue as it was. -/
def State.Completes (s : State) (o : Host.Outcome State Fault Refusal) : Prop :=
  ∃ t : State, o = .next t ∧ t.pending = s.pending

section
variable {s t : State}

theorem State.Completes.next (h : t.pending = s.pending) : s.Completes (.next t) := ⟨t, rfl, h⟩

/-- A command that acts only under its condition (entry 10). -/
theorem State.Completes.when {c : Prop} [Decidable c] (h : t.pending = s.pending) :
    s.Completes (if c then .next t else .next s) := by
  split
  · exact .next h
  · exact .next rfl

end

section
variable (s : State) (p : Pocket)

@[simp] theorem State.reportTo_pending (f : PocketFault) : (s.reportTo p f).pending = s.pending := by
  simp [State.reportTo]

@[simp] theorem State.reportSilence_pending : (s.reportSilence p).pending = s.pending := by
  unfold State.reportSilence
  split <;> simp

@[simp] theorem State.expireSilence_pending : s.expireSilence.pending = s.pending := by
  unfold State.expireSilence
  dsimp only
  split <;> simp

@[simp] theorem State.endWindow_pending (w : SenseWindow) : (s.endWindow p w).pending = s.pending := by
  unfold State.endWindow
  dsimp only
  split <;> simp

@[simp] theorem State.coolTest_pending : (s.coolTest p).pending = s.pending := by
  unfold State.coolTest
  split <;> simp

@[simp] theorem State.afterInlet_pending : (s.afterInlet p).pending = s.pending := by
  unfold State.afterInlet
  split
  · split <;> simp
  · split <;> simp

@[simp] theorem State.afterExhaust_pending : (s.afterExhaust p).pending = s.pending := by
  unfold State.afterExhaust State.reportThenEnd
  split
  · split
    · dsimp only
      split <;> simp
    · simp
  · simp

@[simp] theorem State.driveCondition_pending (drop : Drum → Drum) : (s.driveCondition p drop).pending = s.pending := by
  unfold State.driveCondition
  split <;> simp

theorem State.zeroCross_pending : s.zeroCross.pending = s.pending := by
  unfold State.zeroCross
  dsimp only
  split <;> rfl

theorem State.clearMark_pending (t : Target) : (s.clearMark t).pending = s.pending := by
  cases t <;> simp [State.clearMark]

theorem State.reportOpenCutout_pending : (s.reportOpenCutout p).pending = s.pending := by
  unfold State.reportOpenCutout
  split <;> simp

theorem State.answerFrame_pending (f : InFrame) : (s.answerFrame f).pending = s.pending := by
  unfold State.answerFrame
  split
  · split
    · rfl
    · rfl
    · next i _ =>
      rcases hi : requestFrame i with _ | ⟨k, payload⟩
      · cases i <;> first | rfl | cases hi
      · exact (runRequest_answers hi s).pending
  · rfl

end

/-- Settles O3: the requests by their answers, the other commands each by what it does. -/
theorem everyCommandCompletes : Obligations.EveryCommandCompletes := by
  unfold Obligations.EveryCommandCompletes
  intro c s
  change s.Completes (exec c s)
  rcases hc : requestFrame c with _ | ⟨k, payload⟩
  case some => exact exec_of_request hc s ▸ .next (runRequest_answers hc s).pending
  cases c
  case powerOn =>
    exact .next ((State.reportOpenCutout_pending _ .upper).trans (State.reportOpenCutout_pending _ .lower))
  case receiveByte => exact .next rfl
  case receiveSilenceTimeout => exact .when rfl
  case frameTaken =>
    change s.Completes (execFrameTaken s)
    unfold execFrameTaken
    split
    · exact .next (State.answerFrame_pending _ _)
    · exact .next rfl
  case replyTransmissionBegin =>
    change s.Completes (execReplyTransmissionBegin s)
    unfold execReplyTransmissionBegin
    split <;> exact .next rfl
  case noticeFrameBegin =>
    change s.Completes (execNoticeFrameBegin s)
    unfold execNoticeFrameBegin
    split
    · exact .next (State.clearMark_pending s _)
    · exact .next rfl
  case transmissionEnd =>
    change s.Completes (execTransmissionEnd s)
    unfold execTransmissionEnd
    split
    · exact .when rfl
    · exact .next rfl
  case silenceTimerExpiry => exact .when (by simp)
  case doorOpening => exact .when (by simp)
  case doorClosing p =>
    change s.Completes (execDoorClosing p s)
    unfold execDoorClosing
    split
    · exact .next rfl
    · exact .next (by simp)
  case phaseTimerExpiry => exact .when (by simp)
  case unattendedResume => exact .when (by simp)
  case fanRunOnExpiry => exact .when (by simp)
  case tachEdge => exact .next (by simp)
  case tachoCaptureOverflow => exact .when (by simp)
  case unwindBoundExpiry => exact .when (by simp)
  case loosenDwellExpiry => exact .when (by simp)
  case stopConfirmed => exact .when (by simp)
  case standstillExpiry => exact .when (by simp)
  case entryDurationExpiry => exact .when (by simp)
  case startTimeout => exact .when (by simp)
  case speedLossTimeout => exact .when (by simp)
  case stopTimeout => exact .when (by simp)
  case mpulseEdge p =>
    change s.Completes (execMpulseEdge p s)
    unfold execMpulseEdge
    split
    · exact .next rfl
    · exact .next (by simp)
  case forcedOpenPeriod => exact .when (by simp)
  case calIsolatedPartEnd p =>
    change s.Completes (execCalIsolatedPartEnd p s)
    unfold execCalIsolatedPartEnd
    split
    · exact .when (by simp)
    · exact .next rfl
  case calComplete p =>
    change s.Completes (execCalComplete p s)
    unfold execCalComplete
    split
    · split
      · exact .next (by simp)
      · exact .next rfl
    · exact .next rfl
  case windowEnd p =>
    change s.Completes (execWindowEnd p s)
    unfold execWindowEnd
    split
    · exact .when (by simp)
    · exact .next rfl
  case channelConversion c n =>
    cases c with
    | lowerInlet | upperInlet => exact .next (State.afterInlet_pending _ _)
    | lowerExhaust | upperExhaust => exact .next (State.afterExhaust_pending _ _)
    | ambient => exact .next rfl
  case cutoutOpening => exact .when (by simp)
  case zeroCross => exact .next s.zeroCross_pending
  case mainsLoss => exact .when rfl
  case airfDeasserted => exact .when (by simp)
  case airfAsserted => exact .next (by simp)
  case airflowTimeout => exact .when (by simp)
  case cutoutClosing => exact .next (by simp)
  all_goals cases hc

end Sys2Proof.Machine
end

section
/-! The machine's step, its state after reset, and the short cases of the pool and the link: the front of the queue and the
clock, the values at power-on, the clamped groups, SET_SAFE, and the taking of a frame. -/

namespace Sys2Proof.Machine

/-! ## The step (entries 1 to 3) -/

theorem step_of_pending {c : Instr} {q : List Instr} {s : State} (h : s.pending = c :: q) :
    step s = exec c { s with pending := q } := by
  simp [step, h]

theorem step_of_idle {s : State} (h : s.pending = []) : step s = idle s := by
  simp [step, h]

/-- Of several due events one is taken, with a free value spent on the choice (entry 3). -/
theorem State.nextDue_of_several {s : State} (h : 2 ≤ s.dueEvents.length) :
    ∃ e ∈ s.dueEvents, s.nextDue = some (e, s.spendFree) := by
  obtain ⟨e, d, rest, hdue⟩ : ∃ e d rest, s.dueEvents = e :: d :: rest := by
    match hdue : s.dueEvents with
    | [] => simp [hdue] at h
    | [e] => simp [hdue] at h
    | e :: d :: rest => exact ⟨e, d, rest, rfl⟩
  have hlt : Config.dueChoice s.free % (rest.length + 2) < (e :: d :: rest).length :=
    Nat.mod_lt _ (Nat.succ_pos _)
  refine ⟨(e :: d :: rest)[Config.dueChoice s.free % (rest.length + 2)], by rw [hdue]; exact List.getElem_mem hlt, ?_⟩
  simp only [State.nextDue, hdue]
  rw [List.getD_eq_getElem?_getD, List.length_cons, List.getElem?_eq_getElem hlt]
  rfl

/-- Settles O1. -/
theorem stepTakesFrontCommand : Obligations.StepTakesFrontCommand := by
  unfold Obligations.StepTakesFrontCommand
  refine ⟨fun c q s h => step_of_pending h, fun s h hdue => ?_, fun e s h hdue => ?_, fun s h hdue => ?_⟩
  · rw [step_of_idle h, idle, State.nextDue, hdue]
  · rw [step_of_idle h, idle, State.nextDue, hdue]
  · obtain ⟨e, he, hnext⟩ := State.nextDue_of_several hdue
    exact ⟨e, he, by rw [step_of_idle h, idle, hnext]; rfl⟩

/-! ## Power-on -/

/-- Settles O2: the values of each block, the two pockets alike. -/
theorem resetHoldsPowerOnValues : Obligations.ResetHoldsPowerOnValues := by
  unfold Obligations.ResetHoldsPowerOnValues
  have hunit (p : Pocket) : State.reset.unit p = PocketUnit.powerOn := by cases p <;> rfl
  have htable (j : EntryNo) : PocketUnit.powerOn.drum.table[j].written = false := by
    simp [PocketUnit.powerOn, Drum.powerOn, MotionEntry.unwritten]
  obtain ⟨-, -, helements⟩ := PocketHeat.powerOn_isOff
  refine ⟨rfl, fun i => ?_, fun p => ?_, fun c => by cases c <;> rfl, ?_⟩
  · simp [State.reset]
  · rw [hunit]
    and_intros
    all_goals first | exact htable | exact helements | rfl
  · and_intros <;> rfl

/-- Settles O60: the guards by the power-on of a pocket, the ranges and the marks by the values at reset. -/
theorem resetMeetsInvariants : Obligations.ResetMeetsInvariants := by
  unfold Obligations.ResetMeetsInvariants
  have hunit (p : Pocket) : State.reset.unit p = PocketUnit.powerOn := by cases p <;> rfl
  have hheat : State.reset.HeatSound := fun p => hunit p ▸ PocketHeat.powerOn_isOff.heatSound
  have hdrums : State.reset.DrumsSound := fun p => hunit p ▸ PocketUnit.DrumSound.powerOn PocketUnit.powerOn.pins
  have hranges : State.reset.RangesSound :=
    ⟨fun p => hunit p ▸ PocketUnit.powerOn_inRange _ PocketUnit.powerOn.pins, by decide, by decide, Nat.zero_le 2,
      Nat.zero_le 64, Nat.zero_le 64, by decide⟩
  obtain ⟨hguarded, hwithdrawn⟩ := (State.heatSound_iff _).mp hheat
  obtain ⟨hdrive, horder, houtputs⟩ := (State.drumsSound_iff _).mp hdrums
  have hslots : State.reset.SlotsOwned := fun p i => by
    rw [hunit]
    simp [State.reset, Slot.activeIn, PocketUnit.powerOn, Sequencer.powerOn, WorkingSet.powerOn]
  refine ⟨hguarded, hwithdrawn, hdrive, horder, houtputs, ⟨hslots, rfl, rfl⟩, ⟨⟨rfl, rfl⟩, rfl, rfl⟩, ?_,
    (State.rangesSound_iff _).mp hranges⟩
  rintro i ⟨hlower, -⟩
  cases hlower

/-! ## Clamped groups (R4 to R6) -/

theorem clampNat_mem {lo hi : Nat} (h : lo ≤ hi) (n : Nat) : lo ≤ clampNat lo hi n ∧ clampNat lo hi n ≤ hi := by
  unfold clampNat; omega

theorem clampNat_of_mem {lo hi n : Nat} (hlo : lo ≤ n) (hhi : n ≤ hi) : clampNat lo hi n = n := by
  unfold clampNat; omega

theorem clampInt_mem {lo hi : Int} (h : lo ≤ hi) (n : Int) : lo ≤ clampInt lo hi n ∧ clampInt lo hi n ≤ hi := by
  unfold clampInt; omega

theorem clampInt_of_mem {lo hi n : Int} (hlo : lo ≤ n) (hhi : n ≤ hi) : clampInt lo hi n = n := by
  unfold clampInt; omega

/-- Settles O5: the range of every field, group by group. -/
theorem clampedGroupsLieInRange : Obligations.ClampedGroupsLieInRange := by
  unfold Obligations.ClampedGroupsLieInRange
  refine ⟨fun g => ⟨?_, clampInt_mem (by decide) _, clampNat_mem (by decide) _, clampInt_mem (by decide) _,
      (clampNat_mem (by decide) _).2, (clampNat_mem (by decide) _).2, ?_⟩,
    fun g => ⟨?_, (clampNat_mem (by decide) _).2, clampNat_mem (by decide) _, clampNat_mem (by decide) _,
      clampNat_mem (by decide) _, (clampNat_mem (by decide) _).2, ?_⟩,
    fun g => ⟨rfl, (clampInt_mem (by decide) _).1, (clampInt_mem (by decide) _).2, ?_⟩,
    fun g => ⟨?_, (clampNat_mem (by decide) _).2, (clampNat_mem (by decide) _).2, clampNat_mem (by decide) _,
      clampNat_mem (by decide) _, (clampNat_mem (by decide) _).2, clampNat_mem (by decide) _, ?_⟩⟩
  · simp [HeatGroup.clamped, clampNat, clampInt]
  · rintro ⟨hset, hset'⟩ ⟨hband, hband'⟩ ⟨hlimit, hlimit'⟩ hpause htangle
    simp [HeatGroup.clamped, clampInt_of_mem, clampNat_of_mem, *]
  · simp [DryGroup.clamped, clampNat]
  · rintro htarget ⟨hconfirm, hconfirm'⟩ ⟨hk, hk'⟩ ⟨hwindow, hwindow'⟩ hmin
    simp [DryGroup.clamped, clampNat_of_mem, *]
  · intro hlow hhigh
    simp [CoolGroup.clamped, clampInt_of_mem, *]
  · simp [TangleGroup.clamped, clampNat]
  · rintro htwist hthreshold ⟨hrevs, hrevs'⟩ ⟨hunwind, hunwind'⟩ hdwell ⟨hlimit, hlimit'⟩
    simp [TangleGroup.clamped, clampNat_of_mem, *]

/-! ## SET_SAFE (R13) -/

theorem reqSetSafe_of_operands {pocket slot : Byte} {p : Pocket} {a : Option SlotNo} (hp : pocketOf pocket = some p)
    (ha : slotRefOf slot = some a) (s : State) :
    reqSetSafe pocket slot s =
      if (s.unit p).seq.run = .safe then s.reply 0x09 .busy []
      else if a.isSome = true ∧ (s.unit (otherPocket p)).seq.anchor = a then s.reply 0x09 .inUse []
      else (s.onUnit p fun u => { u with seq := { u.seq with anchor := a } }).reply 0x09 .ok [] := by
  simp [reqSetSafe, hp, ha]

/-- Settles O10. -/
theorem setSafeByCases : Obligations.SetSafeByCases := by
  unfold Obligations.SetSafeByCases
  intro pocket slot s
  refine ⟨fun p hp a ha => ?_, fun hrefused => ?_⟩
  · rw [show exec (.setSafe pocket slot) s = .next (reqSetSafe pocket slot s) from rfl, reqSetSafe_of_operands hp ha]
    simp only [ne_eq, Option.isSome_iff_ne_none]
  · have hnone : pocketOf pocket = none ∨ slotRefOf slot = none := by
      rcases hrefused with hpocket | ⟨hslot, hne⟩
      · exact .inl (Option.not_isSome_iff_eq_none.mp (by rw [pocketOf_isSome]; omega))
      · refine .inr (Option.not_isSome_iff_eq_none.mp ?_)
        rw [slotRefOf_isSome]
        rintro (h | h)
        · omega
        · exact hne h
    change Host.Outcome.next (reqSetSafe pocket slot s) = _
    rcases hnone with hnone | hnone
    · simp [reqSetSafe, hnone]
    · simp only [reqSetSafe, hnone]
      split <;> simp_all

/-! ## The taking of a frame (R198 to R200) -/

section
variable {payload : List Byte} {i : Instr}

theorem oneByte_request {f : Byte → Instr} (h : oneByte f payload = .request i) : ∃ a, i = f a := by
  unfold oneByte at h
  split at h <;> cases h
  exact ⟨_, rfl⟩

theorem twoBytes_request {f : Byte → Byte → Instr} (h : twoBytes f payload = .request i) : ∃ a b, i = f a b := by
  unfold twoBytes at h
  split at h <;> cases h
  exact ⟨_, _, rfl⟩

theorem noBytes_request {c : Instr} (h : noBytes c payload = .request i) : i = c := by
  unfold noBytes at h
  split at h <;> cases h
  rfl

/-- What a frame asks for is a request, which has a frame. -/
theorem requestFrame_isSome_of_requestOf {kind : Byte} (h : requestOf kind payload = .request i) :
    (requestFrame i).isSome = true := by
  unfold requestOf at h
  split at h
  case h_1 => unfold configureOf at h; split at h <;> cases h; rfl
  case h_2 => unfold setTempCalOf at h; split at h <;> cases h; rfl
  case h_4 => unfold setDefaultsOf at h; split at h <;> cases h; rfl
  case h_5 => unfold putMotionOf at h; split at h <;> cases h; rfl
  case h_6 => unfold putPhaseOf at h; split at h <;> cases h; rfl
  case h_3 | h_7 | h_8 | h_11 | h_12 | h_13 | h_15 | h_17 | h_18 => obtain ⟨a, rfl⟩ := oneByte_request h; rfl
  case h_9 | h_10 | h_14 | h_16 | h_21 => obtain ⟨a, b, rfl⟩ := twoBytes_request h; rfl
  case h_19 | h_20 | h_22 | h_23 => obtain rfl := noBytes_request h; rfl
  case h_24 => cases h

end

theorem execFrameTaken_of_frame {f : InFrame} {rest : List InFrame} {s : State} (hslot : s.link.replySlot = none)
    (hinbound : s.link.inbound = f :: rest) :
    exec .frameTaken s = .next (({ s with link := { s.link with inbound := rest } } : State).answerFrame f) := by
  change execFrameTaken s = _
  simp [execFrameTaken, hslot, hinbound]

/-- Settles O53. -/
theorem frameTakenIsAnswered : Obligations.FrameTakenIsAnswered := by
  unfold Obligations.FrameTakenIsAnswered
  refine ⟨fun f rest s hslot hinbound => ?_, fun s hnone => ?_⟩
  · intro s'
    have htaken : exec .frameTaken s = .next (s'.answerFrame f) := execFrameTaken_of_frame hslot hinbound
    refine ⟨fun hbad => ⟨_, htaken, ?_⟩, fun hgood hof => ?_, fun hgood hof => ?_, fun i hgood hof => ?_⟩
    · simp [State.answerFrame, hbad, frameErrorReply, Reply.body, s']
    · simp [htaken, State.answerFrame, hgood, hof]
    · simp [htaken, State.answerFrame, hgood, hof]
    · obtain ⟨⟨k, bytes⟩, hframe⟩ := Option.isSome_iff_exists.mp (requestFrame_isSome_of_requestOf hof)
      simp [htaken, State.answerFrame, hgood, hof, exec_of_request hframe]
  · change execFrameTaken s = _
    unfold execFrameTaken
    split
    · next hslot hinbound => simp [hslot, hinbound] at hnone
    · rfl

end Sys2Proof.Machine
end

section
/-! The frames of a step of one pocket, and what a segment handed to a drum begins: the rules that the sequencer's requests and
events share. -/

namespace Sys2Proof.Machine

/-! ## Frames -/

section
variable (s : State) (p : Pocket)

theorem State.onPocket_sameElsewhere (f : PocketView → PocketView) : s.SameElsewhere (s.onPocket p f) p := by
  simp [State.SameElsewhere]

theorem State.onEvent_sameElsewhere (f : Env → PocketView → PocketView) : s.SameElsewhere (s.onEvent p f) p := by
  simp [State.SameElsewhere]

/-- A request that acts on one pocket leaves all else but the link, where its reply is as to the state before. -/
theorem State.onPocket_reply_sameElsewhere (f : PocketView → PocketView) (k : Byte) (r : ResultCode) (d : List Byte) :
    s.SameElsewhere ((s.onPocket p f).reply k r d) p := by
  simp [State.SameElsewhere]

theorem State.onPocket_reply_link (f : PocketView → PocketView) (k : Byte) (r : ResultCode) (d : List Byte) :
    ((s.onPocket p f).reply k r d).link = (s.reply k r d).link := State.reply_link_congr (by simp) ..

end

/-! ## Run states taken without a report -/

/-- A run state taken while the silence timer is not expired, or taken again, is taken without a report (R203). -/
theorem PocketView.become_unreported {env : Env} {st : RunState} {v : PocketView}
    (h : env.silenceExpired = false ∨ v.unit.seq.run = st ∨ st.linkWatched = false) :
    v.become env st = v.onUnit fun u => PocketUnit.checkHeat { u with seq := { u.seq with run := st } } := by
  unfold PocketView.become PocketView.reportOnEntry
  refine if_neg ?_
  rintro ⟨hexpired, hne, hwatched⟩
  simp only [PocketView.onUnit_unit, PocketUnit.checkHeat_seq] at hne hwatched
  rcases h with h | h | h
  · simp [h] at hexpired
  · exact hne h.symm
  · simp [h] at hwatched

/-! ## Runs begun without an interruption -/

section
variable {u : PocketUnit}

theorem PocketUnit.beginRun_counts (cycles : Nat) (dir : Dir) (speed : Nat) (u : PocketUnit) :
    (u.beginRun cycles dir speed).drum.antiTangle = u.drum.antiTangle ∧
      (u.beginRun cycles dir speed).drum.limitReached = u.drum.limitReached ∧
      (u.beginRun cycles dir speed).drum.unwind.isSome = u.drum.unwind.isSome := by
  obtain ⟨-, -, -, -, -, -, -, hunwind, hcount, hlimit, -⟩ := u.drum.stopCommand_keeps
  unfold PocketUnit.beginRun
  split
  · rw [Drum.testSpeedLoss_eq]; simp
  · rw [Drum.testSpeedLoss_eq]; simp
  · exact ⟨hcount, hlimit, congrArg Option.isSome hunwind⟩
  · exact ⟨hcount, hlimit, congrArg Option.isSome hunwind⟩
  all_goals simp [PocketUnit.assertDirection, Drum.awaitStop, Drum.awaitReversal]

/-- A run begun leaves only a drum that was TURNING in TURNING. -/
theorem PocketUnit.isTurning_of_beginRun {cycles : Nat} {dir : Dir} {speed : Nat}
    (h : (u.beginRun cycles dir speed).drum.isTurning = true) : u.drum.isTurning = true := by
  unfold PocketUnit.beginRun at h
  split at h <;> rename_i hs _
  · rw [Drum.testSpeedLoss_eq] at h; simp [Drum.isTurning, hs] at h
  · simp [Drum.isTurning, hs]
  · simp [Drum.isTurning, Drum.stopCommand, Drum.awaitReversal, hs] at h
  · simp [Drum.isTurning, hs]
  all_goals simp [Drum.isTurning, PocketUnit.assertDirection, Drum.awaitStop, Drum.awaitReversal, hs] at h

theorem PocketUnit.twistCheck_of_not_turning (h : u.drum.isTurning = false) : u.twistCheck = u := by
  have hfires : u.twistFires = false := by
    unfold PocketUnit.twistFires
    split <;> simp [h]
  simp [PocketUnit.twistCheck, hfires]

/-- A twist of 0 is not added to by either direction, so no check fires (R101). -/
theorem PocketUnit.twistCheck_of_no_twist (h : u.drum.twist = 0) : u.twistCheck = u := by
  have hadds (dir : Dir) : twistAdds dir u.drum.twist = false := by cases dir <;> simp [twistAdds, h]
  have hfires : u.twistFires = false := by
    unfold PocketUnit.twistFires
    split <;> simp [hadds]
  simp [PocketUnit.twistCheck, hfires]

/-- An entry that begins on a drum that does not turn, or with twist 0, is not interrupted: nothing is counted, and no unwind
step inserted. -/
theorem PocketUnit.beginEntry_uninterrupted (cycles : Nat) (h : u.drum.isTurning = false ∨ u.drum.twist = 0) :
    (u.beginEntry cycles).drum.antiTangle = u.drum.antiTangle ∧
      (u.beginEntry cycles).drum.limitReached = u.drum.limitReached ∧
      (u.beginEntry cycles).drum.unwind.isSome = u.drum.unwind.isSome := by
  obtain ⟨-, -, -, -, -, -, -, hunwind, hcount, hlimit, -⟩ := u.drum.stopCommand_keeps
  unfold PocketUnit.beginEntry
  split
  · exact ⟨rfl, rfl, rfl⟩
  · split
    · exact ⟨hcount, hlimit, congrArg Option.isSome hunwind⟩
    · next e he _ dir hdir =>
      have hnone : (u.beginRun cycles dir e.speed).twistCheck = u.beginRun cycles dir e.speed := by
        rcases h with hturning | htwist
        · refine PocketUnit.twistCheck_of_not_turning (Bool.eq_false_iff.mpr fun hafter => ?_)
          rw [PocketUnit.isTurning_of_beginRun hafter] at hturning
          exact absurd hturning (by simp)
        · exact PocketUnit.twistCheck_of_no_twist ((PocketUnit.beginRun_step cycles dir e.speed u).1.twist.trans htwist)
      rw [hnone]
      exact PocketUnit.beginRun_counts cycles dir e.speed u

theorem PocketUnit.handRunning_uninterrupted (cycles : Nat) (first last : EntryNo)
    (h : u.drum.isTurning = false ∨ u.drum.twist = 0) :
    (u.handRunning cycles first last).drum.antiTangle = u.drum.antiTangle ∧
      (u.handRunning cycles first last).drum.limitReached = u.drum.limitReached ∧
      (u.handRunning cycles first last).drum.unwind = none := by
  obtain ⟨hcount, hlimit, hunwind⟩ := PocketUnit.beginEntry_uninterrupted cycles
    (u := { u with drum := { u.drum.handed first last with order := .runSegment } }) h
  exact ⟨hcount, hlimit, Option.not_isSome_iff_eq_none.mp fun h => by simpa [Drum.handed] using hunwind.symm.trans h⟩

theorem Drum.entry?_eq {d : Drum} {g : Segment} (h : d.segment = some g) : d.entry? = some d.table[g.cursor] := by
  simp [Drum.entry?, h]

/-- A segment handed to a STOPPING drum whose first run is against DIR: the run waits, and the stop timer runs on or starts
(R83, R90, entry 18). -/
theorem PocketUnit.handRunning_against (cycles : Nat) {first last : EntryNo} {dir : Dir} (hs : u.drum.state = .stopping)
    (hmotion : u.drum.table[first].motion = .run dir) (hd : dir ≠ u.drum.dir) :
    (u.handRunning cycles first last).drum.state = .stopping ∧
      (u.handRunning cycles first last).drum.pendingDir = some dir ∧
      (u.handRunning cycles first last).drum.entryTime = none ∧
      (u.handRunning cycles first last).drum.stopTimer = some (u.drum.stopTimer.getD 0) := by
  let w : PocketUnit := { u with drum := { u.drum.handed first last with order := .runSegment } }
  have hentry : w.drum.entry? = some u.drum.table[first] := Drum.entry?_eq (g := ⟨first, last, first⟩) rfl
  have hbegun : w.beginEntry cycles = { w with drum := { w.drum with
      pendingDir := some dir, entryTime := none, stopTimer := some (u.drum.stopTimer.getD 0) } } := by
    simp only [PocketUnit.beginEntry, hentry, hmotion]
    rw [PocketUnit.beginRun_of_stopping cycles _ (show w.drum.state = .stopping from hs) hd,
      PocketUnit.twistCheck_of_not_turning (by simp [Drum.isTurning, w, Drum.handed, hs])]
    rfl
  rw [show u.handRunning cycles first last = w.beginEntry cycles from rfl, hbegun]
  exact ⟨hs, rfl, rfl, rfl⟩

end

end Sys2Proof.Machine
end

section
/-! START, PAUSE and the door (2.2, 2.5, 2.6). -/

namespace Sys2Proof.Machine

section
variable {s : State} {p : Pocket} {b : Byte}

/-! ## START (R26, R27) -/

theorem PocketView.release_of_inactive {v : PocketView} (h : v.unit.seq.work.active = none) (p : Pocket) :
    v.release p = v := by
  simp only [PocketView.release, h]

/-- A START that passes its checks is carried out. -/
theorem exec_start_accepted {sb : Byte} {i : SlotNo} {r : PhaseRecord} (hp : pocketOf b = some p) (hi : slotOf sb = some i)
    (hrefusal : s.startRefusal p = none) (hcheck : ((s.view p).release p).check i = .ok r) :
    exec (.start b sb) s = .next ((s.onPocket p (PocketView.startChain (s.env p) i r)).reply 0x10 .ok []) := by
  change Host.Outcome.next (reqStart b sb s) = _
  simp only [reqStart, hp, hi, hrefusal, hcheck]

/-- The slot of an accepted START taken into use, on a pocket that holds none. -/
def PocketView.started (env : Env) (i : SlotNo) (r : PhaseRecord) (v : PocketView) : PocketView :=
  (v.onUnit PocketUnit.freshRun).enterSlot env i r

theorem PocketView.startChain_quiet {env : Env} {v : PocketView} (hactive : v.unit.seq.work.active = none)
    (hquiet : env.silenceExpired = false) (i : SlotNo) (r : PhaseRecord) :
    v.startChain env i r =
      ((v.started env i r).onUnit PocketUnit.freshMarks).onUnit fun u =>
        PocketUnit.checkHeat { u with seq := { u.seq with run := .running } } := by
  rw [PocketView.startChain, PocketView.become_quiet hquiet, PocketView.release_of_inactive hactive]
  rfl

/-- The pocket to which an activation hands the segment of its record (R17). -/
def PocketUnit.recorded (i : SlotNo) (u : PocketUnit) : PocketUnit :=
  PocketUnit.alignWindow
    { u with
      seq := { u.seq with
        history := pushHistory u.seq.history (u.newCheckpoint i)
        activations := bump 65535 u.seq.activations
        phaseTimer := 0
        confirm := 0 }
      drum := { u.drum with antiTangle := 0, limitReached := false }
      moist := { u.moist with estimate := u.carriedEstimate } }

theorem PocketUnit.completeActivation_eq (cycles : Nat) (i : SlotNo) (u : PocketUnit) :
    u.completeActivation cycles i = (u.recorded i).handRunning cycles u.seq.work.segFirst u.seq.work.segLast := rfl

theorem PocketView.started_unit (env : Env) (i : SlotNo) (r : PhaseRecord) (v : PocketView) :
    (v.started env i r).unit =
      ((v.unit.freshRun.takeWork i r).recorded i).handRunning env.reserveCycles r.segFirst r.segLast := by
  simp only [PocketView.started, PocketView.enterSlot, PocketUnit.completeActivation_eq, PocketUnit.takeWork_seq,
    PocketView.onUnit_unit]
  rfl

/-- The drum to which an accepted START hands the segment: twist and counts from 0 (R17, R27). -/
theorem PocketUnit.recorded_freshRun_drum (i : SlotNo) (r : PhaseRecord) (u : PocketUnit) :
    ((u.freshRun.takeWork i r).recorded i).drum = { u.drum with twist := 0, antiTangle := 0, limitReached := false } := by
  simp [PocketUnit.recorded, PocketUnit.alignWindow, PocketUnit.freshRun]

theorem PocketView.started_counts (env : Env) (i : SlotNo) (r : PhaseRecord) (v : PocketView) :
    (v.started env i r).unit.drum.antiTangle = 0 ∧ (v.started env i r).unit.drum.limitReached = false := by
  have hdrum := PocketUnit.recorded_freshRun_drum i r v.unit
  obtain ⟨hcount, hlimit, -⟩ := PocketUnit.handRunning_uninterrupted env.reserveCycles r.segFirst r.segLast
    (u := (v.unit.freshRun.takeWork i r).recorded i) (.inr (by rw [hdrum]))
  rw [PocketView.started_unit, hcount, hlimit, hdrum]
  exact ⟨rfl, rfl⟩

/-- The run that an accepted START begins on a drum that still coasts the other way (R83, R90, entry 18). -/
theorem PocketView.started_against {env : Env} {i : SlotNo} {r : PhaseRecord} {v : PocketView} {dir : Dir}
    (hs : v.unit.drum.state = .stopping) (hmotion : v.unit.drum.table[r.segFirst].motion = .run dir)
    (hd : dir ≠ v.unit.drum.dir) :
    (v.started env i r).unit.drum.state = .stopping ∧ (v.started env i r).unit.drum.pendingDir = some dir ∧
      (v.started env i r).unit.drum.entryTime = none ∧
      (v.started env i r).unit.drum.stopTimer = some (v.unit.drum.stopTimer.getD 0) := by
  have hdrum := PocketUnit.recorded_freshRun_drum i r v.unit
  have hwaits := PocketUnit.handRunning_against env.reserveCycles (last := r.segLast) (first := r.segFirst) (dir := dir)
    (u := (v.unit.freshRun.takeWork i r).recorded i) (by rw [hdrum]; exact hs) (by rw [hdrum]; exact hmotion)
    (by rw [hdrum]; exact hd)
  rw [PocketView.started_unit]
  rwa [hdrum] at hwaits

/-- What an accepted START leaves before its marks are set (R17, R27). -/
theorem PocketView.started_does (env : Env) (i : SlotNo) (r : PhaseRecord) (v : PocketView) :
    let w := v.started env i r
    let kept := if r.quals.keepEstimate then v.unit.moist.estimate else none
    w.pool[i] = .active env.pocket r ∧ (∀ j : SlotNo, j ≠ i → w.pool[j] = v.pool[j]) ∧
      w.unit.seq =
        { v.unit.seq with
          work := workFrom i r v.unit.seq.profile v.unit.moist.valid
          history := [{ slot := i, ordinal := 1, eStart := kept, twistStart := 0, outcome := none }]
          activations := 1
          phaseTimer := 0
          confirm := 0 } ∧
      w.unit.moist.estimate = kept ∧ w.unit.moist.window.isSome = true ∧ w.unit.faults = v.unit.faults ∧
      w.unit.pins = v.unit.pins ∧ w.unit.drum.order = .runSegment ∧ w.unit.drum.twist = 0 ∧
      w.unit.drum.dir = v.unit.drum.dir ∧ w.unit.drum.table = v.unit.drum.table ∧
      w.unit.drum.segment = some { first := r.segFirst, last := r.segLast, cursor := r.segFirst } := by
  obtain ⟨hpool, hother, hseq, hestimate, hwindow, hkept, hpins, -, horder, htwist, hdir, htable, hsegment⟩ :=
    PocketView.enterSlot_does env i r (v.onUnit PocketUnit.freshRun)
  exact ⟨hpool, hother, hseq, hestimate, hwindow, hkept, hpins, horder, htwist, hdir, htable, hsegment⟩

/-- The checks 2 to 6 of START, passed (R26). -/
theorem State.startRefusal_none (hrun : (s.unit p).seq.run = .idle ∨ (s.unit p).seq.run = .done)
    (hconfigured : s.supply.configured = true) (hanchor : (s.unit p).seq.anchor ≠ none)
    (hfaults : (s.unit p).faults = FaultSet.none) (hdoor : (s.unit p).pins.door = true)
    (hcal : (s.unit p).moist.calibration = none) : s.startRefusal p = none := by
  have hidle : ¬((s.unit p).seq.run ≠ .idle ∧ (s.unit p).seq.run ≠ .done) := fun ⟨hi, hd⟩ => hrun.elim hi hd
  have hready : ¬(s.supply.configured = false ∨ (s.unit p).seq.anchor = none) := by simp [hconfigured, hanchor]
  have hempty : ¬((s.unit p).faults.isEmpty = false) := by rw [hfaults]; decide
  simp [State.startRefusal, hidle, hready, hempty, hdoor, hcal]

/-- Settles O12: the checks that pass, then the slot taken into use on a fresh run. -/
theorem startEntersRunning : Obligations.StartEntersRunning := by
  unfold Obligations.StartEntersRunning
  intro pb sb p i r s hp hi hrun hactive hconfigured hanchor hfaults hdoor hcal hcheck hquiet
  have hreleased : (s.view p).release p = s.view p := PocketView.release_of_inactive hactive p
  have hexec := exec_start_accepted hp hi (State.startRefusal_none hrun hconfigured hanchor hfaults hdoor hcal)
    (hreleased.symm ▸ hcheck)
  have hchain := PocketView.startChain_quiet (env := s.env p) (v := s.view p) hactive hquiet i r
  obtain ⟨hpool, hother, hseq, hestimate, hwindow, hkept, hpins, horder, htwist, hdir, htable, hsegment⟩ :=
    PocketView.started_does (s.env p) i r (s.view p)
  obtain ⟨hcount, hlimit⟩ := PocketView.started_counts (s.env p) i r (s.view p)
  have hagainst (dir : Dir) (hs : (s.unit p).drum.state = .stopping)
      (hmotion : (s.unit p).drum.table[r.segFirst].motion = .run dir) (hd : dir ≠ (s.unit p).drum.dir) :=
    PocketView.started_against (env := s.env p) (i := i) (v := s.view p) hs hmotion hd
  refine ⟨_, hexec, State.onPocket_reply_sameElsewhere .., fun j hj => ?_, State.onPocket_reply_link .., ?_, ?_⟩
  · simpa [hchain] using hother j hj
  · simpa [hchain] using hpool
  · simp only [State.reply_unit, State.onPocket_unit, hchain, PocketView.onUnit_unit, PocketUnit.checkHeat_seq,
      PocketUnit.checkHeat_drum, PocketUnit.checkHeat_moist, PocketUnit.checkHeat_faults, PocketUnit.checkHeat_pins,
      PocketUnit.freshMarks, hseq, hcount, hlimit, hestimate, hwindow, hkept, hpins, horder, htwist, hdir, htable, hsegment]
    simpa [workFrom] using hagainst

/-! ## PAUSE and the door (R38 to R40) -/

theorem exec_pause_accepted (hp : pocketOf b = some p) (hrun : (s.unit p).seq.run.drives = true) :
    exec (.pause b) s = .next ((s.onPocket p (PocketView.enterPaused (s.env p))).reply 0x11 .ok []) := by
  change Host.Outcome.next (reqPause b s) = _
  simp only [reqPause, hp]
  cases hr : (s.unit p).seq.run <;> simp [hr, RunState.drives] at hrun ⊢

/-- A pocket that drives its drum is PAUSED, the silence timer not expired (R38). -/
theorem PocketView.enterPaused_quiet {env : Env} {v : PocketView} (hrun : v.unit.seq.run.drives = true)
    (hquiet : env.silenceExpired = false) :
    (v.enterPaused env).pool = v.pool ∧ v.unit.PausedFrom (v.enterPaused env).unit ∧
      (v.enterPaused env).unit.pins = v.unit.pins := by
  obtain ⟨hstopped, hcount, -⟩ := v.unit.drum.suspend_stops
  rw [PocketView.enterPaused, PocketView.become_quiet hquiet]
  refine ⟨rfl, ?_, by simp [PocketUnit.abandonWindow]⟩
  have htarget : v.unit.seq.run.pauseTarget = if v.unit.seq.run = .safe then .safe else .running := by
    cases hr : v.unit.seq.run <;> simp [hr, RunState.drives, RunState.pauseTarget] at hrun ⊢
  unfold PocketUnit.PausedFrom
  simp [PocketUnit.abandonWindow, htarget, hstopped, hcount]
  exact PocketUnit.checkHeat_isOff (PocketUnit.hasPermission_of_not_running (by simp))

theorem exec_doorOpening_asserted (h : (s.unit p).pins.door = true) :
    exec (.doorOpening p) s = .next (s.onPocket p (PocketView.openDoor (s.env p))) := by
  change execDoorOpening p s = _
  rw [execDoorOpening, if_pos h]

/-- A door opening pauses a pocket that drives its drum (R39). -/
theorem PocketView.openDoor_of_drives {env : Env} {v : PocketView} (hrun : v.unit.seq.run.drives = true) :
    v.openDoor env = (v.onUnit (PocketUnit.setDoor false)).enterPaused env := by
  cases hr : v.unit.seq.run <;> simp [hr, RunState.drives] at hrun <;> simp [PocketView.openDoor, PocketUnit.setDoor, hr]

theorem PocketView.openDoor_of_paused {env : Env} {v : PocketView} (hrun : v.unit.seq.run = .paused) :
    v.openDoor env = v.onUnit fun u =>
      { u with pins := { u.pins with door := false }, seq := { u.seq with doorClosedFor := 0 } } := by
  simp [PocketView.openDoor, PocketUnit.setDoor, hrun, PocketView.onUnit]

theorem PocketView.openDoor_of_not_engaged {env : Env} {v : PocketView} (hrun : v.unit.seq.run.engaged = false) :
    v.openDoor env = v.onUnit (PocketUnit.setDoor false) := by
  cases hr : v.unit.seq.run <;> simp [hr, RunState.engaged] at hrun <;> simp [PocketView.openDoor, PocketUnit.setDoor, hr]

/-- A step of a pocket's sequencer that changes its own part alone. -/
theorem State.onPocket_onUnit {f : PocketView → PocketView} {g : PocketUnit → PocketUnit}
    (h : f (s.view p) = (s.view p).onUnit g) : s.onPocket p f = s.onUnit p g := by
  rw [State.onPocket, h]
  cases p <;> rfl

/-- A pocket that is as it is to be is not changed. -/
theorem State.onUnit_of_same {f : PocketUnit → PocketUnit} (h : f (s.unit p) = s.unit p) : s.onUnit p f = s := by
  rw [State.onUnit, h]
  cases p <;> rfl

/-- Settles O13: a pocket that drives its drum is paused alike by PAUSE and by the door. -/
theorem pauseAndDoorEnterPaused : Obligations.PauseAndDoorEnterPaused := by
  unfold Obligations.PauseAndDoorEnterPaused
  refine ⟨fun b p s hp hrun hquiet => ?pause, fun p s hdoor hrun hquiet => ?door, fun p s hdoor hrun => ?again,
    fun p s hdoor hrun => ?idle, fun p s => ?closing⟩
  case pause =>
    obtain ⟨hpool, hpaused, hpins⟩ := PocketView.enterPaused_quiet (env := s.env p) (v := s.view p) hrun hquiet
    exact ⟨_, exec_pause_accepted hp hrun, State.onPocket_reply_sameElsewhere .., by simpa using hpool,
      State.onPocket_reply_link .., by simpa using hpaused, by simpa using hpins⟩
  case door =>
    let v := (s.view p).onUnit (PocketUnit.setDoor false)
    obtain ⟨hpool, hpaused, hpins⟩ := PocketView.enterPaused_quiet (env := s.env p) (v := v) hrun hquiet
    refine ⟨_, exec_doorOpening_asserted hdoor, State.onPocket_sameElsewhere .., ?_⟩
    simp only [State.onPocket_pool, State.onPocket_link, State.onPocket_unit, PocketView.openDoor_of_drives
      (v := s.view p) hrun]
    refine ⟨hpool, trivial, hpaused, hpins, ?_⟩
    obtain ⟨hrun', -⟩ := hpaused
    rw [PocketUnit.fanOutput, show (v.enterPaused (s.env p)).unit.seq.run = .paused from hrun',
      show (v.enterPaused (s.env p)).unit.pins = _ from hpins]
    rfl
  case again =>
    rw [exec_doorOpening_asserted hdoor, State.onPocket_onUnit (PocketView.openDoor_of_paused hrun)]
  case idle =>
    rw [exec_doorOpening_asserted hdoor, State.onPocket_onUnit (PocketView.openDoor_of_not_engaged hrun)]
    rfl
  case closing =>
    change execDoorClosing p s = _
    unfold execDoorClosing
    split
    · next hdoor =>
      have hsame : s.onUnit p (PocketUnit.setDoor true) = s := State.onUnit_of_same (by rw [PocketUnit.setDoor, ← hdoor])
      exact congrArg Host.Outcome.next hsame.symm
    · rfl

end

end Sys2Proof.Machine
end

section
/-! ADVANCE and ABORT (2.4, 2.5): the chain's end, the slot that next names, and the safe chain. -/

namespace Sys2Proof.Machine

section
variable {s : State} {p : Pocket} {b : Byte} {v : PocketView} {env : Env} {i : SlotNo} {o : PhaseOutcome}

/-- No write races with a request (R200). -/
theorem State.view_vacate_env (s : State) (p : Pocket) (i : SlotNo) : (s.view p).vacate (s.env p) i = (s.view p).release p :=
  PocketView.vacate_of_no_race rfl ..

/-! ## The end of a chain -/

/-- An advance at END (R35): the slot is released, and the pocket is DONE. -/
theorem PocketView.advance_ends (hnext : v.unit.seq.work.next = none) (env : Env) :
    (v.advance env).pool = (v.release env.pocket).pool ∧
      (v.advance env).unit.seq =
        { v.unit.seq with
          run := .done, work := { v.unit.seq.work with active := none, quals := Quals.none }, safeBegun := false } ∧
      (v.advance env).unit.drum = v.unit.drum.discard ∧
      (v.advance env).unit.moist = { v.unit.moist with window := none } ∧ (v.advance env).unit.faults = v.unit.faults ∧
      (v.advance env).unit.notices = v.unit.notices.add .chainDone ∧ (v.advance env).unit.heat.IsOff := by
  obtain ⟨hpool, hseq, hdrum, hmoist, hfaults, hnotices, -, hheat⟩ :=
    PocketView.enterDone_does env (v.onUnit PocketUnit.clearQuals)
  rw [PocketView.advance_of_end hnext]
  exact ⟨hpool.trans (PocketView.release_pool_congr v.checksAs_clearQuals _), hseq, hdrum, hmoist, hfaults, hnotices, hheat⟩

/-- The pool after the release of slot `i`, which is ACTIVE in the pocket (R22). -/
theorem PocketView.release_of_active {r : PhaseRecord} (hactive : v.unit.seq.work.active = some i)
    (hslot : v.pool[i] = .active p r) :
    (v.release p).pool[i] = .loaded r ∧ ∀ j : SlotNo, j ≠ i → (v.release p).pool[j] = v.pool[j] := by
  obtain ⟨-, hother, hreleased⟩ := v.release_does p
  refine ⟨?_, fun j hj => hother j ?_⟩
  · rw [hreleased i hactive, hslot]
    simp [Slot.releasedBy]
  · rw [hactive]
    exact fun h => hj (Option.some.inj h).symm

theorem exec_advance_held (hp : pocketOf b = some p) (hrun : (s.unit p).seq.run = .held) :
    exec (.advance b) s = .next ((s.onPocket p (PocketView.advance (s.env p))).reply 0x13 .ok []) := by
  change Host.Outcome.next (reqAdvance b s) = _
  simp only [reqAdvance, hp, hrun]

theorem exec_advance_evaluates (hp : pocketOf b = some p) (hrun : (s.unit p).seq.run = .running ∨ (s.unit p).seq.run = .safe) :
    exec (.advance b) s = .next ((s.onPocket p (PocketView.skip (s.env p))).reply 0x13 .ok []) := by
  change Host.Outcome.next (reqAdvance b s) = _
  rcases hrun with hrun | hrun <;> simp only [reqAdvance, hp, hrun]

theorem RunState.drives_iff (r : RunState) : r.drives = true ↔ r = .held ∨ r = .running ∨ r = .safe := by
  cases r <;> simp [RunState.drives]

/-- A close changes neither what an advance reads nor the pocket's slot. -/
theorem PocketUnit.closePhase_work (o : PhaseOutcome) (u : PocketUnit) : (u.closePhase o).seq.work = u.seq.work := by simp

/-- Settles O16: the close of an open phase, none in HELD, and the advance at END. -/
theorem advanceAtEndEntersDone : Obligations.AdvanceAtEndEntersDone := by
  unfold Obligations.AdvanceAtEndEntersDone
  intro b p i r c s hp hrun hnext hactive hslot hc
  obtain ⟨hloaded, hothers⟩ := PocketView.release_of_active (v := s.view p) hactive hslot
  obtain hrun | hrun := (RunState.drives_iff _).mp hrun
  · obtain ⟨hpool, hseq, hdrum, hmoist, hfaults, hnotices, hheat⟩ :=
      PocketView.advance_ends (v := s.view p) hnext (s.env p)
    obtain ⟨hstopped, hsegment, -⟩ := (s.unit p).drum.discard_stops
    refine ⟨_, exec_advance_held hp hrun, State.onPocket_reply_sameElsewhere .., fun j hj => ?_, ?_,
      State.onPocket_reply_link .., ?_⟩
    · rw [State.reply_pool, State.onPocket_pool, hpool]; exact hothers j hj
    · rw [State.reply_pool, State.onPocket_pool, hpool]; exact hloaded
    · simp [hseq, hdrum, hmoist, hfaults, hnotices, hheat, hstopped, hsegment, hrun, NoticeSet.add]
  · have hne : (s.unit p).seq.run ≠ .held := by rcases hrun with h | h <;> simp [h]
    obtain ⟨hpool, hseq, hdrum, hmoist, hfaults, hnotices, hheat⟩ := PocketView.advance_ends
      (v := (s.view p).onUnit (PocketUnit.closePhase .skipped)) (by simpa using hnext) (s.env p)
    have hpool := hpool.trans (PocketView.release_pool_congr (PocketView.checksAs_closePhase .skipped (s.view p)) _)
    obtain ⟨hstopped, hsegment, -⟩ := (s.unit p).drum.discard_stops
    have hclosed (hopen : c.outcome = none) := PocketUnit.closePhase_closes hc
      (Sequencer.closable_of_newest hc (.inl hopen)) .skipped
    refine ⟨_, exec_advance_evaluates hp hrun, State.onPocket_reply_sameElsewhere .., fun j hj => ?_, ?_,
      State.onPocket_reply_link .., ?_⟩
    · rw [State.reply_pool, State.onPocket_pool]; exact (congrArg (·[j]) hpool).trans (hothers j hj)
    · rw [State.reply_pool, State.onPocket_pool]; exact (congrArg (·[i]) hpool).trans hloaded
    · simp only [State.reply_unit, State.onPocket_unit, PocketView.skip, hseq, hdrum, hmoist, hfaults, hnotices,
        PocketView.onUnit_unit, State.view_unit, PocketUnit.closePhase_drum, PocketUnit.closePhase_faults,
        true_and, and_true]
      exact ⟨rfl, fun _ hopen => hclosed hopen, fun h => absurd h hne, hstopped, hsegment, hheat⟩

/-! ## The slot that next names -/

/-- What an advance leaves whose activation passes and which reports nothing: it keeps the run state, or comes from HELD or
PAUSED with the silence timer not expired (R35, R203). -/
theorem PocketView.advance_enters {r : PhaseRecord} (hnext : v.unit.seq.work.next = some i)
    (hquiet : env.silenceExpired = false ∨ v.unit.seq.run = .running ∨ v.unit.seq.run = .safe)
    (hcheck : (v.vacate env i).check i = .ok r) :
    v.advance env = ((v.leaving env i).enterSlot env i r).onUnit fun u =>
      PocketUnit.checkHeat
        { u with seq := { u.seq with run := if v.unit.seq.run = .safe then .safe else .running } } := by
  have hn : (v.onUnit PocketUnit.clearQuals).unit.seq.work.next = some i := hnext
  rw [← v.leaving_check] at hcheck
  obtain ⟨-, -, hseq, -⟩ := PocketView.enterSlot_does env i r (v.leaving env i)
  have hsame : ((v.leaving env i).enterSlot env i r).unit.seq.run = v.unit.seq.run := by
    rw [hseq, PocketView.leaving_unit]
  simp only [PocketView.advance, hn, PocketView.activate_of_check hcheck]
  split
  · exact PocketView.become_unreported (.inr (.inr rfl))
  · next hsafe =>
    refine PocketView.become_unreported (hquiet.imp_right fun h => .inl ?_)
    exact hsame.trans (h.resolve_right hsafe)

/-- The same in the terms of the statements. -/
theorem PocketView.advance_enters_does {r : PhaseRecord} (hnext : v.unit.seq.work.next = some i)
    (hquiet : env.silenceExpired = false ∨ v.unit.seq.run = .running ∨ v.unit.seq.run = .safe)
    (hcheck : (v.vacate env i).check i = .ok r) :
    let w := v.advance env
    w.pool[i] = .active env.pocket r ∧
      w.unit.seq = { v.unit.seq with
        run := if v.unit.seq.run = .safe then .safe else .running
        work := workFrom i r v.unit.seq.profile v.unit.moist.valid
        history := pushHistory v.unit.seq.history
          { slot := i, ordinal := min 65535 (v.unit.seq.activations + 1),
            eStart := if r.quals.keepEstimate then v.unit.moist.estimate else none, twistStart := v.unit.drum.twist,
            outcome := none }
        activations := min 65535 (v.unit.seq.activations + 1), phaseTimer := 0, confirm := 0 } ∧
      w.unit.drum.order = .runSegment ∧ w.unit.drum.twist = v.unit.drum.twist ∧ w.unit.drum.dir = v.unit.drum.dir ∧
      w.unit.drum.segment = some { first := r.segFirst, last := r.segLast, cursor := r.segFirst } ∧
      w.unit.moist.window.isSome = true ∧ w.unit.faults = v.unit.faults := by
  dsimp only
  obtain ⟨hpool, -, hseq, -, hwindow, hfaults, -, -, horder, htwist, hdir, -, hsegment⟩ :=
    PocketView.enterSlot_does env i r (v.leaving env i)
  rw [PocketView.leaving_unit] at hseq hfaults htwist hdir
  rw [PocketView.advance_enters hnext hquiet hcheck]
  simp only [PocketView.onUnit_unit, PocketUnit.checkHeat_seq, PocketUnit.checkHeat_drum, PocketUnit.checkHeat_moist,
    PocketUnit.checkHeat_faults, hseq, hfaults, htwist, hdir, true_and, and_true]
  exact ⟨hpool, rfl, horder, hsegment, hwindow⟩

/-! ## Failed activations -/

theorem PocketView.chainHalt_activations (env : Env) (v : PocketView) :
    (v.chainHalt env).unit.seq.activations = v.unit.seq.activations := by
  rw [(v.chainHalt_does env).1]

/-- A pocket that halts for want of an anchor keeps its activation count. -/
theorem PocketView.enterSafe_halts_activations
    (h : v.unit.seq.anchor = none ∨ ∃ a e, v.unit.seq.anchor = some a ∧ (v.vacate env a).check a = .error e) :
    (v.enterSafe env).unit.seq.activations = v.unit.seq.activations := by
  rcases h with hnone | ⟨a, e, ha, hcheck⟩
  · have hanchor : (v.onUnit PocketUnit.clearQuals).unit.seq.anchor = none := hnone
    simp only [PocketView.enterSafe, hanchor]
    exact PocketView.chainHalt_activations ..
  · have hanchor : (v.onUnit PocketUnit.clearQuals).unit.seq.anchor = some a := ha
    rw [← v.checksAs_clearQuals.vacate_check env a a] at hcheck
    simp only [PocketView.enterSafe, hanchor, PocketView.activate_of_check_fails hcheck]
    rw [PocketView.chainHalt_activations]
    simp [PocketUnit.clearQuals]

/-- The pocket that enters SAFE after a failed advance: released, with CHAIN latched. -/
def PocketView.stranded (env : Env) (i : SlotNo) (v : PocketView) : PocketView :=
  (v.leaving env i).onUnit (PocketUnit.latch .chain)

/-- What the anchor's activation sees after a failed one (entry 23). -/
theorem PocketView.stranded_check (env : Env) (i a : SlotNo) (v : PocketView) :
    ((v.stranded env i).vacate env a).check a = (v.vacate env i).check a := by
  have hactive : (v.stranded env i).unit.seq.work.active = none := by simp [PocketView.stranded, PocketView.leaving_unit]
  rw [PocketView.vacate_of_inactive hactive, ← PocketView.leaving_check]
  exact PocketView.check_congr (v := v.leaving env i) (w := v.stranded env i) rfl (by simp [PocketView.stranded]) a

/-- A failed advance that halts the pocket discards its segment and counts no activation (R35, R47). -/
theorem PocketView.advance_halts {e : ActivationFailure} (hnext : v.unit.seq.work.next = some i)
    (hcheck : (v.vacate env i).check i = .error e)
    (h : v.unit.seq.run = .safe ∨ v.unit.seq.anchor = none ∨
      ∃ a e, v.unit.seq.anchor = some a ∧ (v.vacate env i).check a = .error e) :
    (v.advance env).unit.drum = v.unit.drum.discard ∧
      (v.advance env).unit.seq.activations = v.unit.seq.activations := by
  by_cases hrun : v.unit.seq.run = .safe
  · rw [PocketView.advance_fails_of_safe hnext hrun hcheck, PocketView.chainHalt_activations,
      (PocketView.chainHalt_halts env _).drum, PocketView.leaving_unit]
    exact ⟨rfl, rfl⟩
  · have hfails : (v.stranded env i).unit.seq.anchor = none ∨
        ∃ a e, (v.stranded env i).unit.seq.anchor = some a ∧ ((v.stranded env i).vacate env a).check a = .error e := by
      have hanchor : (v.stranded env i).unit.seq.anchor = v.unit.seq.anchor := by
        simp [PocketView.stranded, PocketView.leaving_unit]
      rw [hanchor]
      simpa only [PocketView.stranded_check] using h.resolve_left hrun
    have hadvance : v.advance env = (v.stranded env i).enterSafe env :=
      PocketView.advance_fails_of_not_safe hnext hrun hcheck
    rw [hadvance, PocketView.enterSafe_halts_activations hfails, (PocketView.enterSafe_halts hfails).drum]
    simp [PocketView.stranded, PocketView.leaving_unit]

/-! ## ADVANCE along next -/

/-- ADVANCE is the advance of the pocket's chain, its phase closed first where it is not HELD (R36): what the advance reads of
the pocket is as before the close. -/
theorem exec_advance_drives (hp : pocketOf b = some p) (hrun : (s.unit p).seq.run.drives = true) :
    ∃ v : PocketView, exec (.advance b) s = .next ((s.onPocket p fun _ => v.advance (s.env p)).reply 0x13 .ok []) ∧
      (s.view p).ChecksAs v ∧ v.unit.seq = { (s.unit p).seq with history := v.unit.seq.history } ∧
      v.unit.faults = (s.unit p).faults ∧ v.unit.moist.valid = (s.unit p).moist.valid ∧
      v.unit.moist.estimate = (s.unit p).moist.estimate := by
  obtain hrun | hrun := (RunState.drives_iff _).mp hrun
  · exact ⟨s.view p, exec_advance_held hp hrun, ⟨rfl, rfl, rfl, rfl⟩, rfl, rfl, rfl, rfl⟩
  · exact ⟨(s.view p).onUnit (PocketUnit.closePhase .skipped), exec_advance_evaluates hp hrun,
      PocketView.checksAs_closePhase .skipped _, by simp, by simp, by simp, by simp⟩

/-- Settles O17: the advance whose activation fails, into SAFE or HALTED, and the one that passes. -/
theorem advanceActivatesNextSlot : Obligations.AdvanceActivatesNextSlot := by
  unfold Obligations.AdvanceActivatesNextSlot
  refine ⟨fun b p i e s hp hrun hnext hcheck => ?fails, fun b p i r s hp hrun hnext hcheck hquiet => ?passes⟩
  case fails =>
    obtain ⟨v, hexec, hv, hseq, hfaults, -⟩ := exec_advance_drives hp hrun
    have hsees (a : SlotNo) : (v.vacate (s.env p) i).check a = ((s.view p).release p).check a := by
      rw [hv.vacate_check, State.view_vacate_env]
    have hdrum : v.unit.drum = (s.unit p).drum := hv.drum
    have hnext' : v.unit.seq.work.next = some i := by rw [hseq]; exact hnext
    have hfailed := PocketView.advance_fails hnext' ((hsees i).trans hcheck)
    refine ⟨fun hsafe a r ha hr => ?_, fun h => ?_⟩
    · obtain ⟨hrun, hbegun, hactive, hslot⟩ := hfailed.safe a r (by rwa [hseq]) (by rwa [hseq]) ((hsees a).trans hr)
      refine ⟨_, hexec, State.onPocket_reply_sameElsewhere .., State.onPocket_reply_link .., ?_⟩
      simp only [State.reply_unit, State.onPocket_unit, State.reply_pool, State.onPocket_pool]
      exact ⟨hrun, hbegun, hactive, hslot, hfaults ▸ hfailed.faults, hfaults ▸ hfailed.notice, hfailed.heat,
        hdrum ▸ hfailed.twist⟩
    · have h : v.unit.seq.run = .safe ∨ v.unit.seq.anchor = none ∨
          ∃ a e, v.unit.seq.anchor = some a ∧ (v.vacate (s.env p) i).check a = .error e := by
        rw [hseq]
        simpa only [hsees] using h
      obtain ⟨hrun, hbegun, hactive, hfan, -⟩ := hfailed.halted h
      obtain ⟨hdiscard, hcount⟩ := PocketView.advance_halts hnext' ((hsees i).trans hcheck) h
      rw [hdrum] at hdiscard
      rw [hseq] at hcount
      refine ⟨_, hexec, State.onPocket_reply_sameElsewhere .., State.onPocket_reply_link .., ?_⟩
      simp only [State.reply_unit, State.onPocket_unit]
      exact ⟨hrun, hbegun, hactive, hfaults ▸ hfailed.faults, hfaults ▸ hfailed.notice, hfan,
        hdiscard ▸ (Drum.discard_stops _).1, hfailed.heat, hcount⟩
  case passes =>
    obtain ⟨v, hexec, hv, hseq, hfaults, hvalid, hestimate⟩ := exec_advance_drives hp hrun
    have hdrum : v.unit.drum = (s.unit p).drum := hv.drum
    have hnext' : v.unit.seq.work.next = some i := by rw [hseq]; exact hnext
    have hcheck' : (v.vacate (s.env p) i).check i = .ok r := by rwa [hv.vacate_check, State.view_vacate_env]
    have hquiet' : (s.env p).silenceExpired = false ∨ v.unit.seq.run = .running ∨ v.unit.seq.run = .safe := by
      rw [hseq]
      exact hquiet.imp_right fun h => ((RunState.drives_iff _).mp hrun).resolve_left h
    obtain ⟨hpool, hafter, horder, htwist, hdir, hsegment, hwindow, hkept⟩ :=
      PocketView.advance_enters_does hnext' hquiet' hcheck'
    refine ⟨_, hexec, State.onPocket_reply_sameElsewhere .., State.onPocket_reply_link .., ?_⟩
    simp only [State.reply_unit, State.onPocket_unit, State.reply_pool, State.onPocket_pool, hafter, Sequencer.newest,
      pushHistory_getLast?, true_and]
    rw [hseq, hvalid, hestimate, hdrum]
    exact ⟨hpool, rfl, rfl, rfl, rfl, horder, hdrum ▸ htwist, hsegment, hwindow, hfaults ▸ hkept, hdrum ▸ hdir⟩

/-! ## ABORT (R37) -/

theorem exec_abort_entersSafe (hp : pocketOf b = some p) (hrun : (s.unit p).seq.run = .running ∨ (s.unit p).seq.run = .held) :
    exec (.abort b) s = .next ((s.onPocket p (PocketView.abort (s.env p))).reply 0x15 .ok []) := by
  change Host.Outcome.next (reqAbort b s) = _
  rcases hrun with hrun | hrun <;> simp only [reqAbort, hp, hrun]

theorem exec_abort_retargets (hp : pocketOf b = some p) (hrun : (s.unit p).seq.run = .paused)
    (htarget : (s.unit p).seq.resumeTarget = .running) :
    exec (.abort b) s = .next ((s.onUnit p (PocketUnit.retargetSafe .aborted)).reply 0x15 .ok []) := by
  change Host.Outcome.next (reqAbort b s) = _
  simp only [reqAbort, hp, hrun, htarget]

/-- A close of a phase whose checkpoint is `c`, and the entry into SAFE that follows, leave the outcome in the history and
PHASE_END raised. -/
theorem PocketView.enterSafe_closed {c : Checkpoint} (hc : v.unit.seq.newest = some c) (hclose : v.unit.seq.closable = true)
    (o : PhaseOutcome) (env : Env) :
    let w := PocketView.enterSafe env (v.onUnit (PocketUnit.closePhase o))
    w.unit.notices.phaseEnd = true ∧ { c with outcome := some o } ∈ w.unit.seq.history ∧
      (w.unit.seq.run = .halted → w.unit.seq.newest = some { c with outcome := some o }) := by
  obtain ⟨hnewest, hend⟩ := PocketUnit.closePhase_closes hc hclose o
  have hkeeps := PocketUnit.KeepsReports.enterSafe (v := v.onUnit (PocketUnit.closePhase o)) (.refl _) env
  obtain ⟨hmem, hhalted⟩ := PocketView.enterSafe_history (env := env) (v := v.onUnit (PocketUnit.closePhase o)) hnewest
  exact ⟨hkeeps.notices .phaseEnd hend, hmem, hhalted⟩

/-- Settles O18: the close and the entry into SAFE, and the retarget of a PAUSED pocket. -/
theorem abortEntersSafeOrHalts : Obligations.AbortEntersSafeOrHalts := by
  unfold Obligations.AbortEntersSafeOrHalts
  refine ⟨fun b p c s hp hrun hc hopen => ?enters, fun b p c s hp hrun htarget hc hopen => ?retargets⟩
  case enters =>
    have hexec := exec_abort_entersSafe hp hrun
    let v := (s.view p).onUnit (PocketUnit.closePhase .aborted)
    have hentered : s.EnteredSafe ((s.onPocket p (PocketView.abort (s.env p))).reply 0x15 .ok []) p (s.env p) v.unit.faults :=
      State.enteredSafe_of_enterSafe (v := v) rfl (PocketView.checksAs_closePhase .aborted _)
        (by simp [v]) (State.onPocket_pool ..)
        ((State.reply_unit ..).trans (State.onPocket_unit ..))
    obtain ⟨hend, hmem, hnewest⟩ := PocketView.enterSafe_closed (v := s.view p) hc
      (Sequencer.closable_of_newest hc (hopen.imp_right .inl)) .aborted (s.env p)
    obtain ⟨hheat, htwist, hpasses, hhalts⟩ := hentered
    simp only [State.view_vacate_env] at hpasses hhalts
    refine ⟨fun a r ha hr => ?_, fun h => ?_⟩
    · obtain ⟨hrun, hbegun, hactive, hslot, hfaults⟩ := hpasses a r ha hr
      exact ⟨_, hexec, State.onPocket_reply_sameElsewhere .., State.onPocket_reply_link .., hrun, hbegun, hactive, hslot,
        by simpa [PocketView.abort] using hend, by simpa [PocketView.abort] using hmem, hheat, hfaults.trans (by simp [v]), htwist⟩
    · obtain ⟨hrun, -, hactive, hfan, hstopped, hfaults, -⟩ := hhalts h
      refine ⟨_, hexec, State.onPocket_reply_sameElsewhere .., State.onPocket_reply_link .., hrun, ?_, hactive, ?_, hfan,
        hstopped, hheat⟩
      · rw [hfaults]; rfl
      · simp only [State.reply_unit, State.onPocket_unit] at hrun ⊢
        exact hnewest hrun
  case retargets =>
    obtain ⟨hnewest, hend⟩ := PocketUnit.closePhase_closes hc
      (Sequencer.closable_of_newest hc (hopen.imp_right fun h => .inr ⟨hrun, h⟩)) .aborted
    refine ⟨_, exec_abort_retargets hp hrun htarget, by simp [State.SameElsewhere], by simp,
      State.reply_link_congr (by simp) .., ?_⟩
    simp only [State.reply_unit, State.onUnit_unit]
    exact ⟨by simp [PocketUnit.retargetSafe, hrun], rfl, rfl, rfl, hnewest, hend, by simp [PocketUnit.retargetSafe],
      by simp [PocketUnit.retargetSafe]⟩

end

end Sys2Proof.Machine
end

section
/-! RESUME (2.7) and the unattended count's end: the phase continued, the safe chain, the retry and the abandonment. -/

namespace Sys2Proof.Machine

section
variable {s : State} {p : Pocket} {b : Byte} {v : PocketView} {env : Env} {i : SlotNo} {o : PhaseOutcome}

theorem exec_resume_accepted (hp : pocketOf b = some p) (hrun : (s.unit p).seq.run = .paused)
    (hdoor : (s.unit p).pins.door = true) :
    exec (.resume b) s = .next ((s.onPocket p (PocketView.resume (s.env p))).reply 0x12 .ok []) := by
  change Host.Outcome.next (reqResume b s) = _
  simp only [reqResume, hp, hrun, hdoor, ne_eq, not_true_eq_false, if_false, Bool.true_eq_false]

/-! ## The cases of a resume (R41) -/

theorem PocketView.resume_of_safe (h : v.unit.seq.resumeTarget = .safe) (env : Env) :
    v.resume env = (v.onUnit PocketUnit.leavePause).resumeToSafe env := by
  simp only [PocketView.resume, PocketView.onUnit_unit, PocketUnit.leavePause, h]

theorem PocketView.resume_of_held (h : v.unit.seq.resumeTarget = .running) (hheld : v.unit.seq.held = true) (env : Env) :
    v.resume env =
      ((v.onUnit PocketUnit.leavePause).onUnit fun u => { u with seq := { u.seq with held := false } }).continueIn env .held := by
  simp only [PocketView.resume, PocketView.onUnit_unit, PocketUnit.leavePause, h, hheld, if_true]

theorem PocketView.resume_within (h : v.unit.seq.resumeTarget = .running) (hheld : v.unit.seq.held = false)
    (hlimit : v.unit.seq.restored = true ∨ v.unit.seq.pauseSeconds ≤ env.resumeLimit) :
    v.resume env =
      ((v.onUnit PocketUnit.leavePause).onUnit fun u => { u with seq := { u.seq with restored := false } }).continueIn env
        .running := by
  have hwithin : v.unit.leavePause.seq.restored = true ∨ v.unit.leavePause.seq.pauseSeconds ≤ env.resumeLimit := hlimit
  have hheld : v.unit.leavePause.seq.held = false := hheld
  have h : v.unit.leavePause.seq.resumeTarget = .running := h
  simp only [PocketView.resume, PocketView.onUnit_unit, h, hheld, Bool.false_eq_true, if_false]
  exact if_pos hwithin

/-- A resume after a pause longer than the limit (R44, R61). -/
theorem PocketView.resume_past (h : v.unit.seq.resumeTarget = .running) (hheld : v.unit.seq.held = false)
    (hrestored : v.unit.seq.restored = false) (hlimit : env.resumeLimit < v.unit.seq.pauseSeconds) :
    v.resume env =
      if v.unit.seq.work.quals.retryAllowed then (v.onUnit PocketUnit.leavePause).retry env
      else PocketView.advance env ((v.onUnit PocketUnit.leavePause).onUnit (PocketUnit.closePhase .abandoned)) := by
  have hpast : ¬(v.unit.leavePause.seq.restored = true ∨ v.unit.leavePause.seq.pauseSeconds ≤ env.resumeLimit) := by
    rintro (h | h)
    · exact absurd (hrestored.symm.trans h) (by simp)
    · exact absurd hlimit (Nat.not_lt.mpr h)
  have hheld : v.unit.leavePause.seq.held = false := hheld
  have h : v.unit.leavePause.seq.resumeTarget = .running := h
  simp only [PocketView.resume, PocketView.onUnit_unit, h, hheld, Bool.false_eq_true, if_false]
  exact if_neg hpast

/-! ## The phase continued (R42, R43, R45) -/

theorem PocketView.continueIn_does {st : RunState}
    (h : env.silenceExpired = false ∨ v.unit.seq.run = st ∨ st.linkWatched = false) :
    let w := v.continueIn env st
    w.pool = v.pool ∧ w.unit.seq = { v.unit.seq with run := st } ∧
      w.unit.moist = { v.unit.moist with
        window := some { length := v.unit.seq.work.dry.window * 100000, elapsed := 0, turning := 0, totalTicks := 0,
                         weighted := 0 } } ∧
      w.unit.faults = v.unit.faults ∧ w.unit.drum.order = .runSegment ∧ w.unit.drum.segment = v.unit.drum.segment ∧
      w.unit.drum.twist = v.unit.drum.twist ∧ w.unit.drum.dir = v.unit.drum.dir := by
  obtain ⟨hseq, hmoist, hfaults, -, -, -, horder, htwist, hdir, hsegment⟩ :=
    PocketUnit.resumeEntry_keeps env.reserveCycles v.unit
  dsimp only
  rw [PocketView.continueIn, PocketView.become_unreported (by
    rw [PocketView.onUnit_unit, PocketUnit.alignWindow, hseq]
    exact h)]
  simp only [PocketView.onUnit_pool, PocketView.onUnit_unit, PocketUnit.checkHeat_seq, PocketUnit.checkHeat_moist,
    PocketUnit.checkHeat_faults, PocketUnit.checkHeat_drum, PocketUnit.alignWindow, hseq, hmoist, hfaults, true_and]
  exact ⟨horder, hsegment, htwist, hdir⟩

/-! ## The safe chain entered (R47) -/

/-- The sequencer after an entry into SAFE at an anchor whose activation passes. -/
theorem PocketView.enterSafe_seq {a : SlotNo} {r : PhaseRecord} (ha : v.unit.seq.anchor = some a)
    (hcheck : (v.vacate env a).check a = .ok r) :
    (v.enterSafe env).unit.seq.phaseTimer = 0 ∧ (v.enterSafe env).unit.seq.unattended = v.unit.seq.unattended := by
  obtain ⟨-, -, hseq, -⟩ := PocketView.enterSlot_does env a r ((v.onUnit PocketUnit.clearQuals).vacate env a)
  rw [PocketView.enterSafe_of_check ha hcheck]
  simp [PocketUnit.becomeSafe, hseq, PocketUnit.clearQuals]

theorem PocketView.chainHalt_unattended (env : Env) (v : PocketView) : (v.chainHalt env).unit.seq.unattended = false := by
  rw [(v.chainHalt_does env).1]

/-- Entry into SAFE does not mark a pocket unattended. -/
theorem PocketView.enterSafe_unattended (h : v.unit.seq.unattended = false) (env : Env) :
    (v.enterSafe env).unit.seq.unattended = false := by
  rcases v.anchor_cases env with ⟨a, r, ha, hcheck⟩ | hnone | ⟨a, e, ha, hcheck⟩
  · exact (PocketView.enterSafe_seq ha hcheck).2.trans h
  · have hanchor : (v.onUnit PocketUnit.clearQuals).unit.seq.anchor = none := hnone
    simp only [PocketView.enterSafe, hanchor]
    exact PocketView.chainHalt_unattended ..
  · have hanchor : (v.onUnit PocketUnit.clearQuals).unit.seq.anchor = some a := ha
    rw [← v.checksAs_clearQuals.vacate_check env a a] at hcheck
    simp only [PocketView.enterSafe, hanchor, PocketView.activate_of_check_fails hcheck]
    exact PocketView.chainHalt_unattended ..

theorem PocketView.checksAs_leavePause (v : PocketView) : v.ChecksAs (v.onUnit PocketUnit.leavePause) := ⟨rfl, rfl, rfl, rfl⟩

theorem PocketView.resumeToSafe_begun (h : v.unit.seq.safeBegun = true) (env : Env) :
    v.resumeToSafe env = v.continueIn env .safe := by
  rw [PocketView.resumeToSafe, if_pos h]

theorem PocketView.resumeToSafe_enters (h : v.unit.seq.safeBegun = false) (env : Env) :
    v.resumeToSafe env = v.enterSafe env := by
  rw [PocketView.resumeToSafe, if_neg (by simp [h])]

/-- A resume to a safe chain that has not begun is an entry into SAFE. -/
theorem State.enteredSafe_of_resume {t : State} {env : Env} (henv : env.pocket = p)
    (hpool : t.pool = (((s.view p).onUnit PocketUnit.leavePause).enterSafe env).pool)
    (hunit : t.unit p = (((s.view p).onUnit PocketUnit.leavePause).enterSafe env).unit) :
    s.EnteredSafe t p env (s.unit p).faults ∧ (t.unit p).seq.unattended = false := by
  refine ⟨State.enteredSafe_of_enterSafe (v := (s.view p).onUnit PocketUnit.leavePause) henv
    (PocketView.checksAs_leavePause _) rfl hpool hunit, ?_⟩
  rw [hunit]
  exact PocketView.enterSafe_unattended rfl env

/-- Settles O14: the return to SAFE, the entry into it, and the phase that goes on. -/
theorem resumeContinues : Obligations.ResumeContinues := by
  unfold Obligations.ResumeContinues
  refine ⟨fun b p s hp hrun hdoor htarget => ⟨fun hbegun => ?begun, fun hnot => ⟨fun a r ha hr => ?enters, fun h => ?halts⟩⟩,
    fun b p s hp hrun hdoor htarget hquiet hlimit => ?continues⟩
  case begun =>
    have hexec := exec_resume_accepted hp hrun hdoor
    have hresume : (s.view p).resume (s.env p) = ((s.view p).onUnit PocketUnit.leavePause).continueIn (s.env p) .safe := by
      rw [PocketView.resume_of_safe htarget, PocketView.resumeToSafe_begun hbegun]
    obtain ⟨hpool, hseq, hmoist, hfaults, horder, hsegment, -⟩ := PocketView.continueIn_does (env := s.env p)
      (v := (s.view p).onUnit PocketUnit.leavePause) (st := .safe) (.inr (.inr rfl))
    refine ⟨_, hexec, State.onPocket_reply_sameElsewhere .., ?_, State.onPocket_reply_link .., ?_⟩
    · rw [State.reply_pool, State.onPocket_pool, hresume, hpool]; rfl
    · simp only [State.reply_unit, State.onPocket_unit, hresume, hseq, hmoist, hfaults, true_and]
      exact ⟨rfl, hbegun, rfl, rfl, rfl, rfl, horder, hsegment, rfl, rfl⟩
  case enters =>
    have hexec := exec_resume_accepted hp hrun hdoor
    have hresume : (s.view p).resume (s.env p) = ((s.view p).onUnit PocketUnit.leavePause).enterSafe (s.env p) := by
      rw [PocketView.resume_of_safe htarget, PocketView.resumeToSafe_enters hnot]
    obtain ⟨⟨hheat, -, hpasses, -⟩, hunattended⟩ := State.enteredSafe_of_resume (s := s) (p := p) (env := s.env p)
      (t := (s.onPocket p (PocketView.resume (s.env p))).reply 0x12 .ok []) rfl (by simp [hresume]) (by simp [hresume])
    simp only [State.view_vacate_env] at hpasses
    obtain ⟨hsafe, hbegun, hactive, hslot, hfaults⟩ := hpasses a r ha hr
    obtain ⟨htimer, -⟩ := PocketView.enterSafe_seq (env := s.env p) (v := (s.view p).onUnit PocketUnit.leavePause) ha
      (by rwa [(PocketView.checksAs_leavePause _).vacate_check, State.view_vacate_env])
    refine ⟨_, hexec, State.onPocket_reply_sameElsewhere .., State.onPocket_reply_link .., hsafe, hbegun, hunattended, hactive,
      hslot, ?_, hheat, hfaults⟩
    rw [State.reply_unit, State.onPocket_unit, hresume]
    exact htimer
  case halts =>
    have hexec := exec_resume_accepted hp hrun hdoor
    have hresume : (s.view p).resume (s.env p) = ((s.view p).onUnit PocketUnit.leavePause).enterSafe (s.env p) := by
      rw [PocketView.resume_of_safe htarget, PocketView.resumeToSafe_enters hnot]
    obtain ⟨⟨hheat, -, -, hhalts⟩, -⟩ := State.enteredSafe_of_resume (s := s) (p := p) (env := s.env p)
      (t := (s.onPocket p (PocketView.resume (s.env p))).reply 0x12 .ok []) rfl (by simp [hresume]) (by simp [hresume])
    simp only [State.view_vacate_env] at hhalts
    obtain ⟨hhalted, -, hactive, -, hstopped, hfaults, -⟩ := hhalts h
    exact ⟨_, hexec, State.onPocket_reply_sameElsewhere .., State.onPocket_reply_link .., hhalted, hfaults, hactive, hheat,
      hstopped⟩
  case continues =>
    have hexec := exec_resume_accepted hp hrun hdoor
    cases hheld : (s.unit p).seq.held
    · have hresume := PocketView.resume_within (v := s.view p) (env := s.env p) htarget hheld
        (hlimit.resolve_left (by simp [hheld]))
      obtain ⟨hpool, hseq, hmoist, hfaults, horder, hsegment, htwist, hdir⟩ := PocketView.continueIn_does (env := s.env p)
        (v := ((s.view p).onUnit PocketUnit.leavePause).onUnit fun u => { u with seq := { u.seq with restored := false } })
        (st := .running) (.inl hquiet)
      refine ⟨_, hexec, State.onPocket_reply_sameElsewhere .., ?_, State.onPocket_reply_link .., ?_⟩
      · rw [State.reply_pool, State.onPocket_pool, hresume, hpool]; rfl
      · simp only [State.reply_unit, State.onPocket_unit, hresume, hseq, hmoist, hfaults]
        exact ⟨rfl, hheld, fun _ => rfl, rfl, rfl, rfl, rfl, rfl, rfl, rfl, horder, hsegment, htwist, hdir, rfl, rfl⟩
    · have hresume := PocketView.resume_of_held (v := s.view p) htarget hheld (s.env p)
      obtain ⟨hpool, hseq, hmoist, hfaults, horder, hsegment, htwist, hdir⟩ := PocketView.continueIn_does (env := s.env p)
        (v := ((s.view p).onUnit PocketUnit.leavePause).onUnit fun u => { u with seq := { u.seq with held := false } })
        (st := .held) (.inl hquiet)
      refine ⟨_, hexec, State.onPocket_reply_sameElsewhere .., ?_, State.onPocket_reply_link .., ?_⟩
      · rw [State.reply_pool, State.onPocket_pool, hresume, hpool]; rfl
      · simp only [State.reply_unit, State.onPocket_unit, hresume, hseq, hmoist, hfaults]
        exact ⟨rfl, rfl, fun hcontra => absurd hcontra (by simp), rfl, rfl, rfl, rfl, rfl, rfl, rfl, horder, hsegment, htwist, hdir, rfl, rfl⟩

/-- Settles O21: the unattended resume goes the way of a resume with target SAFE (R46). -/
theorem unattendedResumeEntersSafe : Obligations.UnattendedResumeEntersSafe := by
  unfold Obligations.UnattendedResumeEntersSafe
  have hdue {p : Pocket} {s : State} (hrun : (s.unit p).seq.run = .paused) (hmark : (s.unit p).seq.unattended = true)
      (hdoor : (s.unit p).pins.door = true) (hcount : 10000000 ≤ (s.unit p).seq.doorClosedFor) :
      exec (.unattendedResume p) s =
        .next (s.onEvent p fun env v => (v.onUnit PocketUnit.leavePause).resumeToSafe env) := by
    change execUnattendedResume p s = _
    have hwait : unattendedWait ≤ (s.unit p).seq.doorClosedFor := hcount
    rw [execUnattendedResume, if_pos (by simp [PocketUnit.unattendedDue, hrun, hmark, hdoor, hwait])]
  refine ⟨fun p s hrun hmark hdoor hcount hbegun => ?_, fun p s hrun hmark hdoor hcount hnot => ?_⟩
  · have hresume : ((s.view p).onUnit PocketUnit.leavePause).resumeToSafe (s.eventEnv p) =
        ((s.view p).onUnit PocketUnit.leavePause).continueIn (s.eventEnv p) .safe := PocketView.resumeToSafe_begun hbegun _
    obtain ⟨hpool, hseq, hmoist, hfaults, horder, -⟩ := PocketView.continueIn_does (env := s.eventEnv p)
      (v := (s.view p).onUnit PocketUnit.leavePause) (st := .safe) (.inr (.inr rfl))
    refine ⟨_, hdue hrun hmark hdoor hcount, State.onEvent_sameElsewhere .., ?_, State.onEvent_link .., ?_⟩
    · rw [State.onEvent_pool, hresume, hpool]; rfl
    · simp only [State.onEvent_unit, hresume, hseq, hmoist, hfaults, true_and]
      exact ⟨rfl, rfl, rfl, rfl, horder, rfl, rfl⟩
  · have hresume : ((s.view p).onUnit PocketUnit.leavePause).resumeToSafe (s.eventEnv p) =
        ((s.view p).onUnit PocketUnit.leavePause).enterSafe (s.eventEnv p) := PocketView.resumeToSafe_enters hnot _
    obtain ⟨hentered, hunattended⟩ := State.enteredSafe_of_resume (s := s) (p := p) (env := s.eventEnv p)
      (t := s.onEvent p fun env v => (v.onUnit PocketUnit.leavePause).resumeToSafe env) rfl
      ((State.onEvent_pool ..).trans (congrArg PocketView.pool hresume))
      ((State.onEvent_unit ..).trans (congrArg PocketView.unit hresume))
    exact ⟨_, hdue hrun hmark hdoor hcount, State.onEvent_sameElsewhere .., State.onEvent_link .., hunattended, hentered⟩

end

end Sys2Proof.Machine
end

section
/-! The longer ways on: the retry and the abandonment at a resume (2.7), BACKSTEP (3.4), and the phase timer's expiry (2.3). -/

namespace Sys2Proof.Machine

section
variable {s : State} {p : Pocket} {b : Byte} {v : PocketView} {env : Env} {i : SlotNo} {o : PhaseOutcome} {c : Checkpoint}
  {r : PhaseRecord} {u : PocketUnit}

/-! ## The restoration to a checkpoint (R60) -/

theorem PocketUnit.takeWork_phaseEnd (i : SlotNo) (r : PhaseRecord) (u : PocketUnit) :
    (u.takeWork i r).notices.phaseEnd = u.notices.phaseEnd := by
  unfold PocketUnit.takeWork
  dsimp only
  split <;> simp [NoticeSet.add]

theorem PocketUnit.restore_does (c : Checkpoint) (r : PhaseRecord) (u : PocketUnit) :
    (u.restore c r).seq = { u.seq with
        phaseTimer := 0, confirm := 0, history := setOutcome none u.seq.history
        work := workFrom c.slot r u.seq.profile u.moist.valid } ∧
      (u.restore c r).drum = { u.drum with twist := c.twistStart, antiTangle := 0, limitReached := false } ∧
      (u.restore c r).moist = { u.moist with estimate := c.eStart } ∧
      (u.restore c r).notices.phaseEnd = u.notices.phaseEnd := by
  simp only [PocketUnit.restore, PocketUnit.takeWork_seq, PocketUnit.takeWork_drum, PocketUnit.takeWork_moist,
    PocketUnit.takeWork_phaseEnd]
  exact ⟨rfl, rfl, rfl, rfl⟩

/-! ## The retry (R44, R61) -/

/-- A phase retried from its newest checkpoint, the silence timer not expired and the drum not turning. -/
theorem PocketView.retry_does (hc : v.unit.seq.newest = some c) (hr : v.pool[c.slot].record? = some r)
    (hquiet : env.silenceExpired = false) (hturning : v.unit.drum.isTurning = false) :
    let w := v.retry env
    w.pool = v.pool ∧
      w.unit.seq = { v.unit.seq with
        run := .running, phaseTimer := 0, confirm := 0, history := setOutcome none v.unit.seq.history
        work := workFrom c.slot r v.unit.seq.profile v.unit.moist.valid } ∧
      w.unit.moist.estimate = c.eStart ∧ w.unit.moist.lastReading = v.unit.moist.lastReading ∧
      w.unit.drum.twist = c.twistStart ∧ w.unit.drum.antiTangle = 0 ∧ w.unit.drum.limitReached = false ∧
      w.unit.drum.unwind = none ∧ w.unit.drum.order = .runSegment ∧
      w.unit.drum.segment = some { first := r.segFirst, last := r.segLast, cursor := r.segFirst } := by
  obtain ⟨hseq, hdrum, hmoist, -⟩ := v.unit.restore_does c r
  obtain ⟨hseq', hmoist', -, -, -, -, horder, htwist, -, hsegment⟩ :=
    PocketUnit.handRunning_keeps env.reserveCycles r.segFirst r.segLast (v.unit.restore c r)
  obtain ⟨hcount, hlimit, hunwind⟩ := PocketUnit.handRunning_uninterrupted env.reserveCycles r.segFirst r.segLast
    (u := v.unit.restore c r) (.inl (by rw [hdrum]; exact hturning))
  have hwork : (v.unit.restore c r).seq.work = workFrom c.slot r v.unit.seq.profile v.unit.moist.valid := by rw [hseq]
  rw [hdrum] at hcount hlimit htwist
  dsimp only
  simp only [PocketView.retry, hc, hr]
  rw [PocketView.become_quiet hquiet]
  simp only [PocketView.onUnit_pool, PocketView.onUnit_unit, PocketUnit.checkHeat_seq, PocketUnit.checkHeat_drum,
    PocketUnit.checkHeat_moist, PocketUnit.alignWindow, hwork]
  simp only [workFrom, hseq', hmoist', hseq, hmoist, hcount, hlimit, hunwind, horder, htwist, hsegment, and_self]

/-! ## A chain that goes on after a close -/

/-- The advance along next of a pocket whose phase has been closed, in whatever run state (R35). -/
theorem State.advancedTo_of_closed {t : State} (henv : env.pocket = p) (hchecks : (s.view p).ChecksAs v)
    (hseq : v.unit.seq = { (s.unit p).seq with history := v.unit.seq.history, unattended := v.unit.seq.unattended })
    (hfaults : v.unit.faults = (s.unit p).faults) (hmoist : v.unit.moist = { (s.unit p).moist with window := none })
    (hnewest : v.unit.seq.newest = some { c with outcome := some o }) (hend : v.unit.notices.phaseEnd = true)
    (hquiet : env.silenceExpired = false) (hnext : (s.unit p).seq.work.next = some i)
    (hpool : t.pool = (v.advance env).pool) (hunit : t.unit p = (v.advance env).unit) :
    s.AdvancedTo t p env o c i (s.unit p).moist.estimate := by
  have hcheck (j : SlotNo) : (v.vacate env i).check j = ((s.view p).vacate env i).check j := hchecks.vacate_check env i j
  have hdrum : v.unit.drum = (s.unit p).drum := hchecks.drum
  have hend := (PocketUnit.KeepsReports.advance (.refl v.unit) env).notices .phaseEnd hend
  have hnext : v.unit.seq.work.next = some i := by rw [hseq]; exact hnext
  unfold State.AdvancedTo
  dsimp only
  rw [hpool, hunit]
  simp only [← hcheck]
  rcases hr : (v.vacate env i).check i with e | r
  · obtain ⟨hchain, hnotice, hheat, htwist, hclosed, hsafe, hhalted⟩ := PocketView.advance_fails hnext hr
    rw [hnewest] at hhalted
    rw [hseq] at hsafe hhalted
    rw [hfaults] at hchain hnotice
    rw [hdrum] at htwist
    rw [henv] at hsafe
    refine ⟨hclosed _ hnewest, hend, htwist, fun r hr => ?_, fun _ _ => ⟨hchain, hnotice, hheat, hsafe, hhalted⟩⟩
    cases hr
  · obtain ⟨hslot, hafter, horder, htwist, -, hsegment, hwindow, hkept⟩ :=
      PocketView.advance_enters_does hnext (.inl hquiet) hr
    refine ⟨?_, hend, htwist.trans (by rw [hdrum]), fun r' hr' => ?_, fun e he => by cases he⟩
    · rw [hafter]
      exact mem_pushHistory_of_getLast? hnewest _
    · cases hr'
      simp only [hafter, Sequencer.newest, pushHistory_getLast?, true_and]
      rw [hseq, hmoist, hdrum]
      exact ⟨by rw [hslot, henv], rfl, rfl, rfl, rfl, horder, hsegment, hwindow, hkept.trans hfaults⟩

/-- A paused phase that is abandoned: its close, with the unattended mark cleared. -/
def PocketView.abandoned (v : PocketView) : PocketView :=
  (v.onUnit PocketUnit.leavePause).onUnit (PocketUnit.closePhase .abandoned)

theorem PocketView.abandoned_seq (v : PocketView) :
    v.abandoned.unit.seq = { v.unit.seq with history := v.abandoned.unit.seq.history, unattended := false } := by
  simp [PocketView.abandoned, PocketUnit.leavePause]

theorem PocketView.abandoned_closes (hc : v.unit.seq.newest = some c) (hopen : c.outcome = none) :
    v.abandoned.unit.seq.newest = some { c with outcome := some .abandoned } ∧
      v.abandoned.unit.notices.has .phaseEnd = true :=
  PocketUnit.closePhase_closes (u := v.unit.leavePause) hc (Sequencer.closable_of_newest hc (.inl hopen)) .abandoned

/-- An advance does not mark a pocket unattended, the silence timer not expired. -/
theorem PocketView.advance_unattended (hquiet : env.silenceExpired = false) (h : v.unit.seq.unattended = false) :
    (v.advance env).unit.seq.unattended = false := by
  rcases hnext : v.unit.seq.work.next with _ | i
  · rw [(PocketView.advance_ends hnext env).2.1]
    exact h
  · rcases hr : (v.vacate env i).check i with e | r
    · by_cases hrun : v.unit.seq.run = .safe
      · rw [PocketView.advance_fails_of_safe hnext hrun hr]
        exact PocketView.chainHalt_unattended ..
      · rw [PocketView.advance_fails_of_not_safe hnext hrun hr]
        exact PocketView.enterSafe_unattended (by simpa [PocketView.leaving_unit] using h) env
    · obtain ⟨-, hseq, -⟩ := PocketView.advance_enters_does hnext (.inl hquiet) hr
      rw [hseq]
      exact h

/-- Settles O15: the retry, and the abandonment at END and along next. -/
theorem resumeRetriesOrAbandons : Obligations.ResumeRetriesOrAbandons := by
  unfold Obligations.ResumeRetriesOrAbandons
  refine ⟨fun b p c r s hp hrun hdoor htarget hheld hrestored hlimit hretry hc hr hquiet hturning => ?retries,
    fun b p c s hp hrun hdoor htarget hheld hrestored hlimit hretry hc hopen hnext => ?ends,
    fun b p c i s hp hrun hdoor htarget hheld hrestored hlimit hretry hc hopen hnext hquiet => ?advances⟩
  case retries =>
    have hresume := PocketView.resume_past (v := s.view p) (env := s.env p) htarget hheld hrestored hlimit
    have hqual : (s.view p).unit.seq.work.quals.retryAllowed = true := hretry
    rw [if_pos hqual] at hresume
    obtain ⟨hpool, hseq, hestimate, hreading, htwist, hcount, hlimitReached, hunwind, horder, hsegment⟩ :=
      PocketView.retry_does (env := s.env p) (v := (s.view p).onUnit PocketUnit.leavePause) hc hr hquiet hturning
    refine ⟨_, exec_resume_accepted hp hrun hdoor, State.onPocket_reply_sameElsewhere .., ?_,
      State.onPocket_reply_link .., ?_⟩
    · rw [State.reply_pool, State.onPocket_pool, hresume, hpool]; rfl
    · simp only [State.reply_unit, State.onPocket_unit, hresume, hseq, hestimate, hreading, htwist, hcount, hlimitReached,
        hunwind, horder, hsegment, true_and, Sequencer.newest, setOutcome_length]
      exact ⟨rfl, rfl, setOutcome_getLast? hc none, rfl, rfl⟩
  all_goals
    have hresume := PocketView.resume_past (v := s.view p) (env := s.env p) htarget hheld hrestored hlimit
    have hqual : ¬ (s.view p).unit.seq.work.quals.retryAllowed = true := Bool.eq_false_iff.mp hretry
    have hresume : (s.view p).resume (s.env p) = (s.view p).abandoned.advance (s.env p) := by
      rw [hresume, if_neg hqual]; rfl
    obtain ⟨hnewest, hend⟩ := PocketView.abandoned_closes (v := s.view p) hc hopen
    have hnext' : (s.view p).abandoned.unit.seq.work.next = (s.unit p).seq.work.next := by
      rw [PocketView.abandoned_seq]; rfl
    rw [hnext] at hnext'
  case ends =>
    obtain ⟨-, hseq, -, -, -, hnotices, -⟩ := PocketView.advance_ends hnext' (s.env p)
    refine ⟨_, exec_resume_accepted hp hrun hdoor, State.onPocket_reply_sameElsewhere .., State.onPocket_reply_link .., ?_⟩
    simp only [State.reply_unit, State.onPocket_unit, hresume, hseq, hnotices, true_and, and_true]
    exact ⟨hnewest, hend, rfl⟩
  case advances =>
    refine ⟨_, exec_resume_accepted hp hrun hdoor, State.onPocket_reply_sameElsewhere .., State.onPocket_reply_link .., ?_, ?_⟩
    · rw [State.reply_unit, State.onPocket_unit, hresume]
      exact PocketView.advance_unattended hquiet (by rw [PocketView.abandoned_seq])
    · refine State.advancedTo_of_closed (v := (s.view p).abandoned) rfl ⟨rfl, rfl, ?_, ?_⟩ ?_ ?_ ?_ hnewest hend hquiet
        hnext ?_ ?_
      · rw [PocketView.abandoned_seq]
      · simp [PocketView.abandoned, PocketUnit.leavePause]
      · rw [PocketView.abandoned_seq]; rfl
      · simp [PocketView.abandoned, PocketUnit.leavePause]
      · simp [PocketView.abandoned, PocketUnit.leavePause]
      · rw [State.reply_pool, State.onPocket_pool, hresume]
      · rw [State.reply_unit, State.onPocket_unit, hresume]

/-! ## BACKSTEP (R62, R63) -/

theorem exec_backstep_accepted {k : Byte} (hp : pocketOf b = some p) (hk : k.toNat ≤ 7)
    (hrun : (s.unit p).seq.run = .held ∨ ((s.unit p).seq.run = .paused ∧ (s.unit p).seq.resumeTarget = .running))
    (htarget : s.backstepTarget p k.toNat = some (c, r)) :
    exec (.backstep b k) s = .next ((s.onPocket p (PocketView.backstep (s.env p) k.toNat c r)).reply 0x14 .ok []) := by
  change Host.Outcome.next (reqBackstep b k s) = _
  simp only [reqBackstep, hp, if_neg (Nat.not_lt.mpr hk), (Sequencer.backstepRefusal_eq_none _).mpr hrun, htarget]

/-- The entry that is `k` before the newest is the newest after the `k` newer ones are dropped (R62, R63). -/
theorem getLast?_take_of_reverse {h : List Checkpoint} {k : Nat} (hc : h.reverse[k]? = some c) :
    (h.take (h.length - k)).getLast? = some c := by
  obtain ⟨hlt, hget⟩ := List.getElem?_eq_some_iff.mp hc
  rw [List.length_reverse] at hlt
  rw [List.getElem_reverse] at hget
  rw [List.getLast?_take, if_neg (by omega), List.getElem?_eq_getElem (by omega)]
  simp only [Option.some_or]
  rw [← hget]
  congr 2
  omega

/-- The pocket that moves to a target slot holds it, its unit the same but for the active slot (R63 step 2). -/
theorem PocketView.moveTo_does (hslot : v.unit.seq.work.active = some i → v.pool[i] = .active p r) :
    (v.moveTo p i r).pool[i] = .active p r ∧
      (v.moveTo p i r).unit = { v.unit with seq := { v.unit.seq with work :=
        { v.unit.seq.work with active := (v.moveTo p i r).unit.seq.work.active } } } := by
  unfold PocketView.moveTo
  split
  · next h => exact ⟨hslot h, rfl⟩
  · simp

/-- The pocket with the newer checkpoints dropped and the target's slot taken, before its restoration. -/
def PocketView.steppedBack (p : Pocket) (k : Nat) (c : Checkpoint) (r : PhaseRecord) (v : PocketView) : PocketView :=
  (v.onUnit fun u => { u with seq := { u.seq with history := u.seq.history.take (u.seq.history.length - k) } }).moveTo p
    c.slot r

theorem PocketView.backstep_does {k : Nat} (hslot : v.unit.seq.work.active = some c.slot → v.pool[c.slot] = .active env.pocket r)
    (hquiet : env.silenceExpired = false ∨ v.unit.seq.run = .paused) :
    let w := v.backstep env k c r
    w.pool[c.slot] = .active env.pocket r ∧
      w.unit.seq = { v.unit.seq with
        run := .paused, phaseTimer := 0, confirm := 0
        history := setOutcome none (v.unit.seq.history.take (v.unit.seq.history.length - k))
        work := workFrom c.slot r v.unit.seq.profile v.unit.moist.valid
        pauseTimer := if v.unit.seq.run = .held then 0 else v.unit.seq.pauseTimer
        resumeTarget := .running, held := false, restored := true } ∧
      w.unit.moist = { v.unit.moist with window := none, estimate := c.eStart } ∧
      w.unit.drum.twist = c.twistStart ∧ w.unit.drum.antiTangle = 0 ∧ w.unit.drum.limitReached = false ∧
      w.unit.drum.unwind = none ∧ w.unit.drum.order = .stop ∧ w.unit.drum.runOutput = false ∧
      w.unit.drum.segment = some { first := r.segFirst, last := r.segLast, cursor := r.segFirst } ∧
      w.unit.heat.IsOff ∧ w.unit.notices.phaseEnd = v.unit.notices.phaseEnd := by
  obtain ⟨hpool, hunit⟩ := PocketView.moveTo_does (p := env.pocket) (i := c.slot) (r := r)
    (v := v.onUnit fun u => { u with seq := { u.seq with history := u.seq.history.take (u.seq.history.length - k) } }) hslot
  let cut := (v.steppedBack env.pocket k c r).unit.abandonWindow
  have hcut : cut = { v.unit with
      seq := { v.unit.seq with
        history := v.unit.seq.history.take (v.unit.seq.history.length - k)
        work := { v.unit.seq.work with active := (v.steppedBack env.pocket k c r).unit.seq.work.active } }
      moist := { v.unit.moist with window := none } } := congrArg PocketUnit.abandonWindow hunit
  obtain ⟨hseq, hdrum, hmoist, hend⟩ := cut.restore_does c r
  obtain ⟨⟨hrun, -, -, -, -, -, htwist⟩, hcount, hlimit, -⟩ := (cut.restore c r).drum.suspend_stops
  have htwist := htwist.trans (congrArg Drum.twist hdrum)
  have hcount := hcount.trans (congrArg Drum.antiTangle hdrum)
  have hlimit := hlimit.trans (congrArg Drum.limitReached hdrum)
  dsimp only
  have hbackstep : v.backstep env k c r = (v.steppedBack env.pocket k c r).onUnit fun u => PocketUnit.checkHeat
      { u.abandonWindow.restore c r with
        drum := (u.abandonWindow.restore c r).drum.suspend.handStopped (u.abandonWindow.restore c r).seq.work.segFirst
          (u.abandonWindow.restore c r).seq.work.segLast
        seq := { (u.abandonWindow.restore c r).seq with
          run := .paused
          pauseTimer := if decide (v.unit.seq.run = .held) then 0 else (u.abandonWindow.restore c r).seq.pauseTimer
          resumeTarget := .running, held := false, restored := true } } := by
    unfold PocketView.backstep
    dsimp only
    rw [PocketView.become_unreported]
    · rfl
    · refine hquiet.imp_right fun h => .inl ?_
      exact (congrArg Sequencer.run hseq).trans ((congrArg (fun u => u.seq.run) hcut).trans h)
  rw [hbackstep]
  simp only [PocketView.onUnit_pool, PocketView.onUnit_unit, PocketUnit.checkHeat_seq, PocketUnit.checkHeat_drum,
    PocketUnit.checkHeat_moist, PocketUnit.checkHeat_notices, decide_eq_true_eq]
  refine ⟨hpool, ?_, ?_, htwist, hcount, hlimit, rfl, rfl, hrun, ?_, ?_, ?_⟩
  · change ({ (cut.restore c r).seq with
      run := .paused, pauseTimer := if v.unit.seq.run = .held then 0 else (cut.restore c r).seq.pauseTimer,
      resumeTarget := .running, held := false, restored := true } : Sequencer) = _
    rw [hseq, hcut]
  · exact hmoist.trans (by rw [hcut])
  · change some (Segment.mk (cut.restore c r).seq.work.segFirst (cut.restore c r).seq.work.segLast
      (cut.restore c r).seq.work.segFirst) = _
    rw [hseq]
    rfl
  · exact PocketUnit.checkHeat_isOff (PocketUnit.hasPermission_of_not_running (by simp))
  · exact hend.trans (by rw [hcut])

/-- Settles O19: the target found (R62), and the pocket restored to it (R63). -/
theorem backstepRestoresCheckpoint : Obligations.BackstepRestoresCheckpoint := by
  unfold Obligations.BackstepRestoresCheckpoint
  intro b k p c r s hp hk hrun hc hslot hsegment hwritten hquiet
  have htarget : s.backstepTarget p k.toNat = some (c, r) :=
    State.backstepTarget_eq_some.mpr ⟨hc, (segmentUsable_iff _ _).mpr ⟨hsegment, hwritten⟩, hslot.imp_left And.left⟩
  obtain ⟨hpool, hseq, hmoist, htwist, hcount, hlimit, hunwind, horder, hoff, hseg, hheat, hend⟩ :=
    PocketView.backstep_does (v := s.view p) (env := s.env p) (k := k.toNat) (c := c) (r := r)
      (fun hactive => hslot.resolve_left fun h => h.2 hactive) hquiet
  have hshort : k.toNat < (s.unit p).seq.history.length := by
    simpa using (List.getElem?_eq_some_iff.mp hc).1
  refine ⟨_, exec_backstep_accepted hp hk hrun htarget, State.onPocket_reply_sameElsewhere .., State.onPocket_reply_link ..,
    ?_⟩
  simp only [State.reply_unit, State.onPocket_unit, State.reply_pool, State.onPocket_pool, hseq, hmoist, htwist, hcount, hlimit,
    hunwind, horder, hoff, hseg, true_and, Sequencer.newest, setOutcome_length, List.length_take]
  exact ⟨hpool, rfl, setOutcome_getLast? (getLast?_take_of_reverse hc) none, Nat.min_eq_left (Nat.sub_le _ _), rfl, rfl, hheat,
    hend⟩

/-! ## The phase timer's expiry (R28 to R35) -/

theorem exec_phaseTimerExpiry_due (hrun : (s.unit p).seq.run = .running ∨ (s.unit p).seq.run = .safe)
    (hc : (s.unit p).seq.newest = some c) (hopen : c.outcome = none)
    (htimer : (s.unit p).seq.work.maxTime * 1000000 ≤ (s.unit p).seq.phaseTimer) :
    exec (.phaseTimerExpiry p) s =
      .next (s.onEvent p fun env => PocketView.endPhase env (s.unit p).seq.work.expiryOutcome) := by
  have hdue : (s.unit p).phaseDue = true := by
    have htimer : (s.unit p).seq.work.maxTime * second ≤ (s.unit p).seq.phaseTimer := htimer
    rcases hrun with h | h <;> simp [PocketUnit.phaseDue, h, RunState.evaluates, Sequencer.phaseOpen, hc, hopen, htimer]
  change execPhaseTimerExpiry p s = _
  rw [execPhaseTimerExpiry, if_pos hdue]

theorem WorkingSet.expiryOutcome_holds (w : WorkingSet) : w.expiryOutcome.holds = true := by
  unfold WorkingSet.expiryOutcome
  cases w.kind
  case dry => cases w.timedOnly <;> rfl
  all_goals rfl

/-- What an entry into HELD keeps and sets, the silence timer not expired (R34, R106). -/
theorem PocketView.enterHeld_does (hquiet : env.silenceExpired = false) (v : PocketView) :
    (v.enterHeld env).unit.drum.order = v.unit.drum.order ∧
      (v.unit.drum.unwind = none → (v.enterHeld env).unit.drum = v.unit.drum) ∧ (v.enterHeld env).unit.heat.IsOff ∧
      (v.enterHeld env).unit.moist.window.isSome = true ∧ (v.enterHeld env).unit.faults = v.unit.faults := by
  obtain ⟨hstep, -⟩ := v.unit.holdDrum_step env.reserveCycles
  rw [PocketView.enterHeld, PocketView.become_quiet hquiet]
  simp only [PocketView.onUnit_unit, PocketUnit.checkHeat_drum, PocketUnit.checkHeat_moist, PocketUnit.checkHeat_faults,
    PocketUnit.alignWindow, PocketUnit.raise_drum, PocketUnit.raise_faults]
  refine ⟨hstep.order, fun h => ?_, ?_, rfl, hstep.faults⟩
  · rw [PocketUnit.holdDrum, if_neg (by simp [h])]
  · exact PocketUnit.checkHeat_isOff (PocketUnit.hasPermission_of_not_running (by simp))

/-- Settles O20: the phase held, ended at END, and advanced along next. -/
theorem phaseTimerExpiryEndsPhase : Obligations.PhaseTimerExpiryEndsPhase := by
  unfold Obligations.PhaseTimerExpiryEndsPhase
  refine ⟨fun p c s hrun hc hopen htimer hhold hquiet => ?holds, fun p c s hrun hc hopen htimer hnext => ?ends,
    fun p c i s hrun hc hopen htimer hnext => ?advances⟩
  case holds =>
    have hholds := WorkingSet.expiryOutcome_holds (s.unit p).seq.work
    obtain ⟨hheld, hnewest, hend, hnotice, hpool⟩ := State.onEvent_endPhase_holds hc hopen hrun hhold hholds hquiet
    let closed := (s.view p).onUnit (PocketUnit.closePhase (s.unit p).seq.work.expiryOutcome)
    obtain ⟨-, hseq, -⟩ := PocketView.enterHeld_quiet (env := s.eventEnv p) hquiet closed
    obtain ⟨horder, hdrum, hheat, hwindow, hfaults⟩ := PocketView.enterHeld_does (env := s.eventEnv p) hquiet closed
    have hunit : (s.onEvent p fun env => PocketView.endPhase env (s.unit p).seq.work.expiryOutcome).unit p =
        (closed.enterHeld (s.eventEnv p)).unit := by
      rw [State.onEvent_unit, PocketView.endPhase_holds hrun hhold hholds]
    refine ⟨_, exec_phaseTimerExpiry_due (.inl hrun) hc hopen htimer, State.onEvent_sameElsewhere .., hpool,
      State.onEvent_link .., hheld, ?_, hnewest, hend, hnotice, ?_, ?_, ?_⟩
    · rw [hunit, hseq]; simp [closed]
    · rw [hunit, hseq]; simp [closed]
    · rw [hunit, hseq]; simp [closed]
    · rw [hunit]
      refine ⟨?_, fun h => ?_, hheat, hwindow, ?_⟩
      · rw [horder]; simp [closed]
      · rw [hdrum (by simpa [closed] using h)]; simp [closed]
      · rw [hfaults]; simp [closed]
  case ends =>
    obtain ⟨hdone, hnewest, hend, hchain, hactive⟩ :=
      State.onEvent_endPhase_done (o := (s.unit p).seq.work.expiryOutcome) hc hopen hrun hnext
    refine ⟨_, exec_phaseTimerExpiry_due (hrun.imp_left And.left) hc hopen htimer, State.onEvent_sameElsewhere ..,
      State.onEvent_link .., hdone, hactive, hend, hchain, ?_, hnewest⟩
    obtain ⟨-, -, -, -, -, hnotices, -⟩ := PocketView.advance_ends
      (v := (s.view p).onUnit (PocketUnit.closePhase (s.unit p).seq.work.expiryOutcome)) (by simpa using hnext) (s.eventEnv p)
    rw [State.onEvent_unit, PocketView.endPhase_advances hrun, hnotices]
    simp only [PocketView.onUnit_unit, State.view_unit, PocketUnit.closePhase_notices]
    split <;> rfl
  case advances =>
    exact ⟨_, exec_phaseTimerExpiry_due (hrun.imp_left And.left) hc hopen htimer, State.onEvent_sameElsewhere ..,
      State.onEvent_link .., State.onEvent_endPhase_advances hc hopen hrun hnext⟩

end

end Sys2Proof.Machine
end

section
/-! Time (R1 of the clock, entries 2 and 3): what a microsecond moves, and which events are due. -/

namespace Sys2Proof.Machine

section
variable {s : State} {p : Pocket} {u : PocketUnit} {d : Drum} {m : Moisture} {q : Sequencer}

/-! ## When each event is due -/

@[simp] theorem timerReached_iff (limit : Nat) (t : Option Nat) : timerReached limit t = true ↔ ∃ n, t = some n ∧ limit ≤ n := by
  cases t <;> simp [timerReached]

theorem RunState.evaluates_iff (r : RunState) : r.evaluates = true ↔ r = .running ∨ r = .safe := by
  cases r <;> simp [RunState.evaluates]

theorem Sequencer.phaseOpen_iff (q : Sequencer) :
    q.phaseOpen = true ↔ ∃ c, q.newest = some c ∧ c.outcome = none := by
  unfold Sequencer.phaseOpen
  cases q.newest <;> simp

theorem PocketUnit.phaseDue_iff (u : PocketUnit) :
    u.phaseDue = true ↔ (u.seq.run = .running ∨ u.seq.run = .safe) ∧ (∃ c, u.seq.newest = some c ∧ c.outcome = none) ∧
      u.seq.work.maxTime * 1000000 ≤ u.seq.phaseTimer := by
  simp only [PocketUnit.phaseDue, Bool.and_eq_true, RunState.evaluates_iff, Sequencer.phaseOpen_iff, decide_eq_true_eq,
    and_assoc]
  exact Iff.rfl

theorem PocketUnit.unattendedDue_iff (u : PocketUnit) :
    u.unattendedDue = true ↔ u.seq.run = .paused ∧ u.seq.unattended = true ∧ u.pins.door = true ∧
      10000000 ≤ u.seq.doorClosedFor := by
  simp only [PocketUnit.unattendedDue, Bool.and_eq_true, decide_eq_true_eq, and_assoc]
  exact Iff.rfl

theorem Sequencer.fanDue_iff (q : Sequencer) : q.fanDue = true ↔ q.fanRunOn = 1 ∧ 1000000 ≤ q.fanFraction := by
  simp only [Sequencer.fanDue, Bool.and_eq_true, decide_eq_true_eq]
  exact Iff.rfl

theorem Drum.overflowDue_iff (d : Drum) : d.overflowDue = true ↔ 65535 < d.tachCount ∧ d.tachPassed = false := by
  simp only [Drum.overflowDue, Bool.and_eq_true, decide_eq_true_eq, Bool.not_eq_true']
  exact Iff.rfl

theorem Drum.unwindBoundDue_iff (d : Drum) :
    d.unwindBoundDue = true ↔ ∃ w, d.unwind = some w ∧ w.stage = .run ∧ w.asserted = true ∧ 120000000 ≤ w.timer := by
  unfold Drum.unwindBoundDue
  cases d.unwind with
  | none => simp
  | some w =>
    simp only [Option.some.injEq, exists_eq_left', Bool.and_eq_true, decide_eq_true_eq, and_assoc]
    exact Iff.rfl

theorem PocketUnit.loosenDue_iff (u : PocketUnit) :
    u.loosenDue = true ↔ ∃ w, u.drum.unwind = some w ∧ w.stage = .loosen ∧
      u.seq.work.tangle.loosenDwell * 1000000 ≤ w.timer := by
  unfold PocketUnit.loosenDue
  cases u.drum.unwind with
  | none => simp
  | some w =>
    simp only [Option.some.injEq, exists_eq_left', Bool.and_eq_true, decide_eq_true_eq]
    exact Iff.rfl

theorem Drum.stopDue_iff (d : Drum) : d.stopDue = true ↔ d.state = .stopping ∧ 800000 ≤ d.quiet := by
  simp only [Drum.stopDue, Bool.and_eq_true, decide_eq_true_eq]
  exact Iff.rfl

theorem Drum.entryDue_iff (d : Drum) :
    d.entryDue = true ↔ d.order = .runSegment ∧ d.unwind = none ∧
      ∃ g n, d.segment = some g ∧ d.entryTime = some n ∧ d.table[g.cursor].duration * 500000 ≤ n := by
  unfold Drum.entryDue Drum.entry?
  rcases d.order with - | - <;> rcases d.unwind with - | w <;> rcases d.segment with - | g <;> simp

theorem Drum.startDue_iff (d : Drum) :
    d.startDue = true ↔ d.state = .starting ∧ ∃ n, d.startTimer = some n ∧ 10000000 ≤ n := by
  simp only [Drum.startDue, Bool.and_eq_true, decide_eq_true_eq, timerReached_iff]
  exact Iff.rfl

theorem Drum.speedLossDue_iff (d : Drum) :
    d.speedLossDue = true ↔ d.state = .turning ∧ ∃ n, d.speedLossTimer = some n ∧ 5000000 ≤ n := by
  simp only [Drum.speedLossDue, Bool.and_eq_true, decide_eq_true_eq, timerReached_iff]
  exact Iff.rfl

theorem Drum.stopLimitDue_iff (d : Drum) :
    d.stopLimitDue = true ↔ d.state = .stopping ∧ ∃ n, d.stopTimer = some n ∧ 15000000 ≤ n := by
  simp only [Drum.stopLimitDue, Bool.and_eq_true, decide_eq_true_eq, timerReached_iff]
  exact Iff.rfl

theorem Moisture.isolatedDue_iff (m : Moisture) :
    m.isolatedDue = true ↔ ∃ c, m.calibration = some c ∧ c.part = .isolated ∧ 1000000 ≤ c.elapsed := by
  unfold Moisture.isolatedDue
  cases m.calibration with
  | none => simp
  | some c =>
    simp only [Calibration.isolatedDue, Option.some.injEq, exists_eq_left', Bool.and_eq_true, decide_eq_true_eq]
    exact Iff.rfl

theorem Moisture.completeDue_iff (m : Moisture) :
    m.completeDue = true ↔ ∃ c g, m.calibration = some c ∧ c.part = .reference g ∧ 1000000 ≤ c.elapsed := by
  unfold Moisture.completeDue
  cases m.calibration with
  | none => simp
  | some c =>
    cases hpart : c.part with
    | isolated => simp [Calibration.referenceDue, hpart]
    | reference g =>
      by_cases hend : 1000000 ≤ c.elapsed <;> simp [Calibration.referenceDue, calPartLength, hpart, hend]

theorem Moisture.windowDue_iff (m : Moisture) : m.windowDue = true ↔ ∃ w, m.window = some w ∧ w.length ≤ w.elapsed := by
  unfold Moisture.windowDue
  cases m.window <;> simp

theorem PocketHeat.airflowDue_iff (h : PocketHeat) : h.airflowDue = true ↔ ∃ n, h.airTimer = some n ∧ 5000000 ≤ n := by
  unfold PocketHeat.airflowDue
  cases h.airTimer with
  | none => simp
  | some n =>
    simp only [Option.some.injEq, exists_eq_left', decide_eq_true_eq]
    exact Iff.rfl

theorem Supply.lossDue_iff (x : Supply) : x.lossDue = true ↔ x.mainsPresent = true ∧ 60000 ≤ x.zcElapsed := by
  simp only [Supply.lossDue, Bool.and_eq_true, decide_eq_true_eq]
  exact Iff.rfl

theorem LinkPort.byteSilenceOver_iff (l : LinkPort) :
    l.byteSilenceOver = true ↔ l.assembler ≠ .hunt ∧ 10261 ≤ l.byteSilence := by
  simp only [LinkPort.byteSilenceOver, Bool.and_eq_true, decide_eq_true_eq]
  exact Iff.rfl

theorem LinkPort.takeDue_iff (l : LinkPort) : l.takeDue = true ↔ l.replySlot = none ∧ l.inbound ≠ [] := by
  simp [LinkPort.takeDue]

theorem LinkPort.replyDue_iff (l : LinkPort) : l.replyDue = true ↔ l.tx = .idle ∧ l.replySlot ≠ none := by
  simp [LinkPort.replyDue, Option.isSome_iff_ne_none]

theorem State.noticeDue_iff (s : State) :
    s.noticeDue = true ↔ s.link.tx = .idle ∧ s.link.replySlot = none ∧
      (s.lower.noticeMark = true ∨ s.upper.noticeMark = true ∨ s.device.mark = true) := by
  have hmarked : s.markedTarget.isSome = true ↔
      s.lower.noticeMark = true ∨ s.upper.noticeMark = true ∨ s.device.mark = true := by
    unfold State.markedTarget
    cases s.lower.noticeMark <;> cases s.upper.noticeMark <;> cases s.device.mark <;> simp
  simp [State.noticeDue, hmarked, and_assoc]

theorem LinkPort.endDue_iff (l : LinkPort) :
    l.endDue = true ↔ ∃ isReply frame n, l.tx = .sending isReply frame n ∧ frame.length * 10000000 ≤ n * 38400 := by
  unfold LinkPort.endDue
  cases l.tx with
  | idle => simp
  | sending isReply frame n =>
    simp only [sentWhole, decide_eq_true_eq, Transmitter.sending.injEq, Nat.mul_assoc, Nat.reduceMul]
    constructor
    · exact fun h => ⟨isReply, frame, n, ⟨rfl, rfl, rfl⟩, h⟩
    · rintro ⟨_, _, _, ⟨rfl, rfl, rfl⟩, h⟩
      exact h

theorem State.silenceDue_iff (s : State) :
    s.silenceDue = true ↔ s.link.silenceExpired = false ∧ s.supply.config.silence * 1000000 ≤ s.link.silence := by
  simp only [State.silenceDue, Bool.and_eq_true, Bool.not_eq_true', decide_eq_true_eq]
  exact Iff.rfl

/-- A pocket's events that are due, by their tests. -/
theorem PocketUnit.mem_dueEvents (p : Pocket) (u : PocketUnit) (e : Instr) :
    e ∈ u.dueEvents p ↔
      (u.phaseDue = true ∧ e = .phaseTimerExpiry p) ∨ (u.unattendedDue = true ∧ e = .unattendedResume p) ∨
      (u.seq.fanDue = true ∧ e = .fanRunOnExpiry p) ∨ (u.drum.overflowDue = true ∧ e = .tachoCaptureOverflow p) ∨
      (u.drum.unwindBoundDue = true ∧ e = .unwindBoundExpiry p) ∨ (u.loosenDue = true ∧ e = .loosenDwellExpiry p) ∨
      (u.drum.stopDue = true ∧ e = .stopConfirmed p) ∨ (u.drum.standstillDue = true ∧ e = .standstillExpiry p) ∨
      (u.drum.entryDue = true ∧ e = .entryDurationExpiry p) ∨ (u.drum.startDue = true ∧ e = .startTimeout p) ∨
      (u.drum.speedLossDue = true ∧ e = .speedLossTimeout p) ∨ (u.drum.stopLimitDue = true ∧ e = .stopTimeout p) ∨
      (u.moist.forcedDue = true ∧ e = .forcedOpenPeriod p) ∨ (u.moist.isolatedDue = true ∧ e = .calIsolatedPartEnd p) ∨
      (u.moist.completeDue = true ∧ e = .calComplete p) ∨ (u.moist.windowDue = true ∧ e = .windowEnd p) ∨
      (u.heat.airflowDue = true ∧ e = .airflowTimeout p) := by
  simp only [PocketUnit.dueEvents, List.mem_append, mem_whenDue, or_assoc]

/-- The events of the whole part that are due, by their tests. -/
theorem State.mem_dueEvents (s : State) (e : Instr) :
    e ∈ s.dueEvents ↔
      e ∈ s.lower.dueEvents .lower ∨ e ∈ s.upper.dueEvents .upper ∨ (s.supply.lossDue = true ∧ e = .mainsLoss) ∨
      (s.link.byteSilenceOver = true ∧ e = .receiveSilenceTimeout) ∨ (s.link.takeDue = true ∧ e = .frameTaken) ∨
      (s.link.replyDue = true ∧ e = .replyTransmissionBegin) ∨ (s.noticeDue = true ∧ e = .noticeFrameBegin) ∨
      (s.link.endDue = true ∧ e = .transmissionEnd) ∨ (s.silenceDue = true ∧ e = .silenceTimerExpiry) := by
  simp only [State.dueEvents, List.mem_append, mem_whenDue, or_assoc]

theorem Drum.standstillDue_iff_pending (d : Drum) :
    d.standstillDue = true ↔ d.state = .settle ∧ d.pendingDir ≠ none ∧ ∃ n, d.settleTimer = some n ∧ 300000 ≤ n := by
  rw [Drum.standstillDue_iff, Option.ne_none_iff_exists']
  rfl

/-- The due events are those whose times or queues say so. -/
theorem State.mem_dueEvents_iff_due (s : State) (e : Instr) : e ∈ s.dueEvents ↔ s.Due e := by
  have hpocket (p : Pocket) : e ∈ (s.unit p).dueEvents p → s.Due e := by
    rw [PocketUnit.mem_dueEvents]
    rintro (⟨h, rfl⟩ | ⟨h, rfl⟩ | ⟨h, rfl⟩ | ⟨h, rfl⟩ | ⟨h, rfl⟩ | ⟨h, rfl⟩ | ⟨h, rfl⟩ | ⟨h, rfl⟩ | ⟨h, rfl⟩ | ⟨h, rfl⟩ |
      ⟨h, rfl⟩ | ⟨h, rfl⟩ | ⟨h, rfl⟩ | ⟨h, rfl⟩ | ⟨h, rfl⟩ | ⟨h, rfl⟩ | ⟨h, rfl⟩)
    · exact (PocketUnit.phaseDue_iff _).mp h
    · exact (PocketUnit.unattendedDue_iff _).mp h
    · exact (Sequencer.fanDue_iff _).mp h
    · exact (Drum.overflowDue_iff _).mp h
    · exact (Drum.unwindBoundDue_iff _).mp h
    · exact (PocketUnit.loosenDue_iff _).mp h
    · exact (Drum.stopDue_iff _).mp h
    · exact (Drum.standstillDue_iff_pending _).mp h
    · exact (Drum.entryDue_iff _).mp h
    · exact (Drum.startDue_iff _).mp h
    · exact (Drum.speedLossDue_iff _).mp h
    · exact (Drum.stopLimitDue_iff _).mp h
    · exact (Moisture.forcedDue_iff _).mp h
    · exact (Moisture.isolatedDue_iff _).mp h
    · exact (Moisture.completeDue_iff _).mp h
    · exact (Moisture.windowDue_iff _).mp h
    · exact (PocketHeat.airflowDue_iff _).mp h
  have hmem {p : Pocket} (h : e ∈ (s.unit p).dueEvents p) : e ∈ s.dueEvents := by
    rw [State.mem_dueEvents]
    cases p
    · exact .inl h
    · exact .inr (.inl h)
  constructor
  · intro hdue
    rcases (State.mem_dueEvents s e).mp hdue with h | h | ⟨h, rfl⟩ | ⟨h, rfl⟩ | ⟨h, rfl⟩ | ⟨h, rfl⟩ | ⟨h, rfl⟩ | ⟨h, rfl⟩ | ⟨h, rfl⟩
    · exact hpocket .lower h
    · exact hpocket .upper h
    · exact (Supply.lossDue_iff _).mp h
    · exact (LinkPort.byteSilenceOver_iff _).mp h
    · exact (LinkPort.takeDue_iff _).mp h
    · exact (LinkPort.replyDue_iff _).mp h
    · exact (State.noticeDue_iff _).mp h
    · exact (LinkPort.endDue_iff _).mp h
    · exact (State.silenceDue_iff _).mp h
  · intro h
    cases e
    case phaseTimerExpiry p => exact hmem (p := p) (by simp [PocketUnit.mem_dueEvents, (PocketUnit.phaseDue_iff _).mpr h])
    case unattendedResume p => exact hmem (p := p) (by simp [PocketUnit.mem_dueEvents, (PocketUnit.unattendedDue_iff _).mpr h])
    case fanRunOnExpiry p => exact hmem (p := p) (by simp [PocketUnit.mem_dueEvents, (Sequencer.fanDue_iff _).mpr h])
    case tachoCaptureOverflow p => exact hmem (p := p) (by simp [PocketUnit.mem_dueEvents, (Drum.overflowDue_iff _).mpr h])
    case unwindBoundExpiry p => exact hmem (p := p) (by simp [PocketUnit.mem_dueEvents, (Drum.unwindBoundDue_iff _).mpr h])
    case loosenDwellExpiry p => exact hmem (p := p) (by simp [PocketUnit.mem_dueEvents, (PocketUnit.loosenDue_iff _).mpr h])
    case stopConfirmed p => exact hmem (p := p) (by simp [PocketUnit.mem_dueEvents, (Drum.stopDue_iff _).mpr h])
    case standstillExpiry p =>
      exact hmem (p := p) (by simp [PocketUnit.mem_dueEvents, (Drum.standstillDue_iff_pending _).mpr h])
    case entryDurationExpiry p => exact hmem (p := p) (by simp [PocketUnit.mem_dueEvents, (Drum.entryDue_iff _).mpr h])
    case startTimeout p => exact hmem (p := p) (by simp [PocketUnit.mem_dueEvents, (Drum.startDue_iff _).mpr h])
    case speedLossTimeout p => exact hmem (p := p) (by simp [PocketUnit.mem_dueEvents, (Drum.speedLossDue_iff _).mpr h])
    case stopTimeout p => exact hmem (p := p) (by simp [PocketUnit.mem_dueEvents, (Drum.stopLimitDue_iff _).mpr h])
    case forcedOpenPeriod p => exact hmem (p := p) (by simp [PocketUnit.mem_dueEvents, (Moisture.forcedDue_iff _).mpr h])
    case calIsolatedPartEnd p => exact hmem (p := p) (by simp [PocketUnit.mem_dueEvents, (Moisture.isolatedDue_iff _).mpr h])
    case calComplete p => exact hmem (p := p) (by simp [PocketUnit.mem_dueEvents, (Moisture.completeDue_iff _).mpr h])
    case windowEnd p => exact hmem (p := p) (by simp [PocketUnit.mem_dueEvents, (Moisture.windowDue_iff _).mpr h])
    case airflowTimeout p => exact hmem (p := p) (by simp [PocketUnit.mem_dueEvents, (PocketHeat.airflowDue_iff _).mpr h])
    case mainsLoss => simp [State.mem_dueEvents, (Supply.lossDue_iff _).mpr h]
    case receiveSilenceTimeout => simp [State.mem_dueEvents, (LinkPort.byteSilenceOver_iff _).mpr h]
    case frameTaken => simp [State.mem_dueEvents, (LinkPort.takeDue_iff _).mpr h]
    case replyTransmissionBegin => simp [State.mem_dueEvents, (LinkPort.replyDue_iff _).mpr h]
    case noticeFrameBegin => simp [State.mem_dueEvents, (State.noticeDue_iff _).mpr h]
    case transmissionEnd => simp [State.mem_dueEvents, (LinkPort.endDue_iff _).mpr h]
    case silenceTimerExpiry => simp [State.mem_dueEvents, (State.silenceDue_iff _).mpr h]
    all_goals exact False.elim h

/-! ## What a microsecond moves -/

theorem Unwind.tick_eq (w : Unwind) :
    w.tick = if w.stage = .loosen ∨ (w.stage = .run ∧ w.asserted = true) then { w with timer := w.timer + 1 } else w := by
  unfold Unwind.tick
  cases hstage : w.stage <;> simp

theorem Drum.tick_eq (tach : Bool) (d : Drum) : d.tick tach = { d with
    entryTime := d.entryTime.map (· + 1)
    tachCount := if tach then min 65536 (d.tachCount + 1) else d.tachCount
    quiet := min 800000 (d.quiet + 1)
    startTimer := d.startTimer.map (· + 1)
    speedLossTimer := d.speedLossTimer.map (· + 1)
    stopTimer := d.stopTimer.map (· + 1)
    settleTimer := d.settleTimer.map fun n => min 300000 (n + 1)
    unwind := d.unwind.map fun w =>
      if w.stage = .loosen ∨ (w.stage = .run ∧ w.asserted = true) then { w with timer := w.timer + 1 } else w } := by
  unfold Drum.tick
  rw [show (Unwind.tick) = _ from funext Unwind.tick_eq]
  rfl

theorem Moisture.tick_eq (turning : Bool) (m : Moisture) : m.tick turning = { m with
    capture := min 65535 (m.capture + 1)
    calibration := m.calibration.map fun c => { c with elapsed := c.elapsed + 1 }
    window := m.window.map fun w =>
      { w with elapsed := w.elapsed + 1, turning := if turning then w.turning + 1 else w.turning } } := rfl

/-- The fan run-on's two counts (R53). -/
theorem Sequencer.tickFan_counts (q : Sequencer) :
    (q.tickFan.fanRunOn, q.tickFan.fanFraction) =
      if q.fanRunOn = 0 then (q.fanRunOn, q.fanFraction)
      else if q.fanFraction + 1 < 1000000 ∨ q.fanRunOn = 1 then (q.fanRunOn, q.fanFraction + 1)
      else (q.fanRunOn - 1, 0) := by
  unfold Sequencer.tickFan
  by_cases hoff : q.fanRunOn = 0
  · rw [if_pos hoff, if_pos hoff]
  · by_cases hruns : q.fanFraction + 1 < second ∨ q.fanRunOn = 1
    · rw [if_neg hoff, if_neg hoff, if_pos hruns]
      exact (if_pos hruns).symm
    · rw [if_neg hoff, if_neg hoff, if_neg hruns]
      exact (if_neg hruns).symm

/-- The sequencer's three timers after a microsecond, the fan run-on apart (R24, R25, R28, R46). -/
def Sequencer.counted (door : Bool) (q : Sequencer) : Sequencer :=
  { q with
    phaseTimer    := if q.run.evaluates && q.phaseOpen then q.phaseTimer + 1 else q.phaseTimer
    pauseTimer    := if q.run = .paused then bump pauseTimerMax q.pauseTimer else q.pauseTimer
    doorClosedFor := if q.run = .paused ∧ q.unattended = true ∧ door = true then q.doorClosedFor + 1 else q.doorClosedFor }

theorem Sequencer.tick_eq (door : Bool) (q : Sequencer) : q.tick door = (q.counted door).tickFan := rfl

/-- The sequencer's timers after a microsecond, all else kept. -/
theorem Sequencer.tick_does (door : Bool) (q : Sequencer) :
    let t := q.tick door
    t = { q with
      phaseTimer := t.phaseTimer, pauseTimer := t.pauseTimer, doorClosedFor := t.doorClosedFor, fanRunOn := t.fanRunOn,
      fanFraction := t.fanFraction } ∧
    ((q.run = .running ∨ q.run = .safe) ∧ (∃ c, q.newest = some c ∧ c.outcome = none) → t.phaseTimer = q.phaseTimer + 1) ∧
    ((q.run ≠ .running ∧ q.run ≠ .safe) ∨ (∀ c, q.newest = some c → c.outcome ≠ none) → t.phaseTimer = q.phaseTimer) ∧
    t.pauseTimer = (if q.run = .paused then min 65535000000 (q.pauseTimer + 1) else q.pauseTimer) ∧
    t.doorClosedFor =
      (if q.run = .paused ∧ q.unattended = true ∧ door = true then q.doorClosedFor + 1 else q.doorClosedFor) ∧
    (t.fanRunOn, t.fanFraction) =
      if q.fanRunOn = 0 then (q.fanRunOn, q.fanFraction)
      else if q.fanFraction + 1 < 1000000 ∨ q.fanRunOn = 1 then (q.fanRunOn, q.fanFraction + 1)
      else (q.fanRunOn - 1, 0) := by
  have hfan := (q.counted door).tickFan_eq
  have htimer : (q.tick door).phaseTimer = if q.run.evaluates && q.phaseOpen then q.phaseTimer + 1 else q.phaseTimer := by
    rw [Sequencer.tick_eq, hfan]; rfl
  dsimp only
  refine ⟨?_, ?_, ?_, ?_, ?_, Sequencer.tickFan_counts (q.counted door)⟩
  · rw [Sequencer.tick_eq, hfan]; rfl
  · rintro ⟨hrun, hopen⟩
    rw [htimer, if_pos (by simp [(RunState.evaluates_iff _).mpr hrun, (Sequencer.phaseOpen_iff _).mpr hopen])]
  · intro h
    rw [htimer, if_neg]
    rw [Bool.and_eq_true, RunState.evaluates_iff, Sequencer.phaseOpen_iff]
    rintro ⟨hrun, c, hc, hopen⟩
    rcases h with h | h
    · exact hrun.elim h.1 h.2
    · exact h c hc hopen
  · rw [Sequencer.tick_eq, hfan]; rfl
  · rw [Sequencer.tick_eq, hfan]; rfl

theorem Supply.tick_eq (x : Supply) : x.tick =
    { x with zcElapsed := if x.mainsPresent then min 60000 (x.zcElapsed + 1) else x.zcElapsed } := by
  unfold Supply.tick
  split <;> rfl

/-- The fan run-on over, FAN goes off where the run-on alone kept it on (R53). -/
theorem PocketUnit.fanOutput_of_run_on_over (hrun : u.seq.run.engaged = false) (hfan : u.seq.fanRunOn = 0) :
    u.fanOutput = false := by
  unfold PocketUnit.fanOutput
  cases h : u.seq.run <;> simp [h, RunState.engaged, hfan] at hrun ⊢

/-- Settles O22: the tick of a pocket timer by timer, the tick of the rest, the due events, and the run-on's end. -/
theorem timePassesInEveryTimer : Obligations.TimePassesInEveryTimer := by
  unfold Obligations.TimePassesInEveryTimer
  refine ⟨fun p s => ?pocket, fun s => ?part, State.mem_dueEvents_iff_due, fun p s hfan hfraction => ?runOn⟩
  case pocket =>
    dsimp only
    rw [State.tick_unit]
    obtain ⟨hseq, hcounts, hholds, hpause, hdoor, hfan⟩ := Sequencer.tick_does (s.unit p).pins.door (s.unit p).seq
    refine ⟨rfl, hseq, hcounts, hholds, hpause, hdoor, hfan, (Drum.tick_eq ..).trans ?_, (Moisture.tick_eq ..).trans ?_, rfl⟩
    · simp only [State.tachTicks, decide_eq_true_eq]
    · simp only [Drum.isTurning, decide_eq_true_eq]
  case part =>
    rw [← Supply.tick_eq]
    simp only [State.tick, State.tachTicks, decide_eq_true_eq]
    rfl
  case runOn =>
    refine ⟨_, ?_, rfl, fun hrun => PocketUnit.fanOutput_of_run_on_over (by simpa using hrun) (by simp)⟩
    change execFanRunOnExpiry p s = _
    rw [execFanRunOnExpiry, if_pos ((Sequencer.fanDue_iff _).mpr ⟨hfan, hfraction⟩)]

end

end Sys2Proof.Machine
end

section
/-! The timed steps of the drum (R74, R79 to R91, R103 to R105): the capture's overflow, the standstill's and an entry's end,
and the DRIVE conditions. -/

namespace Sys2Proof.Machine

section
variable {s : State} {p : Pocket} {u : PocketUnit} {d : Drum} {dir : Dir} {g : Segment} {e : MotionEntry} {k : TriggerKind}

/-! ## A measurement and the capture's overflow -/

theorem Drum.takeMeasurement_of_turning (h : d.state = .turning) :
    d.takeMeasurement =
      { d with speedLossTimer := if d.speed * 2 < d.commanded then some (d.speedLossTimer.getD 0) else none } := by
  simp only [Drum.takeMeasurement, Drum.testSpeedLoss, h]

theorem Drum.takeMeasurement_of_slow (h : d.state = .starting) (hslow : d.speed * 2 < d.commanded) :
    d.takeMeasurement = d := by
  simp only [Drum.takeMeasurement, h, if_neg (Nat.not_le.mpr hslow)]

theorem Drum.takeMeasurement_of_fast (h : d.state = .starting) (hfast : d.commanded ≤ d.speed * 2) :
    d.takeMeasurement = { d with state := .turning, startTimer := none, speedLossTimer := none } := by
  simp only [Drum.takeMeasurement, h, if_pos hfast]

theorem Drum.takeMeasurement_of_rest (hs : d.state ≠ .starting) (ht : d.state ≠ .turning) : d.takeMeasurement = d := by
  cases h : d.state <;> simp_all [Drum.takeMeasurement, Drum.testSpeedLoss]

/-- A measurement changes the state and two timers alone. -/
theorem Drum.takeMeasurement_eq (d : Drum) : d.takeMeasurement = { d with
    state := d.takeMeasurement.state, startTimer := d.takeMeasurement.startTimer
    speedLossTimer := d.takeMeasurement.speedLossTimer } := by
  unfold Drum.takeMeasurement
  split
  · split <;> rfl
  · rw [Drum.testSpeedLoss_eq]

/-- The drum at the passing of 65,535 counts, before the measurement. -/
def Drum.overflowed (d : Drum) : Drum := { d with tachPassed := true, speed := 0 }

theorem exec_tachoCaptureOverflow_due (hcount : 65535 < (s.unit p).drum.tachCount) (hpassed : (s.unit p).drum.tachPassed = false) :
    exec (.tachoCaptureOverflow p) s =
      .next (s.onUnit p fun u => { u with drum := u.drum.overflowed.takeMeasurement }) := by
  change execTachoCaptureOverflow p s = _
  rw [execTachoCaptureOverflow, if_pos ((Drum.overflowDue_iff _).mpr ⟨hcount, hpassed⟩)]
  rfl

/-- Settles O26, by the state of the drum (R74, R79). -/
theorem captureOverflowZeroesSpeed : Obligations.CaptureOverflowZeroesSpeed := by
  unfold Obligations.CaptureOverflowZeroesSpeed
  intro p s hcount hpassed
  have hmeasured := Drum.takeMeasurement_eq (s.unit p).drum.overflowed
  refine ⟨_, exec_tachoCaptureOverflow_due hcount hpassed, State.onUnit_sameElsewhere .., State.onUnit_pool ..,
    State.onUnit_link .., ?_⟩
  rw [State.onUnit_unit]
  dsimp only
  refine ⟨by rw [hmeasured]; rfl, by rw [hmeasured]; rfl, fun hdriven => ?_, fun hturning hdriven => ?_, by rw [hmeasured]; rfl,
    by rw [hmeasured]; rfl, by rw [hmeasured]; rfl, rfl, rfl, rfl⟩
  · by_cases hstarting : (s.unit p).drum.state = .starting
    · rw [Drum.takeMeasurement_of_slow (d := (s.unit p).drum.overflowed) hstarting (by simpa [Drum.overflowed] using hdriven)]
      rfl
    · by_cases hturning : (s.unit p).drum.state = .turning
      · rw [Drum.takeMeasurement_of_turning (d := (s.unit p).drum.overflowed) hturning]
        rfl
      · rw [Drum.takeMeasurement_of_rest (d := (s.unit p).drum.overflowed) hstarting hturning]
        rfl
  · rw [Drum.takeMeasurement_of_turning (d := (s.unit p).drum.overflowed) hturning]
    exact if_pos (by simpa [Drum.overflowed] using hdriven)

/-! ## The standstill's end (R82) -/

/-- Settles O29: the direction turned and asserted, for the entry's run or the unwind's (R78, R82). -/
theorem standstillExpiryAssertsDirection : Obligations.StandstillExpiryAssertsDirection := by
  unfold Obligations.StandstillExpiryAssertsDirection
  intro p dir n s hstate hpending htimer hn
  have hdue : (s.unit p).drum.standstillDue = true :=
    (Drum.standstillDue_iff _).mpr ⟨hstate, ⟨dir, hpending⟩, n, htimer, hn⟩
  have hover : (s.unit p).standstillOver s.supply.config.reserveCycles = PocketUnit.assertDirection
      s.supply.config.reserveCycles (s.unit p).drum.waitingSpeed
      { s.unit p with drum := { (s.unit p).drum with dir := dir } } := by
    simp only [PocketUnit.standstillOver, hpending]
  have hexec : exec (.standstillExpiry p) s =
      .next (s.onUnit p (PocketUnit.standstillOver s.supply.config.reserveCycles)) := by
    rw [exec_standstillExpiry, if_pos hdue]
  refine ⟨_, hexec, State.onUnit_sameElsewhere .., State.onUnit_pool .., State.onUnit_link .., ?_⟩
  rw [State.onUnit_unit, hover]
  refine ⟨rfl, rfl, rfl, rfl, rfl, rfl, rfl, rfl, rfl, rfl, rfl, rfl, fun g e hunwind hsegment he => ?_, fun w hunwind => ?_⟩
  · subst he
    simp [PocketUnit.assertDirection, Drum.speedReference, Drum.runOutput, Drum.waitingSpeed, Drum.entry?, hunwind, hsegment]
  · simp [PocketUnit.assertDirection, Drum.speedReference, Drum.runOutput, Drum.waitingSpeed, hunwind, Unwind.atAssertion]

/-! ## Triggers (R101, R102, R107) -/

theorem Drum.runEntry?_eq_some {speed : Nat} :
    d.runEntry? = some (dir, speed) ↔ d.order = .runSegment ∧ d.unwind = none ∧
      ∃ g, d.segment = some g ∧ d.table[g.cursor].motion = .run dir ∧ d.table[g.cursor].speed = speed := by
  unfold Drum.runEntry? Drum.entry?
  cases d.order with
  | stop => simp
  | runSegment =>
    cases d.unwind with
    | some w => simp
    | none =>
      cases d.segment with
      | none => simp
      | some g =>
        simp only [Option.map_some, Option.some.injEq, exists_eq_left', true_and]
        generalize d.table[g.cursor] = e
        cases hmotion : e.motion <;> simp

theorem PocketUnit.countUnwind_counts (u : PocketUnit) :
    u.countUnwind.drum.antiTangle = min 255 (u.drum.antiTangle + 1) ∧
      u.countUnwind.drum.unwind = u.drum.unwind ∧ u.countUnwind.drum.imbalanceRun = u.drum.imbalanceRun ∧
      u.countUnwind.drum.entryTime = u.drum.entryTime ∧ u.countUnwind.seq = u.seq ∧
      (u.seq.work.tangle.antiTangleLimit ≤ u.countUnwind.drum.antiTangle →
        u.countUnwind.drum.limitReached = true ∧
          (u.drum.limitReached = false → u.countUnwind.notices.tangleLimit = true)) := by
  unfold PocketUnit.countUnwind
  dsimp only
  split
  · exact ⟨rfl, rfl, rfl, rfl, rfl, fun _ => ⟨rfl, fun _ => rfl⟩⟩
  · next h =>
    refine ⟨rfl, rfl, rfl, rfl, rfl, fun hlimit => ?_⟩
    have hreached : u.drum.limitReached = true := by
      exact (Bool.not_eq_false _).mp fun hnot => h ⟨hlimit, hnot⟩
    exact ⟨hreached, fun hnot => absurd (hreached.symm.trans hnot) (by simp)⟩

theorem Drum.stopCommand_of_run (h : d.state = .starting ∨ d.state = .turning) : d.stopCommand = { d with
    state := .stopping, commanded := 0, pendingDir := none, startTimer := none, speedLossTimer := none
    stopTimer := some 0 } := by
  rcases h with h | h <;> simp only [Drum.stopCommand, h]

/-- The unwind step that a trigger inserts (R102). -/
def PocketUnit.unwindFor (k : TriggerKind) (dir : Dir) (speed : Nat) (entry : EntryNo) (u : PocketUnit) : Unwind :=
  { stage := .stop, dir := dir.opposite, speed := speed
    required := max u.seq.work.tangle.unwindRevs u.drum.twist.natAbs
    completed := 0, interrupted := entry, trigger := k, asserted := false, timer := 0 }

/-- The pocket with the unwind step in place, before it is counted and the drum is stopped. -/
def PocketUnit.withUnwind (k : TriggerKind) (dir : Dir) (speed : Nat) (entry : EntryNo) (u : PocketUnit) : PocketUnit :=
  { u with drum := { u.drum with entryTime := none, unwind := some (u.unwindFor k dir speed entry), imbalanceRun := 0 } }

theorem PocketUnit.insertUnwind_eq (k : TriggerKind) (dir : Dir) (speed : Nat) (entry : EntryNo) (u : PocketUnit) :
    u.insertUnwind k dir speed entry =
      { (u.withUnwind k dir speed entry).countUnwind with
        drum := (u.withUnwind k dir speed entry).countUnwind.drum.stopCommand } := rfl

/-- A trigger on a turning drum stops it and inserts the step (R102). -/
theorem PocketUnit.insertUnwind_of_turning (h : u.drum.state = .turning) (speed : Nat) (entry : EntryNo) :
    let v := u.insertUnwind k dir speed entry
    v.drum.state = .stopping ∧ v.drum.runOutput = false ∧ v.drum.unwind = some (u.unwindFor k dir speed entry) ∧
      v.drum.segment = u.drum.segment ∧ v.drum.imbalanceRun = 0 ∧ v.drum.antiTangle = min 255 (u.drum.antiTangle + 1) ∧
      (u.seq.work.tangle.antiTangleLimit ≤ v.drum.antiTangle →
        v.drum.limitReached = true ∧ (u.drum.limitReached = false → v.notices.tangleLimit = true)) ∧
      v.drum.pendingDir = none ∧ v.drum.stopTimer = some 0 ∧ v.drum.startTimer = none ∧ v.drum.speedLossTimer = none ∧
      v.seq = u.seq := by
  obtain ⟨hcount, hunwind, himbalance, -, hseq, hlimit⟩ := (u.withUnwind k dir speed entry).countUnwind_counts
  obtain ⟨-, -, hsegment, hstate, -⟩ := (u.withUnwind k dir speed entry).countUnwind_step
  have hstop := Drum.stopCommand_of_run (d := (u.withUnwind k dir speed entry).countUnwind.drum) (.inr (hstate.trans h))
  dsimp only
  rw [PocketUnit.insertUnwind_eq, hstop]
  exact ⟨rfl, rfl, hunwind, hsegment, himbalance, hcount, hlimit, rfl, rfl, rfl, rfl, hseq⟩

theorem PocketUnit.trigger_of_run (horder : u.drum.order = .runSegment) (hunwind : u.drum.unwind = none)
    (hsegment : u.drum.segment = some g) (hmotion : u.drum.table[g.cursor].motion = .run dir) :
    u.trigger k = u.insertUnwind k dir u.drum.table[g.cursor].speed g.cursor := by
  have hrun : u.drum.runEntry? = some (dir, u.drum.table[g.cursor].speed) :=
    Drum.runEntry?_eq_some.mpr ⟨horder, hunwind, g, hsegment, hmotion, rfl⟩
  simp only [PocketUnit.trigger, hrun, hsegment]

/-- When the twist check fires (R101). -/
theorem PocketUnit.twistFires_iff (u : PocketUnit) :
    u.twistFires = true ↔ u.drum.state = .turning ∧ u.drum.order = .runSegment ∧ u.drum.unwind = none ∧
      u.seq.work.tangle.twistLimit ≠ 0 ∧ u.seq.work.tangle.twistLimit ≤ u.drum.twist.natAbs ∧
      ∃ g, u.drum.segment = some g ∧
        (u.drum.table[g.cursor].motion = .run .fwd ∧ 0 < u.drum.twist ∨
          u.drum.table[g.cursor].motion = .run .rev ∧ u.drum.twist < 0) := by
  unfold PocketUnit.twistFires
  cases hrun : u.drum.runEntry? with
  | none =>
    refine iff_of_false (by simp) ?_
    rintro ⟨-, horder, hunwind, -, -, g, hsegment, h⟩
    have hentry (dir : Dir) (hmotion : u.drum.table[g.cursor].motion = .run dir) : u.drum.runEntry? ≠ none := by
      rw [Drum.runEntry?_eq_some.mpr ⟨horder, hunwind, g, hsegment, hmotion, rfl⟩]
      simp
    exact h.elim (fun h => hentry _ h.1 hrun) (fun h => hentry _ h.1 hrun)
  | some x =>
    obtain ⟨dir, speed⟩ := x
    obtain ⟨horder, hunwind, g, hsegment, hmotion, -⟩ := Drum.runEntry?_eq_some.mp hrun
    simp only [Drum.isTurning, horder, hunwind, hsegment, Option.some.injEq, exists_eq_left', hmotion, Motion.run.injEq]
    have reorder (limit turning reached sign : Prop) :
        ((limit ∧ turning) ∧ reached) ∧ sign ↔ turning ∧ limit ∧ reached ∧ sign :=
      ⟨fun ⟨⟨⟨hl, ht⟩, hr⟩, hs⟩ => ⟨ht, hl, hr, hs⟩, fun ⟨ht, hl, hr, hs⟩ => ⟨⟨⟨hl, ht⟩, hr⟩, hs⟩⟩
    cases dir
    · simpa [twistAdds] using reorder ..
    · simpa [twistAdds] using reorder ..

theorem PocketUnit.twistCheck_of_fires (h : u.twistFires = true) : u.twistCheck = u.trigger .twist := if_pos h

theorem PocketUnit.twistCheck_of_not_fires (h : ¬u.twistFires = true) : u.twistCheck = u := if_neg h

/-! ## The beginning of a run (R83 to R85) -/

theorem PocketUnit.beginRun_of_running (cycles : Nat) (speed : Nat) (hs : u.drum.state = .starting ∨ u.drum.state = .turning)
    (hunwind : u.drum.unwind = none) : u.beginRun cycles u.drum.dir speed = { u with drum := { u.drum with
      commanded := speed, entryTime := some 0
      speedLossTimer := ({ u.drum with commanded := speed } : Drum).testSpeedLoss.speedLossTimer } } := by
  rcases hs with hs | hs <;>
    simp only [PocketUnit.beginRun, Drum.testSpeedLoss, hs, hunwind, decide_true, Option.isNone_none, if_true,
      Option.map_none]

theorem PocketUnit.beginRun_reverses (cycles : Nat) (speed : Nat) (hs : u.drum.state = .starting ∨ u.drum.state = .turning)
    (hd : dir ≠ u.drum.dir) : u.beginRun cycles dir speed = { u with drum := { u.drum with
      state := .stopping, commanded := 0, pendingDir := some dir, startTimer := none, speedLossTimer := none
      stopTimer := some 0, entryTime := none } } := by
  have hstop := Drum.stopCommand_of_run hs
  rcases hs with hs | hs <;> simp only [PocketUnit.beginRun, hs, decide_eq_false hd, hstop, Drum.awaitReversal]

theorem PocketUnit.beginRun_asserts (cycles : Nat) (speed : Nat)
    (hs : u.drum.state = .stopping ∨ u.drum.state = .stopped ∨ u.drum.state = .settle) :
    u.beginRun cycles u.drum.dir speed = u.assertDirection cycles speed := by
  rcases hs with hs | hs | hs <;> simp only [PocketUnit.beginRun, hs, decide_true]

theorem PocketUnit.beginRun_of_settle (cycles : Nat) (speed : Nat) (hs : u.drum.state = .settle) (hd : dir ≠ u.drum.dir) :
    u.beginRun cycles dir speed = { u with drum := u.drum.awaitReversal dir } := by
  simp only [PocketUnit.beginRun, hs, decide_eq_false hd]

/-! ## The entry that begins (R73, R83, R85) -/

theorem PocketUnit.beginEntry_of_dwell (cycles : Nat) (hentry : u.drum.entry? = some e) (hmotion : e.motion = .dwell) :
    u.beginEntry cycles = { u with drum := { u.drum.stopCommand with entryTime := some 0 } } := by
  simp only [PocketUnit.beginEntry, hentry, hmotion]

theorem PocketUnit.beginEntry_of_run (cycles : Nat) (hentry : u.drum.entry? = some e) (hmotion : e.motion = .run dir) :
    u.beginEntry cycles = (u.beginRun cycles dir e.speed).twistCheck := by
  simp only [PocketUnit.beginEntry, hentry, hmotion]

/-- What a stop command leaves of the state and the pending direction (R80). -/
theorem Drum.stopCommand_state (d : Drum) :
    d.stopCommand.state = (if d.state = .settle ∨ d.state = .stopped then .stopped else .stopping) ∧
      (d.state ≠ .stopped → d.stopCommand.pendingDir = none) := by
  unfold Drum.stopCommand
  split <;> simp_all

theorem exec_entryDurationExpiry_due {n : Nat} (horder : (s.unit p).drum.order = .runSegment)
    (hunwind : (s.unit p).drum.unwind = none) (hsegment : (s.unit p).drum.segment = some g)
    (htime : (s.unit p).drum.entryTime = some n) (hn : (s.unit p).drum.table[g.cursor].duration * 500000 ≤ n) :
    exec (.entryDurationExpiry p) s = .next (s.onUnit p (PocketUnit.nextEntry s.supply.config.reserveCycles)) := by
  change execEntryDurationExpiry p s = _
  rw [execEntryDurationExpiry, if_pos ((Drum.entryDue_iff _).mpr ⟨horder, hunwind, g, n, hsegment, htime, hn⟩)]

/-- Settles O30: the cursor moved, and the entry that begins by its motion and the drum's state (R83, R84, R85, R101). -/
theorem entryExpiryMovesCursor : Obligations.EntryExpiryMovesCursor := by
  unfold Obligations.EntryExpiryMovesCursor
  intro p g n s horder hunwind hsegment htime hn
  dsimp only
  generalize hc : s.supply.config.reserveCycles = cycles
  let u : PocketUnit := { s.unit p with drum := (s.unit p).drum.moveCursor }
  have hnext : u.drum.segment = some g.next := by simp [u, Drum.moveCursor, hsegment]
  have hentry : u.drum.entry? = some u.drum.table[g.next.cursor] := Drum.entry?_eq hnext
  obtain ⟨hstep, hdir, hcursor⟩ := PocketUnit.nextEntry_step cycles (s.unit p)
  have hexec := exec_entryDurationExpiry_due horder hunwind hsegment htime hn
  rw [hc] at hexec
  have hbegins : (s.unit p).nextEntry cycles = u.beginEntry cycles := rfl
  refine ⟨_, hexec, State.onUnit_sameElsewhere .., State.onUnit_pool .., State.onUnit_link .., ?_⟩
  rw [State.onUnit_unit]
  refine ⟨hcursor.trans (by rw [hsegment]; rfl), hdir, hstep.twist, hstep.table, hstep.seq, hstep.moist, fun hdwell => ?dwell,
    fun dir hrun => ⟨fun hs hd => ⟨fun hnot => ?goesOn, fun htwists => ?twists⟩, fun hs hd => ?reverses, fun hs hd => ?asserts,
      fun hs hd => ?waits, fun hs hd => ?settles, fun hs hd => ?keepsSettling⟩⟩
  case dwell =>
    rw [hbegins, PocketUnit.beginEntry_of_dwell cycles hentry hdwell]
    exact ⟨Drum.stopCommand_stops u.drum, rfl, (Drum.stopCommand_state u.drum).1, (Drum.stopCommand_state u.drum).2⟩
  all_goals
    rw [hbegins, PocketUnit.beginEntry_of_run cycles hentry hrun]
  case goesOn =>
    have hbegun := PocketUnit.beginRun_of_running cycles u.drum.table[g.next.cursor].speed (u := u) hs hunwind
    rw [show u.drum.dir = dir from hd.symm] at hbegun
    rw [hbegun, PocketUnit.twistCheck_of_not_fires]
    · refine ⟨rfl, rfl, if_pos ?_, rfl, rfl, rfl, hunwind, rfl⟩
      rcases hs with hs | hs <;> simp [Drum.runOutput, u, Drum.moveCursor, hs]
    · rw [PocketUnit.twistFires_iff]
      rintro ⟨hturning, -, -, hlimit, hreached, g', hg', hadds⟩
      obtain rfl : g.next = g' := Option.some.inj (hnext.symm.trans hg')
      refine hnot ⟨hturning, hlimit, hreached, hadds.imp ?_ ?_⟩
      all_goals
        rintro ⟨hmotion, hsign⟩
        exact ⟨Motion.run.inj (hrun.symm.trans hmotion), hsign⟩
  case twists =>
    obtain ⟨hturning, hlimit, hreached, hadds⟩ := htwists
    have hbegun := PocketUnit.beginRun_of_running cycles u.drum.table[g.next.cursor].speed (u := u) hs hunwind
    rw [show u.drum.dir = dir from hd.symm] at hbegun
    generalize ({ u.drum with commanded := u.drum.table[g.next.cursor].speed } : Drum).testSpeedLoss.speedLossTimer = timer
      at hbegun
    let w : PocketUnit := { u with drum := { u.drum with
      commanded := u.drum.table[g.next.cursor].speed, entryTime := some 0, speedLossTimer := timer } }
    rw [hbegun, PocketUnit.twistCheck_of_fires, PocketUnit.trigger_of_run (u := w) horder hunwind hnext hrun]
    · obtain ⟨hstate, hoff, hstepped, -⟩ := PocketUnit.insertUnwind_of_turning (k := .twist) (dir := dir) (u := w) hturning
        u.drum.table[g.next.cursor].speed g.next.cursor
      exact ⟨hstate, hoff, _, hstepped, rfl, rfl, rfl, rfl, rfl⟩
    · refine (PocketUnit.twistFires_iff _).mpr ⟨hturning, horder, hunwind, hlimit, hreached, g.next, hnext, hadds.imp ?_ ?_⟩
      all_goals
        rintro ⟨rfl, hsign⟩
        exact ⟨hrun, hsign⟩
  case reverses =>
    rw [PocketUnit.beginRun_reverses cycles _ (u := u) hs hd, PocketUnit.twistCheck_of_not_turning rfl]
    exact ⟨rfl, rfl, rfl, rfl, rfl, hunwind⟩
  case asserts =>
    have hbegun := PocketUnit.beginRun_asserts cycles u.drum.table[g.next.cursor].speed (u := u) hs
    rw [show u.drum.dir = dir from hd.symm] at hbegun
    rw [hbegun, PocketUnit.twistCheck_of_not_turning rfl]
    have hnone : u.drum.unwind = none := hunwind
    simp [PocketUnit.assertDirection, hnone, Drum.speedReference, Drum.runOutput]
    rfl
  case waits =>
    rw [PocketUnit.beginRun_of_stopping cycles _ (u := u) hs hd,
      PocketUnit.twistCheck_of_not_turning (by simp [Drum.isTurning, u, Drum.moveCursor, hs])]
    exact ⟨hs, rfl, rfl, rfl⟩
  case settles =>
    rw [PocketUnit.beginRun_of_stopped cycles _ (u := u) hs hd, PocketUnit.twistCheck_of_not_turning rfl]
    exact ⟨rfl, rfl, rfl, rfl⟩
  case keepsSettling =>
    rw [PocketUnit.beginRun_of_settle cycles _ (u := u) hs hd,
      PocketUnit.twistCheck_of_not_turning (by simp [Drum.isTurning, u, Drum.moveCursor, Drum.awaitReversal, hs])]
    exact ⟨hs, rfl, rfl, rfl⟩

/-! ## DRIVE (R89 to R91) -/

/-- A DRIVE report, DRIVE not latched before (R50, R91, R177). -/
theorem PocketView.driveReport_of_engaged {env : Env} {v : PocketView} (hrun : v.unit.seq.run.engaged = true)
    (hnew : v.unit.faults.drive = false) :
    v.driveReport env =
      (PocketView.enterHalted env (((v.onUnit fun u => { u with drum := u.drum.stopCommand }).onUnit
        (PocketUnit.latch .drive)).onUnit (PocketUnit.closePhase .faulted))).onUnit PocketUnit.checkHeat := by
  have hengaged : ((v.onUnit fun u => { u with drum := u.drum.stopCommand }).onUnit
      (PocketUnit.latch .drive)).unit.seq.run.engaged = true := by simpa using hrun
  rw [PocketView.driveReport, PocketView.report_of_new (f := .drive)
    (v := v.onUnit fun u => { u with drum := u.drum.stopCommand }) hnew]
  simp only [PocketView.respond, PocketView.orderHalt, if_pos hengaged]

/-- A drum stopped before it is discarded is stopped from where it was. -/
theorem Drum.discard_stopCommand_stops (d : Drum) : d.StoppedFrom d.stopCommand.discard := by
  obtain ⟨⟨hrun, hspeed, hdir, horder, hunwind, htable, htwist⟩, -⟩ := d.stopCommand.discard_stops
  obtain ⟨htable', -, htwist', -, -, hdir', -⟩ := d.stopCommand_keeps
  exact ⟨hrun, hspeed, hdir.trans hdir', horder, hunwind, htable.trans htable', htwist.trans htwist'⟩

/-- The timer that a DRIVE condition discards outside the supervised states (R91). -/
def driveTimerDropped : Instr → Drum → Drum
  | .startTimeout _, d => { d with startTimer := none }
  | .speedLossTimeout _, d => { d with speedLossTimer := none }
  | .stopTimeout _, d => { d with stopTimer := none }
  | _, d => d

theorem exec_driveCondition {c : Instr} (h : (c = .startTimeout p ∧ (s.unit p).drum.startDue = true) ∨
      (c = .speedLossTimeout p ∧ (s.unit p).drum.speedLossDue = true) ∨
      (c = .stopTimeout p ∧ (s.unit p).drum.stopLimitDue = true)) :
    exec c s = .next (s.driveCondition p (driveTimerDropped c)) := by
  rcases h with ⟨rfl, h⟩ | ⟨rfl, h⟩ | ⟨rfl, h⟩
  · change execStartTimeout p s = _
    rw [execStartTimeout, if_pos h]; rfl
  · change execSpeedLossTimeout p s = _
    rw [execSpeedLossTimeout, if_pos h]; rfl
  · change execStopTimeout p s = _
    rw [execStopTimeout, if_pos h]; rfl

/-- Settles O31: the report of DRIVE in a supervised state, and the timer discarded elsewhere. -/
theorem driveConditionHaltsPocket : Obligations.DriveConditionHaltsPocket := by
  unfold Obligations.DriveConditionHaltsPocket
  intro p c s hc
  refine ⟨fun hrun hnew => ?_, fun hrun => ?_⟩
  · let v : PocketView := (((s.view p).onUnit fun u => { u with drum := u.drum.stopCommand }).onUnit
      (PocketUnit.latch .drive)).onUnit (PocketUnit.closePhase .faulted)
    obtain ⟨-, hseq, hdrum, hmoist, hfaults, hnotices, -, hheat⟩ := PocketView.enterHalted_does (s.env p) v
    have hreport := PocketView.driveReport_of_engaged (env := s.env p) (v := s.view p) hrun hnew
    have hoff : (v.enterHalted (s.env p)).unit.hasPermission = false :=
      PocketUnit.hasPermission_of_not_running (by rw [hseq]; simp)
    have hraised : (PocketUnit.latch .drive { s.unit p with drum := (s.unit p).drum.stopCommand }).notices.faultLatched = true :=
      PocketUnit.latch_raises hnew
    have hdriven : s.driveCondition p (driveTimerDropped c) = s.onPocket p (PocketView.driveReport (s.env p)) := if_pos hrun
    refine ⟨_, (exec_driveCondition hc).trans (by rw [hdriven]), State.onPocket_sameElsewhere .., State.onPocket_link .., ?_⟩
    rw [State.onPocket_unit, hreport]
    simp only [PocketView.onUnit_unit, PocketUnit.checkHeat_seq, PocketUnit.checkHeat_drum, PocketUnit.checkHeat_moist,
      PocketUnit.checkHeat_faults, PocketUnit.checkHeat_notices]
    change (v.enterHalted (s.env p)).unit.seq.run = .halted ∧ (v.enterHalted (s.env p)).unit.faults = _ ∧
      (v.enterHalted (s.env p)).unit.notices.faultLatched = true ∧ (v.enterHalted (s.env p)).unit.seq.work.active = none ∧
      (v.enterHalted (s.env p)).unit.seq.work.quals = Quals.none ∧ (v.enterHalted (s.env p)).unit.seq.held = false ∧
      (v.enterHalted (s.env p)).unit.seq.restored = false ∧ (v.enterHalted (s.env p)).unit.seq.unattended = false ∧
      (v.enterHalted (s.env p)).unit.seq.safeBegun = false ∧ (v.enterHalted (s.env p)).unit.seq.fanRunOn = 120 ∧
      (s.unit p).drum.StoppedFrom (v.enterHalted (s.env p)).unit.drum ∧ (v.enterHalted (s.env p)).unit.drum.segment = none ∧
      (v.enterHalted (s.env p)).unit.checkHeat.heat.IsOff ∧ (v.enterHalted (s.env p)).unit.moist.window = none ∧
      ∀ k : Checkpoint, (s.unit p).seq.newest = some k → k.outcome = none →
        (v.enterHalted (s.env p)).unit.seq.newest = some { k with outcome := some .faulted } ∧
          (v.enterHalted (s.env p)).unit.notices.phaseEnd = true
    rw [hseq, hdrum, hmoist, hfaults, hnotices]
    refine ⟨rfl, ?_, ?_, rfl, rfl, rfl, rfl, rfl, rfl, rfl, ?_, ?_, PocketUnit.checkHeat_isOff hoff, rfl, fun k hk hopen => ?_⟩
    · simp [v, PocketUnit.latch_faults]
    · exact (PocketUnit.closePhase_keepsReports .faulted _).notices .faultLatched hraised
    · simp only [v, PocketView.onUnit_unit, PocketUnit.closePhase_drum, PocketUnit.latch_drum]
      exact Drum.discard_stopCommand_stops _
    · exact (Drum.discard_stops _).2.1
    · exact PocketUnit.closePhase_closes (u := PocketUnit.latch .drive { s.unit p with drum := (s.unit p).drum.stopCommand })
        (by simpa using hk) (Sequencer.closable_of_newest (by simpa using hk) (.inl hopen)) .faulted
  · have hdropped : s.driveCondition p (driveTimerDropped c) =
        s.onUnit p fun u => { u with drum := driveTimerDropped c u.drum } := if_neg (by simp [hrun])
    refine ⟨_, (exec_driveCondition hc).trans (by rw [hdropped]), State.onUnit_sameElsewhere .., State.onUnit_pool ..,
      State.onUnit_link .., ?_⟩
    rw [State.onUnit_unit]
    refine ⟨rfl, rfl, rfl, ?_, ?_, ?_, ?_⟩
    · rcases hc with ⟨rfl, -⟩ | ⟨rfl, -⟩ | ⟨rfl, -⟩ <;> rfl
    all_goals
      rintro rfl
      rfl

end

end Sys2Proof.Machine
end

section
/-! A rising edge on TACH (R74, R75, R79, R96 to R105): what it measures and counts, the triggers at a completed revolution, and
the end of an unwind step. -/

namespace Sys2Proof.Machine

section
variable {s : State} {p : Pocket} {u : PocketUnit} {d e f : Drum} {dir : Dir} {g : Segment} {k : TriggerKind} {w : Unwind}
  {free cycles : Nat}

/-! ## What only an edge changes: the capture and the revolution in progress -/

/-- Two drums with the same capture and measured speed. -/
structure Drum.SameCapture (d e : Drum) : Prop where
  tachCount  : e.tachCount = d.tachCount
  tachPassed : e.tachPassed = d.tachPassed
  quiet      : e.quiet = d.quiet
  speed      : e.speed = d.speed

/-- Two drums with the same capture and the same revolution in progress. -/
structure Drum.SameTacho (d e : Drum) : Prop extends d.SameCapture e where
  revPulse   : e.revPulse = d.revPulse
  revNumber  : e.revNumber = d.revNumber
  revPeriods : e.revPeriods = d.revPeriods

namespace Drum.SameTacho

theorem refl (d : Drum) : d.SameTacho d := ⟨⟨rfl, rfl, rfl, rfl⟩, rfl, rfl, rfl⟩

theorem trans (h : d.SameTacho e) (k : e.SameTacho f) : d.SameTacho f :=
  ⟨⟨k.tachCount.trans h.tachCount, k.tachPassed.trans h.tachPassed, k.quiet.trans h.quiet, k.speed.trans h.speed⟩,
    k.revPulse.trans h.revPulse, k.revNumber.trans h.revNumber, k.revPeriods.trans h.revPeriods⟩

theorem of_eq (htachCount : e.tachCount = d.tachCount := by rfl) (htachPassed : e.tachPassed = d.tachPassed := by rfl)
    (hquiet : e.quiet = d.quiet := by rfl) (hspeed : e.speed = d.speed := by rfl)
    (hrevPulse : e.revPulse = d.revPulse := by rfl) (hrevNumber : e.revNumber = d.revNumber := by rfl)
    (hrevPeriods : e.revPeriods = d.revPeriods := by rfl) : d.SameTacho e :=
  ⟨⟨htachCount, htachPassed, hquiet, hspeed⟩, hrevPulse, hrevNumber, hrevPeriods⟩

theorem stopCommand (d : Drum) : d.SameTacho d.stopCommand := by
  unfold Drum.stopCommand
  split <;> exact of_eq

theorem takeMeasurement (d : Drum) : d.SameTacho d.takeMeasurement := by
  rw [Drum.takeMeasurement_eq]
  exact of_eq

theorem countUnwind (u : PocketUnit) : u.drum.SameTacho u.countUnwind.drum := by
  unfold PocketUnit.countUnwind
  dsimp only
  split <;> exact of_eq

theorem insertUnwind (k : TriggerKind) (dir : Dir) (speed : Nat) (entry : EntryNo) (u : PocketUnit) :
    u.drum.SameTacho (u.insertUnwind k dir speed entry).drum :=
  .trans (.of_eq (d := u.drum) (e := (u.withUnwind k dir speed entry).drum)) ((countUnwind _).trans (stopCommand _))

theorem trigger (k : TriggerKind) (u : PocketUnit) : u.drum.SameTacho (u.trigger k).drum := by
  unfold PocketUnit.trigger
  split
  · exact insertUnwind ..
  · exact .refl _

theorem twistCheck (u : PocketUnit) : u.drum.SameTacho u.twistCheck.drum := by
  unfold PocketUnit.twistCheck
  split
  · exact trigger ..
  · exact .refl _

theorem edgeOnDrum (u : PocketUnit) : u.drum.SameTacho u.edgeOnDrum.drum := by
  unfold PocketUnit.edgeOnDrum
  split
  · exact of_eq
  · exact of_eq
  · dsimp only
    split
    · exact (takeMeasurement _).trans (twistCheck { u with drum := u.drum.takeMeasurement })
    · exact takeMeasurement _
  · exact takeMeasurement _
  · exact .refl _

end Drum.SameTacho

namespace Drum.SameCapture

theorem trans (h : d.SameCapture e) (k : e.SameCapture f) : d.SameCapture f :=
  ⟨k.tachCount.trans h.tachCount, k.tachPassed.trans h.tachPassed, k.quiet.trans h.quiet, k.speed.trans h.speed⟩

/-- A run that begins opens a revolution (R96), but leaves the capture. -/
theorem beginRun (cycles : Nat) (dir : Dir) (speed : Nat) (u : PocketUnit) :
    u.drum.SameCapture (u.beginRun cycles dir speed).drum := by
  have hstop := Drum.SameTacho.stopCommand u.drum
  unfold PocketUnit.beginRun
  split
  · rw [Drum.testSpeedLoss_eq]; exact ⟨rfl, rfl, rfl, rfl⟩
  · rw [Drum.testSpeedLoss_eq]; exact ⟨rfl, rfl, rfl, rfl⟩
  · exact ⟨hstop.tachCount, hstop.tachPassed, hstop.quiet, hstop.speed⟩
  · exact ⟨hstop.tachCount, hstop.tachPassed, hstop.quiet, hstop.speed⟩
  all_goals exact ⟨rfl, rfl, rfl, rfl⟩

theorem beginEntry (cycles : Nat) (u : PocketUnit) : u.drum.SameCapture (u.beginEntry cycles).drum := by
  have hstop := Drum.SameTacho.stopCommand u.drum
  unfold PocketUnit.beginEntry
  split
  · exact ⟨rfl, rfl, rfl, rfl⟩
  · split
    · exact ⟨hstop.tachCount, hstop.tachPassed, hstop.quiet, hstop.speed⟩
    · exact (beginRun ..).trans (Drum.SameTacho.twistCheck _).toSameCapture

theorem endUnwind (cycles : Nat) (u : PocketUnit) : u.drum.SameCapture (u.endUnwind cycles).drum := by
  have hdrop : u.drum.SameCapture u.drum.dropUnwind := by
    unfold Drum.dropUnwind
    split <;> exact ⟨rfl, rfl, rfl, rfl⟩
  have hmove : u.drum.SameCapture u.drum.dropUnwind.moveCursor :=
    ⟨hdrop.tachCount, hdrop.tachPassed, hdrop.quiet, hdrop.speed⟩
  exact hmove.trans (beginEntry cycles { u with drum := u.drum.dropUnwind.moveCursor })

theorem revolution (free cycles : Nat) (u : PocketUnit) : u.drum.SameCapture (u.revolution free cycles).drum := by
  have hmonitor : u.drum.SameCapture (PocketUnit.monitorRevolution free { u with drum := u.drum.countRevolution }).drum :=
    ⟨rfl, rfl, rfl, rfl⟩
  unfold PocketUnit.revolution
  dsimp only
  split
  · exact hmonitor.trans (Drum.SameTacho.trigger _ _).toSameCapture
  · split
    · split
      · exact hmonitor.trans (endUnwind _ _)
      · exact hmonitor
    · exact hmonitor.trans (Drum.SameTacho.twistCheck _).toSameCapture

end Drum.SameCapture

/-! ## The edge's counters -/

/-- The edge taken by the capture and added to the revolution in progress. -/
def PocketUnit.captured (free : Nat) (u : PocketUnit) : PocketUnit :=
  { u with drum := (u.drum.captureEdge free).addPulse { period := u.drum.edgePeriod, counted := u.drum.countedNow } }

/-- The edge with the revolution that it completes on the counters, before the triggers and the drum's state machine. -/
def PocketUnit.edged (free : Nat) (u : PocketUnit) : PocketUnit :=
  if u.drum.revPulse = 11 then
    PocketUnit.monitorRevolution free { u.captured free with drum := (u.captured free).drum.countRevolution }
  else u.captured free

theorem PocketUnit.captured_revPulse (free : Nat) (u : PocketUnit) :
    (u.captured free).drum.revPulse = 12 ↔ u.drum.revPulse = 11 := Nat.succ_inj

theorem PocketUnit.edged_of_revolution (h : u.drum.revPulse = 11) (free : Nat) :
    u.edged free =
      PocketUnit.monitorRevolution free { u.captured free with drum := (u.captured free).drum.countRevolution } := if_pos h

/-- What the counters leave of the pocket and its drum. -/
theorem PocketUnit.edged_keeps (free : Nat) (u : PocketUnit) :
    u.edged free = { u with drum := { u.drum with
      tachCount := 0, tachPassed := false, quiet := 0, speed := edgeSpeed free u.drum.edgePeriod
      revPulse := (u.edged free).drum.revPulse, revNumber := (u.edged free).drum.revNumber
      revPeriods := (u.edged free).drum.revPeriods, imbalanceRun := (u.edged free).drum.imbalanceRun
      twist := if u.drum.revPulse = 11 then twistStep u.drum.dir u.drum.twist else u.drum.twist
      unwind := if u.drum.revPulse = 11 then u.drum.unwind.map Unwind.addRevolution else u.drum.unwind } } := by
  unfold PocketUnit.edged
  split <;> rfl

/-! ## The edge by its cases -/

theorem PocketUnit.tachEdge_of_no_revolution (h : u.drum.revPulse ≠ 11) (free cycles : Nat) :
    u.tachEdge free cycles = (u.edged free).edgeOnDrum := by
  rw [PocketUnit.edged, if_neg h]
  exact if_neg fun hpulse => h ((PocketUnit.captured_revPulse free u).mp hpulse)

theorem PocketUnit.tachEdge_of_revolution (h : u.drum.revPulse = 11) (free cycles : Nat) :
    u.tachEdge free cycles = ((u.captured free).revolution free cycles).edgeOnDrum :=
  if_pos ((PocketUnit.captured_revPulse free u).mpr h)

/-- The completed revolution as the imbalance monitor judges it (R98, R100). -/
def PocketUnit.imbalanceDue (free : Nat) (u : PocketUnit) : Bool :=
  PocketUnit.imbalanceFires free { u.captured free with drum := (u.captured free).drum.countRevolution }

theorem PocketUnit.tachEdge_of_imbalance (h : u.drum.revPulse = 11) (hdue : u.imbalanceDue free = true) (cycles : Nat) :
    u.tachEdge free cycles = ((u.edged free).trigger .imbalance).edgeOnDrum := by
  rw [PocketUnit.tachEdge_of_revolution h, PocketUnit.edged_of_revolution h]
  exact congrArg PocketUnit.edgeOnDrum (if_pos hdue)

theorem PocketUnit.tachEdge_of_none (h : u.drum.revPulse = 11) (hdue : ¬u.imbalanceDue free = true)
    (hunwind : u.drum.unwind = none) (cycles : Nat) :
    u.tachEdge free cycles = (u.edged free).twistCheck.edgeOnDrum := by
  have hnone : (u.edged free).drum.unwind = none := by
    rw [PocketUnit.edged_keeps]
    simp [hunwind]
  rw [PocketUnit.tachEdge_of_revolution h]
  rw [PocketUnit.edged_of_revolution h] at hnone ⊢
  refine congrArg PocketUnit.edgeOnDrum ((if_neg hdue).trans ?_)
  rw [hnone]

/-- A revolution counted in an unwind step, which ends the step or not (R104). -/
theorem PocketUnit.tachEdge_of_unwind (h : u.drum.revPulse = 11) (hdue : ¬u.imbalanceDue free = true)
    (hunwind : u.drum.unwind = some w) (cycles : Nat) :
    u.tachEdge free cycles =
      (if w.addRevolution.turned then (u.edged free).endUnwind cycles else u.edged free).edgeOnDrum := by
  have hstep : (u.edged free).drum.unwind = some w.addRevolution := by
    rw [PocketUnit.edged_keeps]
    simp [h, hunwind]
  rw [PocketUnit.tachEdge_of_revolution h]
  rw [PocketUnit.edged_of_revolution h] at hstep ⊢
  refine congrArg PocketUnit.edgeOnDrum ((if_neg hdue).trans ?_)
  rw [hstep]

/-! ## The imbalance monitor -/

/-- The completed revolution, its number counting it, is a counted one (R98). -/
theorem PocketUnit.countedRevolution_iff (free : Nat) (u : PocketUnit) :
    PocketUnit.countedRevolution { u.captured free with drum := (u.captured free).drum.countRevolution } = true ↔
      u.seq.work.tangle.imbalanceThreshold ≠ 0 ∧ 1 ≤ u.drum.revNumber ∧
        (∀ x ∈ u.drum.revPeriods, x.counted = true ∧ x.period ≠ none) ∧ u.drum.countedNow = true ∧
        u.drum.tachPassed = false ∧ u.drum.tachCount ≤ 65535 := by
  have hnumber : 2 ≤ bump 65535 u.drum.revNumber ↔ 1 ≤ u.drum.revNumber := by
    unfold bump
    omega
  have hperiod : u.drum.edgePeriod.isSome = true ↔ u.drum.tachPassed = false ∧ u.drum.tachCount ≤ 65535 := by
    unfold Drum.edgePeriod captureLimit
    by_cases hpassed : u.drum.tachPassed = true ∨ 65535 < u.drum.tachCount
    · rw [if_pos hpassed]
      refine iff_of_false (by simp) ?_
      rintro ⟨h, hle⟩
      exact hpassed.elim (by simp [h]) (Nat.not_lt.mpr hle)
    · rw [if_neg hpassed]
      refine iff_of_true rfl ?_
      rw [not_or, Nat.not_lt, Bool.not_eq_true] at hpassed
      exact hpassed
  simp only [PocketUnit.countedRevolution, PocketUnit.captured, Drum.countRevolution, Drum.addPulse, Drum.captureEdge,
    List.all_append, List.all_cons, List.all_nil, Bool.and_true, Bool.and_eq_true, decide_eq_true_eq, List.all_eq_true,
    hnumber, hperiod, Option.isSome_iff_ne_none, and_assoc]
  exact and_congr_left' decide_eq_true_iff

/-- A revolution that ends in an uncounted condition fires nothing and leaves the imbalance run (R98, R100). -/
theorem PocketUnit.imbalance_of_uncounted
    (h : ¬PocketUnit.countedRevolution { u.captured free with drum := (u.captured free).drum.countRevolution } = true) :
    ¬u.imbalanceDue free = true ∧ (u.edged free).drum.imbalanceRun = u.drum.imbalanceRun := by
  rw [Bool.not_eq_true] at h
  refine ⟨by simp [PocketUnit.imbalanceDue, PocketUnit.imbalanceFires, h], ?_⟩
  unfold PocketUnit.edged
  split
  · simp only [PocketUnit.monitorRevolution, PocketUnit.nextImbalanceRun, h, Bool.false_eq_true, if_false]
    rfl
  · rfl

theorem PocketUnit.imbalance_of_not_counting (h : u.drum.countedNow = false) :
    ¬u.imbalanceDue free = true ∧ (u.edged free).drum.imbalanceRun = u.drum.imbalanceRun := by
  refine PocketUnit.imbalance_of_uncounted fun hcounted => ?_
  obtain ⟨-, -, -, hnow, -⟩ := (PocketUnit.countedRevolution_iff free u).mp hcounted
  rw [h] at hnow
  cases hnow

theorem Drum.countedNow_of_not_turning (h : d.isTurning = false) : d.countedNow = false := by simp [Drum.countedNow, h]

theorem Drum.countedNow_of_unwind (h : d.unwind = some w) : d.countedNow = false := by
  have hnone : d.runEntry? = none := by
    rw [Option.eq_none_iff_forall_ne_some]
    rintro ⟨dir, speed⟩ hrun
    obtain ⟨-, hnone, -⟩ := Drum.runEntry?_eq_some.mp hrun
    rw [h] at hnone
    cases hnone
  simp [Drum.countedNow, hnone]

/-! ## The drum's state machine at an edge -/

theorem PocketUnit.edgeOnDrum_of_stopping (h : u.drum.state = .stopping) : u.edgeOnDrum = u := by
  simp only [PocketUnit.edgeOnDrum, h]

theorem PocketUnit.edgeOnDrum_of_turning (h : u.drum.state = .turning) :
    u.edgeOnDrum = { u with drum := u.drum.takeMeasurement } := by
  simp only [PocketUnit.edgeOnDrum, h]

theorem PocketUnit.edgeOnDrum_of_rest (h : u.drum.state = .stopped ∨ u.drum.state = .settle) :
    u.edgeOnDrum = { u with drum := { u.drum with state := .stopping, stopTimer := some 0, settleTimer := none } } := by
  rcases h with h | h <;> simp only [PocketUnit.edgeOnDrum, h]

theorem PocketUnit.edgeOnDrum_of_slow (h : u.drum.state = .starting) (hslow : u.drum.speed * 2 < u.drum.commanded) :
    u.edgeOnDrum = u := by
  have hturning : u.drum.isTurning = false := by simp [Drum.isTurning, h]
  simp only [PocketUnit.edgeOnDrum, h, Drum.takeMeasurement_of_slow h hslow, hturning, Bool.false_eq_true, if_false]

theorem PocketUnit.edgeOnDrum_of_fast (h : u.drum.state = .starting) (hfast : u.drum.commanded ≤ u.drum.speed * 2) :
    u.edgeOnDrum = PocketUnit.twistCheck
      { u with drum := { u.drum with state := .turning, startTimer := none, speedLossTimer := none } } := by
  simp only [PocketUnit.edgeOnDrum, h, Drum.takeMeasurement_of_fast h hfast]
  exact if_pos rfl

/-! ## What every edge measures and keeps -/

theorem exec_tachEdge (p : Pocket) (s : State) :
    exec (.tachEdge p) s = .next (s.onUnit p (PocketUnit.tachEdge s.free s.supply.config.reserveCycles)).spendFree := rfl

theorem PocketUnit.tachEdge_twist (free cycles : Nat) (u : PocketUnit) :
    (u.tachEdge free cycles).drum.twist =
      if u.drum.revPulse = 11 then twistStep u.drum.dir u.drum.twist else u.drum.twist := by
  by_cases h : u.drum.revPulse = 11
  · rw [PocketUnit.tachEdge_of_revolution h, PocketUnit.edgeOnDrum_twist, PocketUnit.revolution_twist, if_pos h]
    rfl
  · rw [PocketUnit.tachEdge_of_no_revolution h, PocketUnit.edgeOnDrum_twist, PocketUnit.edged_keeps]

/-- What an edge leaves of the capture (R74, R75). -/
theorem PocketUnit.tachEdge_capture (free cycles : Nat) (u : PocketUnit) :
    (u.tachEdge free cycles).drum.tachCount = 0 ∧ (u.tachEdge free cycles).drum.tachPassed = false ∧
      (u.tachEdge free cycles).drum.quiet = 0 ∧
      (u.tachEdge free cycles).drum.speed = edgeSpeed free u.drum.edgePeriod := by
  have hedge : (u.captured free).drum.SameCapture (u.tachEdge free cycles).drum := by
    unfold PocketUnit.tachEdge
    dsimp only
    split
    · exact (Drum.SameCapture.revolution free cycles (u.captured free)).trans (Drum.SameTacho.edgeOnDrum _).toSameCapture
    · exact (Drum.SameTacho.edgeOnDrum (u.captured free)).toSameCapture
  exact ⟨hedge.tachCount, hedge.tachPassed, hedge.quiet, hedge.speed⟩

theorem Drum.edgePeriod_of_passed (h : d.tachPassed = true ∨ 65535 < d.tachCount) : d.edgePeriod = none := if_pos h

theorem Drum.edgePeriod_of_count (hpassed : d.tachPassed = false) (hcount : d.tachCount ≤ 65535) :
    d.edgePeriod = some d.tachCount := by
  refine if_neg ?_
  rw [hpassed, not_or, Nat.not_lt]
  exact ⟨by simp, hcount⟩

/-- The speed that a capture count gives (R74). -/
theorem edgeSpeed_some {n : Nat} (free : Nat) (h : 1 ≤ n) : edgeSpeed free (some n) = 500000 / n := by
  obtain ⟨m, rfl⟩ := Nat.exists_eq_add_of_le' h
  rfl

/-- The free speed of a count of 0 keeps the bounds of R74 (entry 5). -/
theorem edgeSpeed_zero (free : Nat) : edgeSpeed free (some 0) = 0 ∨ 7 ≤ edgeSpeed free (some 0) ∧ edgeSpeed free (some 0) ≤ 500000 := by
  simp only [edgeSpeed]
  split
  · exact .inl rfl
  · next h => exact .inr ⟨by omega, Nat.min_le_left ..⟩

/-- An edge on a drum that does not turn, no unwind step completing a revolution, is its counters and the drum's state machine
alone. -/
theorem PocketUnit.tachEdge_of_not_turning (hturning : u.drum.isTurning = false)
    (h : u.drum.unwind = none ∨ u.drum.revPulse ≠ 11) (free cycles : Nat) :
    u.tachEdge free cycles = (u.edged free).edgeOnDrum := by
  by_cases hpulse : u.drum.revPulse = 11
  · have hunwind : u.drum.unwind = none := h.resolve_right (not_not_intro hpulse)
    rw [PocketUnit.tachEdge_of_none hpulse
      (PocketUnit.imbalance_of_not_counting (Drum.countedNow_of_not_turning hturning)).1 hunwind,
      PocketUnit.twistCheck_of_not_turning]
    rw [PocketUnit.edged_keeps]
    exact hturning
  · exact PocketUnit.tachEdge_of_no_revolution hpulse free cycles

/-- What the counters keep of a pocket, field by field. -/
theorem PocketUnit.edged_does (free : Nat) (u : PocketUnit) :
    let v := u.edged free
    v.seq = u.seq ∧ v.drum.state = u.drum.state ∧ v.drum.commanded = u.drum.commanded ∧ v.drum.order = u.drum.order ∧
      v.drum.segment = u.drum.segment ∧ v.drum.table = u.drum.table ∧ v.drum.startTimer = u.drum.startTimer ∧
      v.drum.speedLossTimer = u.drum.speedLossTimer ∧ v.drum.speed = edgeSpeed free u.drum.edgePeriod ∧
      v.drum.twist = (if u.drum.revPulse = 11 then twistStep u.drum.dir u.drum.twist else u.drum.twist) ∧
      v.drum.unwind = (if u.drum.revPulse = 11 then u.drum.unwind.map Unwind.addRevolution else u.drum.unwind) := by
  dsimp only
  rw [PocketUnit.edged_keeps]
  exact ⟨rfl, rfl, rfl, rfl, rfl, rfl, rfl, rfl, rfl, rfl, rfl⟩

/-- A twist check that fires stops the drum and inserts a step of the twist kind at the cursor (R101, R102). -/
theorem PocketUnit.twistCheck_interrupts (h : u.twistFires = true) :
    u.twistCheck.drum.state = .stopping ∧ u.twistCheck.drum.runOutput = false ∧ u.twistCheck.drum.startTimer = none ∧
      u.twistCheck.drum.speedLossTimer = none ∧ u.twistCheck.drum.imbalanceRun = 0 ∧
      ∃ w, u.twistCheck.drum.unwind = some w ∧ w.trigger = .twist ∧ w.stage = .stop ∧
        some w.interrupted = u.twistCheck.drum.segment.map Segment.cursor := by
  obtain ⟨hturning, horder, hunwind, -, -, g, hsegment, hmotion⟩ := (PocketUnit.twistFires_iff u).mp h
  obtain ⟨dir, hrun⟩ : ∃ dir, u.drum.table[g.cursor].motion = .run dir := hmotion.elim (fun h => ⟨_, h.1⟩) fun h => ⟨_, h.1⟩
  obtain ⟨hstate, hoff, hstep, hkept, himbalance, -, -, -, -, hstart, hloss, -⟩ :=
    PocketUnit.insertUnwind_of_turning (k := .twist) (dir := dir) hturning u.drum.table[g.cursor].speed g.cursor
  rw [PocketUnit.twistCheck_of_fires h, PocketUnit.trigger_of_run horder hunwind hsegment hrun]
  exact ⟨hstate, hoff, hstart, hloss, himbalance, _, hstep, rfl, rfl, by rw [hkept, hsegment]; rfl⟩

/-- Settles O24: what every edge does, and the state machine by the drum's state (R74, R79, R97, R101). -/
theorem tachEdgeMeasuresAndCounts : Obligations.TachEdgeMeasuresAndCounts := by
  unfold Obligations.TachEdgeMeasuresAndCounts
  intro p s
  have hunit : ((s.onUnit p (PocketUnit.tachEdge s.free s.supply.config.reserveCycles)).spendFree).unit p =
      (s.unit p).tachEdge s.free s.supply.config.reserveCycles := by simp
  refine ⟨_, exec_tachEdge p s, State.onUnit_sameElsewhere .., State.onUnit_pool .., State.onUnit_link .., ?_⟩
  rw [hunit]
  generalize s.supply.config.reserveCycles = cycles
  generalize s.unit p = u
  generalize s.free = free
  have hkeeps := (PocketUnit.DrumTurn.edge (cycles := cycles) (u := u) free).motion
  obtain ⟨hcount, hpassed, hquiet, hspeed⟩ := PocketUnit.tachEdge_capture free cycles u
  have htwist := PocketUnit.tachEdge_twist free cycles u
  obtain ⟨hseq, hstate, hcommanded, horder, hsegment, htable, hstart, hloss, hspeed', htwist', hunwind'⟩ :=
    PocketUnit.edged_does free u
  rw [← hspeed] at hspeed'
  rw [← htwist] at htwist'
  refine ⟨hcount, hpassed, hquiet, fun hfresh hlow hhigh => ?_, fun hover => ?_, fun hfresh hzero => ?_, htwist,
    fun hstarting hunwound => ?starting, fun hturning hpulse => ?turning, PocketUnit.tachEdge_dir free cycles u, hkeeps.table,
    hkeeps.seq, hkeeps.moist, hkeeps.faults, hkeeps.pins⟩
  · rw [hspeed, Drum.edgePeriod_of_count hfresh hhigh, edgeSpeed_some free hlow]
  · rw [hspeed, Drum.edgePeriod_of_passed hover, edgeSpeed]
  · rw [hspeed, Drum.edgePeriod_of_count hfresh (by omega), hzero]
    exact edgeSpeed_zero free
  case starting =>
    have hedge := PocketUnit.tachEdge_of_not_turning (by simp [Drum.isTurning, hstarting]) hunwound free cycles
    have hunwind : (u.edged free).drum.unwind = u.drum.unwind := by
      rw [hunwind']
      split
      · next hpulse => rw [hunwound.resolve_right (not_not_intro hpulse)]; rfl
      · rfl
    refine ⟨fun hslow => ?_, fun hfast => ?_⟩
    · rw [← hspeed', ← hcommanded] at hslow
      rw [hedge, PocketUnit.edgeOnDrum_of_slow (hstate.trans hstarting) hslow]
      exact ⟨hstate.trans hstarting, hstart, hunwind⟩
    · rw [← hspeed', ← hcommanded] at hfast
      let y : PocketUnit :=
        { u.edged free with
          drum := { (u.edged free).drum with state := .turning, startTimer := none, speedLossTimer := none } }
      have hchecked : u.tachEdge free cycles = y.twistCheck :=
        hedge.trans (PocketUnit.edgeOnDrum_of_fast (hstate.trans hstarting) hfast)
      obtain ⟨hyseq, hystate, hyorder, hysegment, hytable, hyunwind, hytwist, hystart, hyloss⟩ :
          y.seq = u.seq ∧ y.drum.state = .turning ∧ y.drum.order = u.drum.order ∧ y.drum.segment = u.drum.segment ∧
            y.drum.table = u.drum.table ∧ y.drum.unwind = u.drum.unwind ∧
            y.drum.twist = (u.tachEdge free cycles).drum.twist ∧ y.drum.startTimer = none ∧ y.drum.speedLossTimer = none :=
        ⟨hseq, rfl, horder, hsegment, htable, hunwind, htwist', rfl, rfl⟩
      clear_value y
      have hfires := PocketUnit.twistFires_iff y
      rw [hyseq, hystate, hyorder, hysegment, hytable, hyunwind, hytwist] at hfires
      simp only [true_and] at hfires
      rw [← hfires, hchecked]
      by_cases h : y.twistFires = true
      · obtain ⟨hstopping, hoff, hnostart, hnoloss, -, w, hw, htrigger, hstage, -⟩ := PocketUnit.twistCheck_interrupts h
        exact ⟨hnostart, hnoloss, fun hnot => absurd h hnot, fun _ => ⟨hstopping, hoff, w, hw, htrigger, hstage⟩⟩
      · rw [PocketUnit.twistCheck_of_not_fires h]
        exact ⟨hystart, hyloss, fun _ => ⟨hystate, hyunwind⟩, fun hyes => absurd hyes h⟩
  case turning =>
    rw [if_neg hpulse] at hunwind'
    have hmeasured := Drum.takeMeasurement_of_turning (d := (u.edged free).drum) (hstate.trans hturning)
    rw [PocketUnit.tachEdge_of_no_revolution hpulse] at hspeed' ⊢
    rw [PocketUnit.edgeOnDrum_of_turning (hstate.trans hturning)] at hspeed' ⊢
    dsimp only at hspeed' ⊢
    rw [← hspeed', hmeasured, hcommanded, hloss]
    exact ⟨hstate.trans hturning, hunwind', rfl⟩

end

end Sys2Proof.Machine
end

section
/-! Unwind steps and stops (R81, R102 to R106): the triggers at a completed revolution, an unwind step's end, and the confirmation
of a stop. -/

namespace Sys2Proof.Machine

section
variable {s : State} {p : Pocket} {u : PocketUnit} {d : Drum} {dir : Dir} {g : Segment} {e : MotionEntry} {k : TriggerKind}
  {w : Unwind} {free cycles : Nat}

/-! ## What follows an unwind step (R105, R106) -/

/-- A drum with no unwind step, or with a new one that a twist trigger inserted at its cursor, and with no imbalance run. -/
def Drum.FreshlyUnwound (d : Drum) : Prop :=
  d.imbalanceRun = 0 ∧ (d.unwind = none ∨ ∃ w, d.unwind = some w ∧ w.trigger = .twist ∧ w.stage = .stop ∧
    some w.interrupted = d.segment.map Segment.cursor)

theorem PocketUnit.twistCheck_freshlyUnwound (h : u.drum.FreshlyUnwound) : u.twistCheck.drum.FreshlyUnwound := by
  by_cases hfires : u.twistFires = true
  · obtain ⟨-, -, -, -, himbalance, hunwind⟩ := PocketUnit.twistCheck_interrupts hfires
    exact ⟨himbalance, .inr hunwind⟩
  · rwa [PocketUnit.twistCheck_of_not_fires hfires]

/-- A run that begins keeps a drum without unwind step so, its imbalance run at 0. -/
theorem PocketUnit.beginRun_unwound (cycles : Nat) (dir : Dir) (speed : Nat) (himbalance : u.drum.imbalanceRun = 0)
    (hunwind : u.drum.unwind = none) :
    (u.beginRun cycles dir speed).drum.imbalanceRun = 0 ∧ (u.beginRun cycles dir speed).drum.unwind = none := by
  have hstop := u.drum.stopCommand_keeps
  obtain ⟨-, -, -, -, -, -, -, hkept, -, -, -, hrun⟩ := hstop
  unfold PocketUnit.beginRun
  split
  · rw [Drum.testSpeedLoss_eq]; simp [himbalance, hunwind]
  · rw [Drum.testSpeedLoss_eq]; simp [himbalance, hunwind]
  · exact ⟨hrun.trans himbalance, hkept.trans hunwind⟩
  · exact ⟨hrun.trans himbalance, hkept.trans hunwind⟩
  all_goals simp [PocketUnit.assertDirection, Drum.awaitStop, Drum.awaitReversal, himbalance, hunwind]

theorem PocketUnit.beginEntry_freshlyUnwound (cycles : Nat) (himbalance : u.drum.imbalanceRun = 0)
    (hunwind : u.drum.unwind = none) : (u.beginEntry cycles).drum.FreshlyUnwound := by
  have hstop := u.drum.stopCommand_keeps
  obtain ⟨-, -, -, -, -, -, -, hkept, -, -, -, hrun⟩ := hstop
  unfold PocketUnit.beginEntry
  split
  · exact ⟨himbalance, .inl hunwind⟩
  · split
    · exact ⟨hrun.trans himbalance, .inl (hkept.trans hunwind)⟩
    · obtain ⟨himbalance, hunwind⟩ := PocketUnit.beginRun_unwound cycles _ _ himbalance hunwind
      exact PocketUnit.twistCheck_freshlyUnwound ⟨himbalance, .inl hunwind⟩

/-- The end of an unwind step (R105). -/
theorem PocketUnit.endUnwind_freshlyUnwound (cycles : Nat) (hunwind : u.drum.unwind = some w) :
    (u.endUnwind cycles).drum.FreshlyUnwound := by
  have hdrop : u.drum.dropUnwind = { u.drum with unwind := none, imbalanceRun := 0 } := by
    rw [Drum.dropUnwind, if_pos (by simp [hunwind])]
  exact PocketUnit.beginEntry_freshlyUnwound (u := { u with drum := u.drum.dropUnwind.moveCursor }) cycles
    (by rw [hdrop]; rfl) (by rw [hdrop]; rfl)

theorem PocketUnit.endUnwind_segment (cycles : Nat) (hsegment : u.drum.segment = some g) :
    (u.endUnwind cycles).drum.segment = some { g with cursor := if g.cursor = g.last then g.first else g.cursor + 1 } :=
  (PocketUnit.endUnwind_step cycles u).2.2.trans (by rw [hsegment]; rfl)

/-- The drum's state machine at an edge keeps the segment, and inserts at most a twist step where there is none (R101). -/
theorem PocketUnit.edgeOnDrum_segment (u : PocketUnit) : u.edgeOnDrum.drum.segment = u.drum.segment := by
  have hmeasured : u.drum.takeMeasurement.segment = u.drum.segment := by rw [Drum.takeMeasurement_eq]
  unfold PocketUnit.edgeOnDrum
  split
  · rfl
  · rfl
  · dsimp only
    split
    · exact (PocketUnit.twistCheck_step _).2.2.1.trans hmeasured
    · exact hmeasured
  · exact hmeasured
  · rfl

theorem PocketUnit.edgeOnDrum_freshlyUnwound (h : u.drum.FreshlyUnwound) : u.edgeOnDrum.drum.FreshlyUnwound := by
  have hmeasured : u.drum.takeMeasurement.FreshlyUnwound := by rw [Drum.takeMeasurement_eq]; exact h
  unfold PocketUnit.edgeOnDrum
  split
  · exact h
  · exact h
  · dsimp only
    split
    · exact PocketUnit.twistCheck_freshlyUnwound hmeasured
    · exact hmeasured
  · exact hmeasured
  · exact h

/-- An unwind step in progress is not touched by the drum's state machine (R101). -/
theorem PocketUnit.edgeOnDrum_unwind (h : u.drum.unwind = some w) : u.edgeOnDrum.drum.unwind = some w := by
  have hmeasured : u.drum.takeMeasurement.unwind = some w := by rw [Drum.takeMeasurement_eq]; exact h
  unfold PocketUnit.edgeOnDrum
  split
  · exact h
  · exact h
  · dsimp only
    split
    · rw [PocketUnit.twistCheck_of_not_fires]
      · exact hmeasured
      · rw [PocketUnit.twistFires_iff]
        rintro ⟨-, -, hnone, -⟩
        rw [hmeasured] at hnone
        cases hnone
    · exact hmeasured
  · exact hmeasured
  · exact h

/-! ## The end of an unwind step -/

/-- The pocket whose unwind step goes on to its run (R103). -/
def PocketUnit.unwinding (w : Unwind) (u : PocketUnit) : PocketUnit :=
  { u with drum := { u.drum with unwind := some { w with stage := .run } } }

theorem Unwind.turned_addRevolution (w : Unwind) :
    w.addRevolution.turned = true ↔ w.asserted = true ∧ w.required ≤ w.completed + 1 := by
  unfold Unwind.addRevolution Unwind.turned
  cases h : w.asserted <;> simp [h]

theorem Unwind.addRevolution_of_asserted (h : w.asserted = true) : w.addRevolution = { w with completed := w.completed + 1 } :=
  if_pos h

theorem Unwind.addRevolution_of_not_asserted (h : w.asserted = false) : w.addRevolution = w := if_neg (by simp [h])

theorem PocketUnit.edged_unwind (hpulse : u.drum.revPulse = 11) (hunwind : u.drum.unwind = some w) (free : Nat) :
    (u.edged free).drum.unwind = some w.addRevolution ∧ (u.edged free).drum.segment = u.drum.segment := by
  obtain ⟨-, -, -, -, hsegment, -, -, -, -, -, hstep⟩ := PocketUnit.edged_does free u
  exact ⟨by rw [hstep, if_pos hpulse, hunwind]; rfl, hsegment⟩

/-- A revolution that does not end its unwind step is counted in it (R104). -/
theorem PocketUnit.tachEdge_counts (hpulse : u.drum.revPulse = 11) (hunwind : u.drum.unwind = some w)
    (hsegment : u.drum.segment = some g) (h : ¬w.addRevolution.turned = true) (free cycles : Nat) :
    (u.tachEdge free cycles).drum.unwind = some w.addRevolution ∧ (u.tachEdge free cycles).drum.segment = some g := by
  obtain ⟨hstep, hkept⟩ := PocketUnit.edged_unwind hpulse hunwind free
  rw [PocketUnit.tachEdge_of_unwind hpulse
    (PocketUnit.imbalance_of_not_counting (Drum.countedNow_of_unwind hunwind)).1 hunwind, if_neg h]
  exact ⟨PocketUnit.edgeOnDrum_unwind hstep, (PocketUnit.edgeOnDrum_segment _).trans (hkept.trans hsegment)⟩

/-- The revolution that ends its unwind step (R104, R105). -/
theorem PocketUnit.tachEdge_ends (hpulse : u.drum.revPulse = 11) (hunwind : u.drum.unwind = some w)
    (hsegment : u.drum.segment = some g) (h : w.addRevolution.turned = true) (free cycles : Nat) :
    (u.tachEdge free cycles).drum.FreshlyUnwound ∧
      (u.tachEdge free cycles).drum.segment =
        some { g with cursor := if g.cursor = g.last then g.first else g.cursor + 1 } := by
  obtain ⟨hstep, hkept⟩ := PocketUnit.edged_unwind hpulse hunwind free
  rw [PocketUnit.tachEdge_of_unwind hpulse
    (PocketUnit.imbalance_of_not_counting (Drum.countedNow_of_unwind hunwind)).1 hunwind, if_pos h]
  exact ⟨PocketUnit.edgeOnDrum_freshlyUnwound (PocketUnit.endUnwind_freshlyUnwound cycles hstep),
    (PocketUnit.edgeOnDrum_segment _).trans (PocketUnit.endUnwind_segment cycles (hkept.trans hsegment))⟩

/-- Settles O27: the revolution counted or ending the step, the bound, and the loosen dwell (R103 to R105). -/
theorem unwindStepEnds : Obligations.UnwindStepEnds := by
  unfold Obligations.UnwindStepEnds
  refine ⟨fun p w g s hunwind hpulse hsegment => ?turns, fun p w g s hunwind hstage hasserted htimer hsegment => ?bound,
    fun p w s hunwind hstage htimer hstopped hdir => ?loosened⟩
  case turns =>
    have hunit : ((s.onUnit p (PocketUnit.tachEdge s.free s.supply.config.reserveCycles)).spendFree).unit p =
        (s.unit p).tachEdge s.free s.supply.config.reserveCycles := by simp
    refine ⟨_, exec_tachEdge p s, State.onUnit_sameElsewhere .., State.onUnit_pool .., State.onUnit_link .., ?_⟩
    rw [hunit]
    have htwist := PocketUnit.tachEdge_twist s.free s.supply.config.reserveCycles (s.unit p)
    rw [if_pos hpulse] at htwist
    refine ⟨htwist, (PocketUnit.DrumTurn.edge s.free).motion.seq, fun hnot => ?_, fun hasserted hshort => ?_,
      fun hasserted hdone => ?_⟩
    · have h := PocketUnit.tachEdge_counts hpulse hunwind hsegment
        (fun h => by simpa [hnot] using ((Unwind.turned_addRevolution w).mp h).1) s.free s.supply.config.reserveCycles
      rwa [Unwind.addRevolution_of_not_asserted hnot] at h
    · have h := PocketUnit.tachEdge_counts hpulse hunwind hsegment
        (fun h => absurd ((Unwind.turned_addRevolution w).mp h).2 (Nat.not_le.mpr hshort)) s.free
        s.supply.config.reserveCycles
      rwa [Unwind.addRevolution_of_asserted hasserted] at h
    · obtain ⟨⟨himbalance, hfresh⟩, hnext⟩ := PocketUnit.tachEdge_ends hpulse hunwind hsegment
        ((Unwind.turned_addRevolution w).mpr ⟨hasserted, hdone⟩) s.free s.supply.config.reserveCycles
      exact ⟨hnext, himbalance, hfresh⟩
  case bound =>
    have hexec : exec (.unwindBoundExpiry p) s =
        .next (s.onUnit p (PocketUnit.endUnwind s.supply.config.reserveCycles)) := by
      change execUnwindBoundExpiry p s = _
      rw [execUnwindBoundExpiry, if_pos ((Drum.unwindBoundDue_iff _).mpr ⟨w, hunwind, hstage, hasserted, htimer⟩)]
    refine ⟨_, hexec, State.onUnit_sameElsewhere .., State.onUnit_pool .., State.onUnit_link .., ?_⟩
    rw [State.onUnit_unit]
    obtain ⟨himbalance, hfresh⟩ := PocketUnit.endUnwind_freshlyUnwound s.supply.config.reserveCycles hunwind
    obtain ⟨hstep, -⟩ := PocketUnit.endUnwind_step s.supply.config.reserveCycles (s.unit p)
    exact ⟨PocketUnit.endUnwind_segment _ hsegment, himbalance, hfresh, hstep.twist, hstep.seq⟩
  case loosened =>
    have hover : (s.unit p).loosenOver s.supply.config.reserveCycles = ((s.unit p).unwinding w).beginRun
        s.supply.config.reserveCycles w.dir w.speed := by
      simp only [PocketUnit.loosenOver, hunwind]
      rfl
    have hexec : exec (.loosenDwellExpiry p) s =
        .next (s.onUnit p (PocketUnit.loosenOver s.supply.config.reserveCycles)) := by
      change execLoosenDwellExpiry p s = _
      rw [execLoosenDwellExpiry, if_pos ((PocketUnit.loosenDue_iff _).mpr ⟨w, hunwind, hstage, htimer⟩)]
    refine ⟨_, hexec, State.onUnit_sameElsewhere .., State.onUnit_pool .., State.onUnit_link .., ?_⟩
    rw [State.onUnit_unit, hover, PocketUnit.beginRun_of_stopped (u := (s.unit p).unwinding w) _ _ hstopped (Ne.symm hdir)]
    exact ⟨rfl, rfl, rfl, rfl, rfl, rfl, rfl⟩

/-! ## The confirmation of a stop (R81, R103) -/

theorem exec_stopConfirmed_due (hstate : (s.unit p).drum.state = .stopping) (hquiet : 800000 ≤ (s.unit p).drum.quiet) :
    exec (.stopConfirmed p) s = .next (s.onUnit p (PocketUnit.confirmStop s.supply.config.reserveCycles)) := by
  change execStopConfirmed p s = _
  rw [execStopConfirmed, if_pos ((Drum.stopDue_iff _).mpr ⟨hstate, hquiet⟩)]

/-- The pocket with its stop confirmed and no direction pending, before an unwind goes on (R81). -/
def PocketUnit.confirmed (u : PocketUnit) : PocketUnit :=
  { u with drum := { u.drum with state := .stopped, stopTimer := none, settleTimer := some 0 } }

theorem PocketUnit.confirmStop_of_none (h : u.drum.pendingDir = none) (cycles : Nat) :
    u.confirmStop cycles = u.confirmed.unwindAfterStop cycles := by
  simp only [PocketUnit.confirmStop, PocketUnit.confirmed, h]

theorem PocketUnit.unwindAfterStop_of_none (h : u.drum.unwind = none) (cycles : Nat) : u.unwindAfterStop cycles = u := by
  simp only [PocketUnit.unwindAfterStop, h]

theorem PocketUnit.unwindAfterStop_of_stop (h : u.drum.unwind = some w) (hstage : w.stage = .stop) (cycles : Nat) :
    u.unwindAfterStop cycles =
      if w.trigger = .imbalance ∧ u.seq.work.tangle.loosenDwell ≠ 0 then
        { u with drum := { u.drum with unwind := some { w with stage := .loosen, timer := 0 } } }
      else (u.unwinding w).beginRun cycles w.dir w.speed := by
  simp only [PocketUnit.unwindAfterStop, h, hstage]
  rfl

theorem PocketUnit.beginRun_stopTimer (cycles : Nat) (dir : Dir) (speed : Nat) (hs : u.drum.state = .stopped)
    (h : u.drum.stopTimer = none) : (u.beginRun cycles dir speed).drum.stopTimer = none := by
  by_cases hd : dir = u.drum.dir
  · subst hd
    rw [PocketUnit.beginRun_asserts cycles speed (.inr (.inl hs))]
    rfl
  · rw [PocketUnit.beginRun_of_stopped cycles speed hs hd]
    exact h

theorem PocketUnit.confirmStop_stopTimer (cycles : Nat) (u : PocketUnit) : (u.confirmStop cycles).drum.stopTimer = none := by
  unfold PocketUnit.confirmStop
  split
  · rfl
  · unfold PocketUnit.unwindAfterStop
    split
    · split
      · split
        · rfl
        · exact PocketUnit.beginRun_stopTimer cycles _ _ rfl rfl
      · rfl
    · rfl

theorem PocketUnit.confirmStop_twist (cycles : Nat) (u : PocketUnit) : (u.confirmStop cycles).drum.twist = u.drum.twist := by
  unfold PocketUnit.confirmStop
  split
  · rfl
  · exact PocketUnit.unwindAfterStop_twist ..

/-- An edge on a drum at rest leaves it STOPPING, no unwind run being under way (R81, R82). -/
theorem PocketUnit.tachEdge_disturbs (hs : u.drum.state = .stopped ∨ u.drum.state = .settle)
    (hunwind : ∀ w, u.drum.unwind = some w → w.asserted = false) (free cycles : Nat) :
    (u.tachEdge free cycles).drum.state = .stopping ∧ (u.tachEdge free cycles).drum.stopTimer = some 0 ∧
      (u.tachEdge free cycles).drum.pendingDir = u.drum.pendingDir ∧
      (u.tachEdge free cycles).drum.settleTimer = none := by
  have hturning : u.drum.isTurning = false := by rcases hs with h | h <;> simp [Drum.isTurning, h]
  have hedge : u.tachEdge free cycles = (u.edged free).edgeOnDrum := by
    by_cases hpulse : u.drum.revPulse = 11
    · cases hw : u.drum.unwind with
      | none => exact PocketUnit.tachEdge_of_not_turning hturning (.inl hw) free cycles
      | some w =>
        rw [PocketUnit.tachEdge_of_unwind hpulse
          (PocketUnit.imbalance_of_not_counting (Drum.countedNow_of_not_turning hturning)).1 hw, if_neg]
        rw [Unwind.turned_addRevolution, hunwind w hw]
        simp
    · exact PocketUnit.tachEdge_of_no_revolution hpulse free cycles
  have hrest : (u.edged free).drum.state = .stopped ∨ (u.edged free).drum.state = .settle := by
    obtain ⟨-, hstate, -⟩ := PocketUnit.edged_does free u
    rwa [hstate]
  rw [hedge, PocketUnit.edgeOnDrum_of_rest hrest, PocketUnit.edged_keeps]
  exact ⟨rfl, rfl, rfl, rfl⟩

/-- Settles O28: the confirmation by the pending direction and the unwind step, and the edge on a drum at rest. -/
theorem stopConfirmedAndDisturbed : Obligations.StopConfirmedAndDisturbed := by
  unfold Obligations.StopConfirmedAndDisturbed
  refine ⟨fun p s hstate hquiet => ?confirmed, fun p s hstate hunwind => ?disturbed⟩
  case confirmed =>
    refine ⟨_, exec_stopConfirmed_due hstate hquiet, State.onUnit_sameElsewhere .., State.onUnit_pool ..,
      State.onUnit_link .., ?_⟩
    rw [State.onUnit_unit]
    generalize s.supply.config.reserveCycles = cycles
    refine ⟨PocketUnit.confirmStop_stopTimer .., PocketUnit.confirmStop_dir .., PocketUnit.confirmStop_twist ..,
      (PocketUnit.DrumTurn.stopConfirmed hstate).motion.seq, fun dir hdir => ?_, fun hnone hunwind => ?_, fun w hnone hunwind hstage => ?_⟩
    · rw [PocketUnit.confirmStop_of_pending cycles hdir]
      exact ⟨rfl, rfl, hdir⟩
    · rw [PocketUnit.confirmStop_of_none hnone,
        PocketUnit.unwindAfterStop_of_none (u := (s.unit p).confirmed) hunwind]
      exact ⟨rfl, rfl⟩
    · rw [PocketUnit.confirmStop_of_none hnone,
        PocketUnit.unwindAfterStop_of_stop (u := (s.unit p).confirmed) hunwind hstage]
      by_cases hloosens : w.trigger = .imbalance ∧ (s.unit p).seq.work.tangle.loosenDwell ≠ 0
      · have hconfirmed : w.trigger = .imbalance ∧ (s.unit p).confirmed.seq.work.tangle.loosenDwell ≠ 0 := hloosens
        rw [if_pos hconfirmed, if_pos hloosens]
        exact ⟨rfl, rfl⟩
      · have hconfirmed : ¬(w.trigger = .imbalance ∧ (s.unit p).confirmed.seq.work.tangle.loosenDwell ≠ 0) := hloosens
        rw [if_neg hconfirmed, if_neg hloosens]
        intro hdir
        rw [PocketUnit.beginRun_of_stopped (u := (s.unit p).confirmed.unwinding w) _ _ rfl hdir]
        exact ⟨rfl, rfl, rfl⟩
  case disturbed =>
    have hunit : ((s.onUnit p (PocketUnit.tachEdge s.free s.supply.config.reserveCycles)).spendFree).unit p =
        (s.unit p).tachEdge s.free s.supply.config.reserveCycles := by simp
    obtain ⟨hstopping, htimer, hpending, hsettle⟩ :=
      PocketUnit.tachEdge_disturbs hstate hunwind s.free s.supply.config.reserveCycles
    refine ⟨_, exec_tachEdge p s, ?_⟩
    rw [hunit]
    exact ⟨hstopping, htimer, hpending, by simp [Drum.runOutput, hstopping], fun _ => hsettle⟩

end

end Sys2Proof.Machine
end

section
/-! The triggers at a completed revolution (R98 to R102): the imbalance measure of twelve periods, and the two triggers in their
order. -/

namespace Sys2Proof.Machine

section
variable {s : State} {p : Pocket} {u : PocketUnit} {d : Drum} {dir : Dir} {g : Segment} {e : MotionEntry} {k : TriggerKind}
  {free cycles : Nat}

/-! ## The measure of a revolution (R99) -/

/-- The largest of a list of periods. -/
theorem foldl_max_eq {l : List Nat} {hi : Nat} : ∀ {a : Nat}, a ≤ hi → hi ∈ l ∨ a = hi → (∀ x ∈ l, x ≤ hi) →
    l.foldl max a = hi := by
  induction l with
  | nil =>
    intro a _ hmem _
    exact hmem.resolve_left (by simp)
  | cons y ys ih =>
    intro a ha hmem hle
    have hy : y ≤ hi := hle y (by simp)
    refine ih (Nat.max_le.mpr ⟨ha, hy⟩) ?_ fun x hx => hle x (List.mem_cons_of_mem _ hx)
    rcases hmem with hmem | rfl
    · rcases List.mem_cons.mp hmem with rfl | hmem
      · exact .inr (Nat.max_eq_right ha)
      · exact .inl hmem
    · exact .inr (Nat.max_eq_left hy)

/-- The smallest of a list of periods. -/
theorem foldl_min_eq {l : List Nat} {lo : Nat} : ∀ {a : Nat}, lo ≤ a → lo ∈ l ∨ a = lo → (∀ x ∈ l, lo ≤ x) →
    l.foldl min a = lo := by
  induction l with
  | nil =>
    intro a _ hmem _
    exact hmem.resolve_left (by simp)
  | cons y ys ih =>
    intro a ha hmem hle
    have hy : lo ≤ y := hle y (by simp)
    refine ih (Nat.le_min.mpr ⟨ha, hy⟩) ?_ fun x hx => hle x (List.mem_cons_of_mem _ hx)
    rcases hmem with hmem | rfl
    · rcases List.mem_cons.mp hmem with rfl | hmem
      · exact .inr (Nat.min_eq_right ha)
      · exact .inl hmem
    · exact .inr (Nat.min_eq_left hy)

theorem length_le_sum {l : List Nat} (h : ∀ x ∈ l, 1 ≤ x) : l.length ≤ l.sum := by
  induction l with
  | nil => exact Nat.le_refl 0
  | cons x xs ih =>
    have hx : 1 ≤ x := h x List.mem_cons_self
    have hxs : xs.length ≤ xs.sum := ih fun y hy => h y (List.mem_cons_of_mem _ hy)
    rw [List.length_cons, List.sum_cons]
    omega

/-- The measure of twelve periods of at least one count (R99): no free value enters. -/
theorem imbalanceMeasure_eq {l : List Nat} {hi lo : Nat} (hlength : l.length = 12) (hrange : ∀ x ∈ l, 1 ≤ x ∧ x ≤ 65535)
    (hhi : hi ∈ l) (hlo : lo ∈ l) (hbounds : ∀ x ∈ l, lo ≤ x ∧ x ≤ hi) (free : Nat) :
    imbalanceMeasure free l = min 1023 ((hi - lo) * 256 / (l.sum / 12)) := by
  have hsum : 12 ≤ l.sum := hlength ▸ length_le_sum fun x hx => (hrange x hx).1
  have hmean : l.sum / 12 ≠ 0 := Nat.ne_of_gt (Nat.div_pos hsum (by omega))
  have hmax : l.foldl max 0 = hi := foldl_max_eq (Nat.zero_le _) (.inl hhi) fun x hx => (hbounds x hx).2
  have hmin : l.foldl min captureLimit = lo :=
    foldl_min_eq (hrange lo hlo).2 (.inl hlo) fun x hx => (hbounds x hx).1
  simp only [imbalanceMeasure, if_neg hmean, hmax, hmin]

theorem filterMap_period_length {l : List EdgeRecord} (h : ∀ x ∈ l, x.period ≠ none) :
    (l.filterMap EdgeRecord.period).length = l.length := by
  induction l with
  | nil => rfl
  | cons x xs ih =>
    obtain ⟨n, hn⟩ := Option.ne_none_iff_exists'.mp (h x (by simp))
    rw [List.filterMap_cons, hn, List.length_cons, List.length_cons, ih fun y hy => h y (List.mem_cons_of_mem _ hy)]

/-! ## The revolution in a run entry -/

theorem Drum.countedNow_of_run (hturning : d.state = .turning) (horder : d.order = .runSegment) (hunwind : d.unwind = none)
    (hsegment : d.segment = some g) (hmotion : d.table[g.cursor].motion = .run dir) : d.countedNow = true := by
  have hrun : d.runEntry? = some (dir, d.table[g.cursor].speed) :=
    Drum.runEntry?_eq_some.mpr ⟨horder, hunwind, g, hsegment, hmotion, rfl⟩
  simp [Drum.countedNow, Drum.isTurning, hturning, hrun]

/-- The periods of the completed revolution. -/
def Drum.periods (d : Drum) : List Nat := d.revPeriods.filterMap EdgeRecord.period ++ [d.tachCount]

/-- A counted revolution is judged by the measure of its periods (R98 to R100). -/
theorem PocketUnit.imbalance_of_counted
    (h : PocketUnit.countedRevolution { u.captured free with drum := (u.captured free).drum.countRevolution } = true)
    (hpulse : u.drum.revPulse = 11) :
    (u.imbalanceDue free = true ↔
      u.seq.work.tangle.imbalanceThreshold < imbalanceMeasure free u.drum.periods ∧
        u.drum.imbalanceRun + 1 = u.seq.work.tangle.imbalanceRevs) ∧
      (u.edged free).drum.imbalanceRun =
        if u.seq.work.tangle.imbalanceThreshold < imbalanceMeasure free u.drum.periods then u.drum.imbalanceRun + 1 else 0 := by
  obtain ⟨-, -, -, -, hpassed, hcount⟩ := (PocketUnit.countedRevolution_iff free u).mp h
  have hperiods : ((u.captured free).drum.countRevolution.revPeriods.filterMap EdgeRecord.period) = u.drum.periods := by
    simp [PocketUnit.captured, Drum.countRevolution, Drum.addPulse, Drum.captureEdge, Drum.periods,
      Drum.edgePeriod_of_count hpassed hcount]
  have hunbalanced : PocketUnit.unbalanced free { u.captured free with drum := (u.captured free).drum.countRevolution } = true ↔
      u.seq.work.tangle.imbalanceThreshold < imbalanceMeasure free u.drum.periods := by
    simp only [PocketUnit.unbalanced, hperiods, decide_eq_true_eq]
    rfl
  constructor
  · rw [PocketUnit.imbalanceDue, PocketUnit.imbalanceFires, h, Bool.true_and, Bool.and_eq_true, hunbalanced,
      decide_eq_true_eq]
    rfl
  · rw [PocketUnit.edged_of_revolution hpulse]
    simp only [PocketUnit.monitorRevolution, PocketUnit.nextImbalanceRun, h, if_true, hunbalanced]
    rfl

/-- What an edge that completes a revolution leaves of the revolution, where no entry begins (R96). -/
theorem PocketUnit.edged_revolution (hpulse : u.drum.revPulse = 11) (free : Nat) :
    (u.edged free).drum.revPulse = 0 ∧ (u.edged free).drum.revPeriods = [] ∧
      (u.edged free).drum.revNumber = min 65535 (u.drum.revNumber + 1) := by
  rw [PocketUnit.edged_of_revolution hpulse]
  exact ⟨rfl, rfl, rfl⟩

/-- A trigger on the drum at a completed revolution, as the statements put it (R102). -/
theorem PocketUnit.trigger_interrupts (hdrives : u.seq.run.drives = true) (hpulse : u.drum.revPulse = 11)
    (hturning : u.drum.state = .turning) (horder : u.drum.order = .runSegment) (hunwind : u.drum.unwind = none)
    (hsegment : u.drum.segment = some g) (he : u.drum.table[g.cursor] = e) (hmotion : e.motion = .run dir)
    (k : TriggerKind) (free : Nat) :
    u.InterruptedBy k g e dir (twistStep u.drum.dir u.drum.twist) ((u.edged free).trigger k) := by
  subst he
  obtain ⟨hseq, hstate, -, horder', hsegment', htable, -, -, -, htwist, hunwind'⟩ := PocketUnit.edged_does free u
  rw [if_pos hpulse] at htwist hunwind'
  have hmotion' : (u.edged free).drum.table[g.cursor].motion = .run dir := by rw [htable]; exact hmotion
  have htrigger := PocketUnit.trigger_of_run (k := k) (u := u.edged free) (horder'.trans horder)
    (hunwind'.trans (by rw [hunwind]; rfl)) (hsegment'.trans hsegment) hmotion'
  obtain ⟨hstopping, hoff, hstep, hkept, himbalance, hcount, hlimit, hpending, htimer, -, -, hseq'⟩ :=
    PocketUnit.insertUnwind_of_turning (k := k) (dir := dir) (u := u.edged free) (hstate.trans hturning)
      (u.edged free).drum.table[g.cursor].speed g.cursor
  have hantiTangle : (u.edged free).drum.antiTangle = u.drum.antiTangle := by rw [PocketUnit.edged_keeps]
  have hreached : (u.edged free).drum.limitReached = u.drum.limitReached := by rw [PocketUnit.edged_keeps]
  rw [← htrigger] at hstopping hoff hstep hkept himbalance hcount hlimit hpending htimer hseq'
  rw [hseq, hreached] at hlimit
  rw [hantiTangle] at hcount
  refine ⟨hstopping, hoff, ?_, hkept.trans (hsegment'.trans hsegment), himbalance, hcount, hlimit, ?_, hpending, htimer⟩
  · rw [hstep, PocketUnit.unwindFor, hseq, htwist, htable]
  · have hrun : ((u.edged free).trigger k).seq.run.drives = true := by rw [hseq', hseq]; exact hdrives
    unfold PocketUnit.executingEntry
    rw [hstep]
    cases hr : ((u.edged free).trigger k).seq.run <;> simp [hr, RunState.drives] at hrun ⊢

/-- Settles O25: the imbalance trigger, the twist trigger, and no trigger, by the counted measure and the twist. -/
theorem triggersInsertUnwind : Obligations.TriggersInsertUnwind := by
  unfold Obligations.TriggersInsertUnwind
  intro p g e dir s
  dsimp only
  intro hdrives hturning horder hunwind hsegment he hmotion hpulse
  have hunit : ((s.onUnit p (PocketUnit.tachEdge s.free s.supply.config.reserveCycles)).spendFree).unit p =
      (s.unit p).tachEdge s.free s.supply.config.reserveCycles := by simp
  refine ⟨_, exec_tachEdge p s, State.onUnit_sameElsewhere .., State.onUnit_pool .., State.onUnit_link .., ?_⟩
  rw [hunit]
  generalize s.supply.config.reserveCycles = cycles
  generalize s.unit p = u at *
  generalize s.free = free
  have htwist := PocketUnit.tachEdge_twist free cycles u
  rw [if_pos hpulse] at htwist
  obtain ⟨hseq, hstate, -, horder', hsegment', htable, -, -, -, htwist', hunwind'⟩ := PocketUnit.edged_does free u
  rw [if_pos hpulse] at htwist' hunwind'
  rw [hunwind] at hunwind'
  have hinterrupts (k : TriggerKind) :=
    PocketUnit.trigger_interrupts hdrives hpulse hturning horder hunwind hsegment he hmotion k free
  have hnow : u.drum.countedNow = true := Drum.countedNow_of_run hturning horder hunwind hsegment (he ▸ hmotion)
  have hcounted := PocketUnit.countedRevolution_iff free u
  rw [hnow] at hcounted
  simp only [true_and] at hcounted
  have htwists : (u.edged free).twistFires = true ↔
      u.seq.work.tangle.twistLimit ≠ 0 ∧ u.seq.work.tangle.twistLimit ≤ (twistStep u.drum.dir u.drum.twist).natAbs ∧
        (dir = .fwd ∧ 0 < twistStep u.drum.dir u.drum.twist ∨ dir = .rev ∧ twistStep u.drum.dir u.drum.twist < 0) := by
    rw [PocketUnit.twistFires_iff, hstate, horder', hsegment', htable, htwist', hunwind', hseq]
    simp only [hturning, horder, hsegment, Option.some.injEq, exists_eq_left', he, hmotion, Motion.run.injEq, Option.map_none,
      true_and]
  have hcases : (u.imbalanceDue free = true ∧ u.tachEdge free cycles = (u.edged free).trigger .imbalance) ∨
      (¬u.imbalanceDue free = true ∧ (u.edged free).twistFires = true ∧
        u.tachEdge free cycles = (u.edged free).trigger .twist) ∨
      (¬u.imbalanceDue free = true ∧ ¬(u.edged free).twistFires = true ∧
        u.tachEdge free cycles = { u.edged free with drum := (u.edged free).drum.takeMeasurement }) := by
    by_cases hdue : u.imbalanceDue free = true
    · exact .inl ⟨hdue, by
        rw [PocketUnit.tachEdge_of_imbalance hpulse hdue, PocketUnit.edgeOnDrum_of_stopping (hinterrupts .imbalance).1]⟩
    · rw [PocketUnit.tachEdge_of_none hpulse hdue hunwind]
      by_cases hfires : (u.edged free).twistFires = true
      · rw [PocketUnit.twistCheck_of_fires hfires, PocketUnit.edgeOnDrum_of_stopping (hinterrupts .twist).1]
        exact .inr (.inl ⟨hdue, hfires, rfl⟩)
      · rw [PocketUnit.twistCheck_of_not_fires hfires, PocketUnit.edgeOnDrum_of_turning (hstate.trans hturning)]
        exact .inr (.inr ⟨hdue, hfires, rfl⟩)
  have hsame : (u.edged free).drum.SameTacho (u.tachEdge free cycles).drum := by
    rcases hcases with ⟨-, h⟩ | ⟨-, -, h⟩ | ⟨-, -, h⟩ <;> rw [h]
    · exact .trigger ..
    · exact .trigger ..
    · exact .takeMeasurement _
  have hfired (h : u.imbalanceDue free = true) :
      u.InterruptedBy .imbalance g e dir (twistStep u.drum.dir u.drum.twist) (u.tachEdge free cycles) := by
    rw [(hcases.resolve_right (by simp [h])).2]
    exact hinterrupts .imbalance
  have htwisted (hdue : ¬u.imbalanceDue free = true) (h : (u.edged free).twistFires = true) :
      u.InterruptedBy .twist g e dir (twistStep u.drum.dir u.drum.twist) (u.tachEdge free cycles) := by
    rw [((hcases.resolve_left (by simp [hdue])).resolve_right (by simp [h])).2.2]
    exact hinterrupts .twist
  have hgoesOn (hdue : ¬u.imbalanceDue free = true) (h : ¬(u.edged free).twistFires = true) :
      (u.tachEdge free cycles).drum.imbalanceRun = (u.edged free).drum.imbalanceRun ∧
        (u.tachEdge free cycles).drum.unwind = none ∧ (u.tachEdge free cycles).drum.state = .turning := by
    rw [((hcases.resolve_left (by simp [hdue])).resolve_left (by simp [h])).2.2,
      Drum.takeMeasurement_of_turning (hstate.trans hturning)]
    exact ⟨rfl, hunwind', hstate.trans hturning⟩
  obtain ⟨hpulse', hperiods', hnumber'⟩ := PocketUnit.edged_revolution hpulse free
  rw [← htwists]
  refine ⟨htwist, hsame.revPulse.trans hpulse', hsame.revPeriods.trans hperiods', hsame.revNumber.trans hnumber',
    fun hi lo hyes hlength hrange hhi hlo hbounds => ?counted, fun hnot hstays => ?uncounted, fun hnot hfires => ?uncountedTwist⟩
  case counted =>
    obtain ⟨hdue, hrun⟩ := PocketUnit.imbalance_of_counted (hcounted.mpr hyes) hpulse
    obtain ⟨-, -, hrecords, -⟩ := hyes
    have htwelve : u.drum.periods.length = 12 := by
      rw [Drum.periods, List.length_append, filterMap_period_length fun x hx => (hrecords x hx).2, hlength]
      rfl
    rw [imbalanceMeasure_eq (l := u.drum.periods) htwelve hrange hhi hlo hbounds] at hdue hrun
    refine ⟨fun habove hreached => hfired (hdue.mpr ⟨habove, hreached⟩), fun habove hshort hstays => ?_,
      fun hbelow hstays => ?_, fun h hfires => htwisted (fun hyes => ?_) hfires⟩
    · obtain ⟨hkept, hnone, hturns⟩ := hgoesOn (fun hyes => hshort (hdue.mp hyes).2) hstays
      exact ⟨hkept.trans (hrun.trans (if_pos habove)), hnone, hturns⟩
    · obtain ⟨hkept, hnone, hturns⟩ := hgoesOn (fun hyes => Nat.not_lt.mpr hbelow (hdue.mp hyes).1) hstays
      exact ⟨hkept.trans (hrun.trans (if_neg (Nat.not_lt.mpr hbelow))), hnone, hturns⟩
    · exact h.elim (fun hbelow => Nat.not_lt.mpr hbelow (hdue.mp hyes).1) fun hshort => hshort (hdue.mp hyes).2
  all_goals obtain ⟨hdue, hrun⟩ := PocketUnit.imbalance_of_uncounted (u := u) (free := free) fun h => hnot (hcounted.mp h)
  case uncounted =>
    obtain ⟨hkept, hnone, hturns⟩ := hgoesOn hdue hstays
    exact ⟨hkept.trans hrun, hnone, hturns⟩
  case uncountedTwist => exact htwisted hdue hfires

end

end Sys2Proof.Machine
end

section
/-! The end of a window (R127 to R135): the reading, the dry decision, the trend record, and the close of the phase. -/

namespace Sys2Proof.Machine

section Readings

variable {u w : PocketUnit} {v : PocketView}

/-! ## What an end of phase leaves of the moisture unit -/

/-- Two pockets whose moisture units have the same sequence and the same last reading. -/
structure PocketUnit.SameReadings (u w : PocketUnit) : Prop where
  sequence    : w.moist.sequence = u.moist.sequence
  lastReading : w.moist.lastReading = u.moist.lastReading

namespace PocketUnit.SameReadings

theorem refl (u : PocketUnit) : u.SameReadings u := ⟨rfl, rfl⟩

/-- A step after which the moisture unit differs by its estimate or its window at most. -/
theorem step {x : PocketUnit} (h : u.SameReadings w) (hsequence : x.moist.sequence = w.moist.sequence := by rfl)
    (hreading : x.moist.lastReading = w.moist.lastReading := by rfl) : u.SameReadings x :=
  ⟨hsequence.trans h.sequence, hreading.trans h.lastReading⟩

theorem of_moist {x : PocketUnit} (h : u.SameReadings w) (hmoist : x.moist = w.moist) : u.SameReadings x :=
  h.step (by rw [hmoist]) (by rw [hmoist])

theorem closePhase (h : u.SameReadings w) (o : PhaseOutcome) : u.SameReadings (w.closePhase o) :=
  h.step (by simp) (by simp)

theorem enterSlot (h : u.SameReadings v.unit) (env : Env) (i : SlotNo) (r : PhaseRecord) :
    u.SameReadings (v.enterSlot env i r).unit := by
  have hentered : (v.enterSlot env i r).unit.moist = ((v.unit.takeWork i r).recorded i).moist :=
    (PocketUnit.handRunning_keeps ..).2.1
  exact h.step (by rw [hentered]; simp [PocketUnit.recorded, PocketUnit.alignWindow])
    (by rw [hentered]; simp [PocketUnit.recorded, PocketUnit.alignWindow])

theorem activate (h : u.SameReadings v.unit) (env : Env) (i : SlotNo) : u.SameReadings (v.activate env i).1.unit := by
  have hvacated : u.SameReadings (v.vacate env i).unit := h.of_moist (by simp)
  obtain ⟨r, -, ha⟩ | ⟨e, -, ha⟩ := v.activate_cases env i <;> rw [ha]
  · exact hvacated.enterSlot env i r
  · exact hvacated

theorem enterHalted (h : u.SameReadings v.unit) (env : Env) : u.SameReadings (v.enterHalted env).unit := by
  obtain ⟨-, -, -, hmoist, -⟩ := v.enterHalted_does env
  exact h.step (by rw [hmoist]) (by rw [hmoist])

theorem enterDone (h : u.SameReadings v.unit) (env : Env) : u.SameReadings (v.enterDone env).unit := by
  obtain ⟨-, -, -, hmoist, -⟩ := v.enterDone_does env
  exact h.step (by rw [hmoist]) (by rw [hmoist])

theorem latch (h : u.SameReadings w) (f : PocketFault) : u.SameReadings (w.latch f) := h.of_moist (by simp)

theorem checkHeat (h : u.SameReadings w) : u.SameReadings w.checkHeat := h.of_moist (by simp)

theorem chainHalt (h : u.SameReadings v.unit) (env : Env) : u.SameReadings (v.chainHalt env).unit :=
  enterHalted (v := v.onUnit _) (h.latch .chain) env

theorem becomeSafe (h : u.SameReadings w) : u.SameReadings w.becomeSafe := by
  unfold PocketUnit.becomeSafe
  exact checkHeat h.step

theorem enterSafe (h : u.SameReadings v.unit) (env : Env) : u.SameReadings (v.enterSafe env).unit := by
  have hquals : u.SameReadings (v.onUnit PocketUnit.clearQuals).unit := h.step
  unfold PocketView.enterSafe
  dsimp only
  split
  · exact hquals.chainHalt env
  · next a _ =>
    have hact := hquals.activate env a
    split <;> rename_i ha <;> rw [ha] at hact
    · exact hact.becomeSafe
    · exact hact.chainHalt env

theorem orderSafe (h : u.SameReadings v.unit) (env : Env) : u.SameReadings (v.orderSafe env).unit := by
  have hclose : u.SameReadings (v.onUnit (PocketUnit.closePhase .faulted)).unit := h.closePhase .faulted
  unfold PocketView.orderSafe
  split
  case h_3 =>
    split
    · exact hclose.step
    · exact h
  case h_1 | h_2 => exact hclose.enterSafe env
  all_goals exact h

theorem reportLinkLost (h : u.SameReadings v.unit) (env : Env) : u.SameReadings (v.report env .linkLost).unit := by
  have hlatched : u.SameReadings (v.onUnit (PocketUnit.latch .linkLost)).unit := h.latch .linkLost
  have horder := hlatched.orderSafe env
  have hrespond : u.SameReadings (PocketView.respond env .linkLost (v.onUnit (PocketUnit.latch .linkLost))).unit := by
    simp only [PocketView.respond]
    split
    case h_3 => exact horder.step
    case h_1 | h_2 => exact horder
    all_goals exact hlatched
  obtain ⟨-, hrep⟩ | ⟨-, -, -, hrep⟩ | ⟨-, -, hrep⟩ := v.report_cases env .linkLost <;> rw [hrep]
  · exact hrespond.checkHeat
  · exact checkHeat (w := (v.abandonedByHost env).unit) (h.orderSafe env).step
  · exact h.checkHeat

theorem become (h : u.SameReadings v.unit) (env : Env) (st : RunState) : u.SameReadings (v.become env st).unit := by
  have hrun : u.SameReadings
      (v.onUnit fun w => PocketUnit.checkHeat { w with seq := { w.seq with run := st } }).unit :=
    checkHeat (w := { v.unit with seq := { v.unit.seq with run := st } }) h.step
  unfold PocketView.become PocketView.reportOnEntry
  split
  · exact hrun.reportLinkLost env
  · exact hrun

theorem advance (h : u.SameReadings v.unit) (env : Env) : u.SameReadings (v.advance env).unit := by
  have hquals : u.SameReadings (v.onUnit PocketUnit.clearQuals).unit := h.step
  unfold PocketView.advance
  dsimp only
  split
  · exact hquals.enterDone env
  · next i _ =>
    have hact := hquals.activate env i
    split <;> rename_i ha <;> rw [ha] at hact <;> split
    · exact hact.become env .safe
    · exact hact.become env .running
    · exact hact.chainHalt env
    · exact enterSafe (v := PocketView.onUnit _ _) (hact.latch .chain) env

theorem enterHeld (h : u.SameReadings v.unit) (env : Env) : u.SameReadings (v.enterHeld env).unit := by
  have hheld : u.SameReadings (v.unit.holdDrum env.reserveCycles) :=
    h.of_moist (v.unit.holdDrum_step env.reserveCycles).1.moist
  have haligned : u.SameReadings
      (PocketUnit.alignWindow (PocketUnit.raise .held (v.unit.holdDrum env.reserveCycles))) := hheld.step
  exact become (v := v.onUnit fun u => PocketUnit.alignWindow (PocketUnit.raise .held (u.holdDrum env.reserveCycles)))
    haligned env .held

theorem endPhase (h : u.SameReadings v.unit) (env : Env) (o : PhaseOutcome) : u.SameReadings (v.endPhase env o).unit := by
  have hclose : u.SameReadings (v.onUnit (PocketUnit.closePhase o)).unit := h.closePhase o
  obtain ⟨-, -, -, hend⟩ | ⟨-, hend⟩ := v.endPhase_cases env o <;> rw [hend]
  · exact hclose.enterHeld env
  · exact hclose.advance env

end PocketUnit.SameReadings

end Readings

section Window

variable {s t : State} {p : Pocket} {u : PocketUnit} {w : SenseWindow} {c : Checkpoint}

/-! ## The window judged (R127 steps 1 to 4) -/

theorem exec_windowEnd_due (hw : (s.unit p).moist.window = some w) (hend : w.length ≤ w.elapsed) :
    exec (.windowEnd p) s = .next (s.endWindow p w) := by
  change execWindowEnd p s = _
  simp only [execWindowEnd, hw, if_pos hend]

/-- The pocket with the window's reading taken, before the dry decision (R127 steps 1, 2 and 4). -/
def PocketUnit.measured (w : SenseWindow) (u : PocketUnit) : PocketUnit :=
  { u with moist := u.moist.takeWindow u.seq.work.dry.k w }

theorem PocketUnit.judgeWindow_eq (w : SenseWindow) (u : PocketUnit) :
    u.judgeWindow w =
      { u with moist := u.moist.takeWindow u.seq.work.dry.k w, seq := { u.seq with confirm := (u.measured w).nextConfirm w } } :=
  rfl

theorem State.windowJudged_keeps (s : State) (p : Pocket) (w : SenseWindow) :
    (s.windowJudged p w).unit (otherPocket p) = s.unit (otherPocket p) ∧ (s.windowJudged p w).pool = s.pool ∧
      (s.windowJudged p w).temps = s.temps ∧ (s.windowJudged p w).supply = s.supply ∧ (s.windowJudged p w).link = s.link ∧
      (s.windowJudged p w).pending = s.pending ∧ (s.windowJudged p w).raced = s.raced ∧
      (s.windowJudged p w).free = s.free := by
  simp [State.windowJudged]

/-- The record that a window's end hands on (R187). -/
theorem State.windowJudged_trend (s : State) (p : Pocket) (w : SenseWindow) :
    ({ buffer := (s.windowJudged p w).trend, device := (s.windowJudged p w).device } : TrendView) =
      TrendView.write
        { pocket := p, slot := (s.unit p).seq.work.active.getD 0,
          ordinal := ((s.unit p).seq.newest.map Checkpoint.ordinal).getD 0
          sequence := ((s.unit p).moist.sequence + 1) % 65536, reading := (s.unit p).moist.windowReading w
          estimate := ((s.unit p).moist.takeWindow (s.unit p).seq.work.dry.k w).estimate
          inlet := (s.temps.channel (inletChannel p)).reading, exhaust := (s.temps.channel (exhaustChannel p)).reading
          drum := (s.unit p).drum.state, twist := (s.unit p).drum.twist, granted := (s.unit p).heat.grantedLast }
        { buffer := s.trend, device := s.device } := by
  simp only [State.windowJudged, State.onTrend_trend, State.onTrend_device, State.onUnit_trend, State.onUnit_device]
  simp only [State.trendRecord, State.onUnit_unit, State.inlet, State.exhaust, State.onUnit_temps, PocketUnit.judgeWindow_eq]
  rfl

/-- The surroundings of the event that closes the phase are those of the window's end. -/
theorem State.windowJudged_eventEnv (s : State) (p : Pocket) (w : SenseWindow) :
    (s.windowJudged p w).eventEnv p = s.eventEnv p := by
  obtain ⟨-, -, -, hsupply, hlink, hpending, hraced, hfree⟩ := s.windowJudged_keeps p w
  have hanchored (q : Pocket) (i : SlotNo) : ((s.windowJudged p w).unit q).anchoredAt i = (s.unit q).anchoredAt i := by
    obtain rfl | rfl := eq_or_eq_otherPocket p q
    · rw [State.windowJudged_unit]; rfl
    · rw [(s.windowJudged_keeps p w).1]
  have hlower : ∀ i, (s.windowJudged p w).lower.anchoredAt i = s.lower.anchoredAt i := hanchored .lower
  have hupper : ∀ i, (s.windowJudged p w).upper.anchoredAt i = s.upper.anchoredAt i := hanchored .upper
  have hwrite (c : Instr) : (s.windowJudged p w).writeOf c = s.writeOf c := by
    simp only [State.writeOf, hlower, hupper]
  simp only [State.eventEnv, State.env, State.racingWrite, State.nextRequest, State.windowJudged_unit,
    PocketUnit.judgeWindow_eq, hwrite, hsupply, hlink, hpending, hraced, hfree]

/-! ## Whether the window counts (R131) -/

theorem PocketUnit.decides_iff (w : SenseWindow) (u : PocketUnit) :
    u.decides w = true ↔ (u.seq.run = .running ∨ u.seq.run = .safe) ∧ (∃ c, u.seq.newest = some c ∧ c.outcome = none) ∧
      u.seq.work.kind = .dry ∧ u.seq.work.timedOnly = false ∧ w.length ≤ w.turning * 2 := by
  simp only [PocketUnit.decides, SenseWindow.isVoid, Bool.and_eq_true, RunState.evaluates_iff, Sequencer.phaseOpen_iff,
    decide_eq_true_eq, Bool.not_eq_true', decide_eq_false_iff_not, Nat.not_lt, and_assoc]

/-- A window that is not handed to the dry decision changes no counter and closes no phase. -/
theorem PocketUnit.not_decides (h : ¬u.decides w = true) :
    ¬u.confirmsDry w = true ∧ (u.measured w).nextConfirm w = u.seq.confirm := by
  have hnot : (u.measured w).decides w = false := Bool.eq_false_iff.mpr h
  have hcounts : (u.measured w).countsDry w = false := by simp [PocketUnit.countsDry, hnot]
  constructor
  · change ¬((u.measured w).countsDry w && decide ((u.measured w).nextConfirm w = u.seq.work.dry.confirm)) = true
    simp [hcounts]
  · rw [PocketUnit.nextConfirm, if_neg (by simp [hcounts]), if_neg (by simp [hnot])]
    rfl

/-- Settles O36: the reading and the estimate, the record, and the next window (R124, R127, R128, R130). -/
theorem windowEndUpdatesEstimate : Obligations.WindowEndUpdatesEstimate := by
  unfold Obligations.WindowEndUpdatesEstimate
  intro p w s hw hend hnot
  have hidle : ¬(s.unit p).decides w = true := by
    rw [PocketUnit.decides_iff]
    rintro ⟨hrun, -, hkind, htimed, hturned⟩
    rcases hnot with h | h | h | h
    · rcases hrun with hrun | hrun <;> simp [hrun] at h
    · exact h hkind
    · simp [h] at htimed
    · exact absurd hturned (Nat.not_le.mpr h)
  obtain ⟨hopen, hconfirm⟩ := PocketUnit.not_decides hidle
  have hexec : exec (.windowEnd p) s = .next ((s.windowJudged p w).onUnit p PocketUnit.alignWindow) := by
    rw [exec_windowEnd_due hw hend, State.endWindow_eq, if_neg hopen]
  obtain ⟨hother, hpool, htemps, hsupply, hlink, -⟩ := s.windowJudged_keeps p w
  have hunit : ((s.windowJudged p w).onUnit p PocketUnit.alignWindow).unit p =
      PocketUnit.alignWindow { s.unit p with moist := (s.unit p).moist.takeWindow (s.unit p).seq.work.dry.k w } := by
    rw [State.onUnit_unit, State.windowJudged_unit, PocketUnit.judgeWindow_eq, hconfirm]
  refine ⟨_, hexec, (State.onUnit_unit_other ..).trans hother, (State.onUnit_pool ..).trans hpool,
    (State.onUnit_temps ..).trans htemps, (State.onUnit_supply ..).trans hsupply, (State.onUnit_link ..).trans hlink, ?_⟩
  rw [hunit]
  refine ⟨rfl, rfl, rfl, rfl, ?reading, rfl, ?record⟩
  case reading =>
    by_cases hcounted : (s.unit p).moist.valid = true ∧ w.length ≤ w.turning * 2
    · obtain ⟨hvalid, hturned⟩ := hcounted
      have htaken : ((s.unit p).moist.valid && !w.isVoid) = true := by
        simp [hvalid, SenseWindow.isVoid, hturned]
      rw [if_pos ⟨hvalid, hturned⟩]
      simp only [PocketUnit.alignWindow, Moisture.takeWindow, htaken, if_true]
      exact ⟨rfl, fun hseed => by rw [hseed]; rfl, fun e he => by rw [he]; rfl⟩
    · have htaken : ((s.unit p).moist.valid && !w.isVoid) = false := by
        rw [Bool.eq_false_iff, Ne, Bool.and_eq_true]
        rintro ⟨hvalid, hturned⟩
        exact hcounted ⟨hvalid, by simpa [SenseWindow.isVoid] using hturned⟩
      rw [if_neg hcounted]
      simp only [PocketUnit.alignWindow, Moisture.takeWindow, htaken, Bool.false_eq_true, if_false, and_self]
  case record =>
    rw [State.onUnit_trend, State.onUnit_device, State.windowJudged_trend]
    simp only [PocketUnit.alignWindow, Moisture.windowReading, SenseWindow.isVoid, decide_eq_true_eq]
    rfl

/-! ## The dry decision (R131, R33 to R35) -/

/-- The dry decision on a window that is handed to it, with the estimate `E` that the window left (R131). -/
theorem PocketUnit.dryDecision (h : u.decides w = true) :
    let E := (u.moist.takeWindow u.seq.work.dry.k w).estimate
    let past : Prop := u.seq.work.dry.minTime * 1000000 < u.seq.phaseTimer
    let met : Prop := ∃ e : Nat, E = some e ∧ e ≤ u.seq.work.dry.target * 16
    (u.confirmsDry w = true ↔ past ∧ met ∧ min 15 (u.seq.confirm + 1) = u.seq.work.dry.confirm) ∧
      (¬past → (u.measured w).nextConfirm w = u.seq.confirm) ∧
      (past → ¬met → (u.measured w).nextConfirm w = 0) ∧
      (past → met → (u.measured w).nextConfirm w = min 15 (u.seq.confirm + 1)) := by
  dsimp only
  have hdecides : (u.measured w).decides w = true := h
  have hpast : (u.measured w).seq.pastMinTime = true ↔ u.seq.work.dry.minTime * 1000000 < u.seq.phaseTimer := by
    simp only [Sequencer.pastMinTime, decide_eq_true_eq]
    exact Iff.rfl
  have hmet : (u.measured w).seq.work.dry.met (u.measured w).moist.estimate = true ↔
      ∃ e : Nat, (u.moist.takeWindow u.seq.work.dry.k w).estimate = some e ∧ e ≤ u.seq.work.dry.target * 16 := by
    change u.seq.work.dry.met (u.moist.takeWindow u.seq.work.dry.k w).estimate = true ↔ _
    cases (u.moist.takeWindow u.seq.work.dry.k w).estimate <;> simp [DryGroup.met]
  have hcounts : (u.measured w).countsDry w = true ↔ u.seq.work.dry.minTime * 1000000 < u.seq.phaseTimer ∧
      ∃ e : Nat, (u.moist.takeWindow u.seq.work.dry.k w).estimate = some e ∧ e ≤ u.seq.work.dry.target * 16 := by
    rw [PocketUnit.countsDry, hdecides, Bool.true_and, Bool.and_eq_true, hpast, hmet]
  have hconfirm : (u.measured w).nextConfirm w =
      if (u.measured w).countsDry w then min 15 (u.seq.confirm + 1)
      else if (u.measured w).seq.pastMinTime then 0 else u.seq.confirm := by
    simp only [PocketUnit.nextConfirm, hdecides, Bool.true_and]
    rfl
  refine ⟨?_, fun hnot => ?_, fun hp hnot => ?_, fun hp hm => ?_⟩
  · change ((u.measured w).countsDry w && decide ((u.measured w).nextConfirm w = u.seq.work.dry.confirm)) = true ↔ _
    rw [Bool.and_eq_true, decide_eq_true_eq, ← and_assoc, ← hcounts]
    exact and_congr_right fun hcounted => by rw [hconfirm, if_pos hcounted]
  · rw [hconfirm, if_neg fun hcounted => hnot (hcounts.mp hcounted).1, if_neg fun hp => hnot (hpast.mp hp)]
  · rw [hconfirm, if_neg fun hcounted => hnot (hcounts.mp hcounted).2, if_pos (hpast.mpr hp)]
  · rw [hconfirm, if_pos (hcounts.mpr ⟨hp, hm⟩)]

/-- An advance's predicate reads of the pocket's first state neither the confirm counter nor the readings. -/
theorem State.AdvancedTo.of_windowJudged {env : Env} {o : PhaseOutcome} {i : SlotNo} {e : Option Nat}
    (h : (s.windowJudged p w).AdvancedTo t p env o c i e) : s.AdvancedTo t p env o c i e := by
  obtain ⟨-, hpool, -, -, -, -, hraced, -⟩ := s.windowJudged_keeps p w
  have hunit : (s.windowJudged p w).unit p = (s.unit p).judgeWindow w := State.windowJudged_unit ..
  have hchecks : (s.view p).ChecksAs ((s.windowJudged p w).view p) :=
    ⟨hpool, rfl, by simp [hunit, PocketUnit.judgeWindow_eq], by simp [hunit, PocketUnit.judgeWindow_eq]⟩
  simp only [State.AdvancedTo, hchecks.vacate_check, hunit, PocketUnit.judgeWindow_eq] at h
  exact h

/-- An entry into HELD keeps the estimate, the silence timer not expired. -/
theorem PocketView.enterHeld_estimate {env : Env} (hquiet : env.silenceExpired = false) (v : PocketView) :
    (v.enterHeld env).unit.moist.estimate = v.unit.moist.estimate := by
  rw [PocketView.enterHeld, PocketView.become_quiet hquiet]
  simp [PocketUnit.alignWindow, (v.unit.holdDrum_step env.reserveCycles).1.moist]

/-- Settles O37: the decision, and the close with what follows it. -/
theorem dryDecisionClosesPhase : Obligations.DryDecisionClosesPhase := by
  unfold Obligations.DryDecisionClosesPhase
  intro p w c m E s hw hend hturned hrun hc hopen hkind htimed hm hE
  dsimp only
  have hdecides : (s.unit p).decides w = true :=
    (PocketUnit.decides_iff w _).mpr ⟨hrun, ⟨c, hc, hopen⟩, hkind, htimed, hturned⟩
  have hnotVoid : w.isVoid = false := by simp [SenseWindow.isVoid, hturned]
  have htaken : ((s.unit p).moist.takeWindow (s.unit p).seq.work.dry.k w).estimate = E ∧
      ((s.unit p).moist.takeWindow (s.unit p).seq.work.dry.k w).lastReading =
        (if (s.unit p).moist.valid then some m else (s.unit p).moist.lastReading) ∧
      (s.unit p).moist.windowReading w = if (s.unit p).moist.valid then .measured m else .absent := by
    rw [hE, ← hm]
    simp [Moisture.takeWindow, Moisture.windowReading, hnotVoid, SenseWindow.reading]
  obtain ⟨hestimate, hreading, hrecord⟩ := htaken
  obtain ⟨hconfirms, hearly, hunmet, hmet⟩ := PocketUnit.dryDecision hdecides
  rw [hestimate] at hconfirms hunmet hmet
  obtain ⟨hother, hpool, htemps, hsupply, hlink, -⟩ := s.windowJudged_keeps p w
  have htrend := s.windowJudged_trend p w
  rw [hestimate, hrecord, show (s.unit p).seq.newest.map Checkpoint.ordinal = some c.ordinal from by rw [hc]; rfl] at htrend
  have hjudged : (s.windowJudged p w).unit p = (s.unit p).judgeWindow w := State.windowJudged_unit ..
  by_cases hcloses : (s.unit p).confirmsDry w = true
  · have hexec : exec (.windowEnd p) s = .next ((s.windowJudged p w).onEvent p fun env => PocketView.endPhase env .dry) := by
      rw [exec_windowEnd_due hw hend, State.endWindow_eq, if_pos hcloses]
    have hsame : ((s.unit p).judgeWindow w).SameReadings
        (((s.windowJudged p w).onEvent p fun env => PocketView.endPhase env .dry).unit p) := by
      rw [State.onEvent_unit]
      exact PocketUnit.SameReadings.endPhase (v := (s.windowJudged p w).view p)
        (by rw [State.view_unit, hjudged]; exact .refl _) _ .dry
    have hcw : ((s.windowJudged p w).unit p).seq.newest = some c := by rw [hjudged]; exact hc
    refine ⟨_, hexec, (State.onEvent_unit_other ..).trans hother, (State.onEvent_temps ..).trans htemps,
      (State.onEvent_supply ..).trans hsupply, (State.onEvent_link ..).trans hlink, hsame.sequence,
      hsame.lastReading.trans hreading, ?_, fun hnot => absurd (hconfirms.mp hcloses) hnot,
      fun _ hrunning hhold hquiet => ?holds, fun _ hadvances hnext => ?ends, fun i _ hadvances hnext => ?advances⟩
    · rw [State.onEvent_trend, State.onEvent_device]
      exact htrend
    case holds =>
      have hrunning' : ((s.windowJudged p w).unit p).seq.run = .running := by rw [hjudged]; exact hrunning
      have hhold' : ((s.windowJudged p w).unit p).seq.work.quals.holdAtEnd = true := by rw [hjudged]; exact hhold
      have hquiet' : (s.windowJudged p w).link.silenceExpired = false := by rw [hlink]; exact hquiet
      obtain ⟨hheld, hnewest, hphaseEnd, hnotice, hpoolKept⟩ :=
        State.onEvent_endPhase_holds (o := .dry) hcw hopen hrunning' hhold' rfl hquiet'
      let closed := ((s.windowJudged p w).view p).onUnit (PocketUnit.closePhase .dry)
      obtain ⟨-, hseq, -⟩ := PocketView.enterHeld_quiet (env := (s.windowJudged p w).eventEnv p) hquiet' closed
      obtain ⟨-, -, hheat, hwindow, hfaults⟩ :=
        PocketView.enterHeld_does (env := (s.windowJudged p w).eventEnv p) hquiet' closed
      have hkept := PocketView.enterHeld_estimate (env := (s.windowJudged p w).eventEnv p) hquiet' closed
      have hunit : ((s.windowJudged p w).onEvent p fun env => PocketView.endPhase env .dry).unit p =
          (closed.enterHeld ((s.windowJudged p w).eventEnv p)).unit := by
        rw [State.onEvent_unit, PocketView.endPhase_holds hrunning' hhold' rfl]
      obtain ⟨hpast, hmets, hreached⟩ := hconfirms.mp hcloses
      refine ⟨hpoolKept.trans hpool, hheld, ?_, hnewest, ?_, ?_, hphaseEnd, hnotice, ?_, ?_⟩
      · rw [hunit, hseq]
        simp only [closed, PocketView.onUnit_unit, State.view_unit, PocketUnit.closePhase_seq, hjudged,
          PocketUnit.judgeWindow_eq]
        exact (hmet hpast hmets).trans hreached
      · rw [hunit, hkept]
        simp only [closed, PocketView.onUnit_unit, State.view_unit, PocketUnit.closePhase_moist, hjudged,
          PocketUnit.judgeWindow_eq]
        exact hestimate
      · rw [hunit]; exact hwindow
      · rw [hunit]; exact hheat
      · rw [hunit, hfaults]
        simp only [closed, PocketView.onUnit_unit, State.view_unit, PocketUnit.closePhase_faults, hjudged,
          PocketUnit.judgeWindow_eq]
    all_goals
      have hadvances' : ((s.windowJudged p w).unit p).seq.run = .running ∧
          ((s.windowJudged p w).unit p).seq.work.quals.holdAtEnd = false ∨
            ((s.windowJudged p w).unit p).seq.run = .safe := by
        rw [hjudged]; exact hadvances
      have hnext' := hnext
      rw [show (s.unit p).seq.work.next = ((s.windowJudged p w).unit p).seq.work.next from by rw [hjudged]; rfl] at hnext'
    case ends =>
      obtain ⟨hdone, hnewest, hphaseEnd, hchain, hactive⟩ :=
        State.onEvent_endPhase_done (o := .dry) hcw hopen hadvances' hnext'
      refine ⟨hdone, hactive, hphaseEnd, hchain, ?_, hnewest⟩
      obtain ⟨-, -, -, hmoist, -⟩ := PocketView.advance_ends
        (v := ((s.windowJudged p w).view p).onUnit (PocketUnit.closePhase .dry)) (by simpa using hnext')
        ((s.windowJudged p w).eventEnv p)
      rw [State.onEvent_unit, PocketView.endPhase_advances hadvances', hmoist]
      simp only [PocketView.onUnit_unit, State.view_unit, PocketUnit.closePhase_moist, hjudged, PocketUnit.judgeWindow_eq]
      exact hestimate
    case advances =>
      have hadvanced := State.onEvent_endPhase_advances (o := .dry) hcw hopen hadvances' hnext'
      rw [State.windowJudged_eventEnv, hjudged] at hadvanced
      have hto := State.AdvancedTo.of_windowJudged hadvanced
      rwa [show ((s.unit p).judgeWindow w).moist.estimate = E from hestimate] at hto
  · have hexec : exec (.windowEnd p) s = .next ((s.windowJudged p w).onUnit p PocketUnit.alignWindow) := by
      rw [exec_windowEnd_due hw hend, State.endWindow_eq, if_neg hcloses]
    have hunit : ((s.windowJudged p w).onUnit p PocketUnit.alignWindow).unit p =
        PocketUnit.alignWindow ((s.unit p).judgeWindow w) := by
      rw [State.onUnit_unit, State.windowJudged_unit]
    have hstays (hyes : _) := hcloses (hconfirms.mpr hyes)
    refine ⟨_, hexec, (State.onUnit_unit_other ..).trans hother, (State.onUnit_temps ..).trans htemps,
      (State.onUnit_supply ..).trans hsupply, (State.onUnit_link ..).trans hlink, ?_⟩
    rw [hunit, State.onUnit_trend, State.onUnit_device]
    refine ⟨rfl, hreading, htrend, fun _ => ⟨(State.onUnit_pool ..).trans hpool, rfl, rfl, rfl, rfl, hestimate, rfl,
      fun hnot => ?_, fun hpast hnot => ?_, fun hpast hyes => ?_⟩, fun hyes => absurd hyes hstays,
      fun hyes => absurd hyes hstays, fun _ hyes => absurd hyes hstays⟩
    all_goals simp only [PocketUnit.alignWindow, PocketUnit.judgeWindow_eq]
    · rw [hearly hnot]
    · rw [hunmet hpast hnot]
    · rw [hmet hpast hyes]

end Window

end Sys2Proof.Machine
end

section
/-! The requests of a pocket that its code, its state, its history or the record refuse (R26, R36 to R38, R41, R62). -/

namespace Sys2Proof.Machine

section Refusals

variable {s : State} {p : Pocket} {i : SlotNo} {b x : Byte}

/-! ## Codes out of range (R7) -/

theorem pocketOf_eq_none (h : 2 ≤ b.toNat) : pocketOf b = none :=
  Option.not_isSome_iff_eq_none.mp (by rw [pocketOf_isSome]; omega)

theorem slotOf_eq_none (h : 48 ≤ x.toNat) : slotOf x = none :=
  Option.not_isSome_iff_eq_none.mp (by rw [slotOf_isSome]; omega)

/-- A request of a pocket that is none is a bad request, whatever else it says. -/
theorem exec_of_noPocket (hp : pocketOf b = none) (x : Byte) (s : State) :
    exec (.start b x) s = .next (s.reply 0x10 .badRequest []) ∧ exec (.pause b) s = .next (s.reply 0x11 .badRequest []) ∧
      exec (.resume b) s = .next (s.reply 0x12 .badRequest []) ∧ exec (.advance b) s = .next (s.reply 0x13 .badRequest []) ∧
      exec (.backstep b x) s = .next (s.reply 0x14 .badRequest []) ∧
      exec (.abort b) s = .next (s.reply 0x15 .badRequest []) ∧
      exec (.getHistory b) s = .next (s.reply 0x21 .badRequest []) := by
  change Host.Outcome.next (reqStart b x s) = _ ∧ Host.Outcome.next (reqPause b s) = _ ∧
    Host.Outcome.next (reqResume b s) = _ ∧ Host.Outcome.next (reqAdvance b s) = _ ∧
    Host.Outcome.next (reqBackstep b x s) = _ ∧ Host.Outcome.next (reqAbort b s) = _ ∧
    Host.Outcome.next (reqGetHistory b s) = _
  simp only [reqStart, reqPause, reqResume, reqAdvance, reqBackstep, reqAbort, reqGetHistory, hp, and_self]

theorem exec_start_noSlot (hi : slotOf x = none) (b : Byte) (s : State) :
    exec (.start b x) s = .next (s.reply 0x10 .badRequest []) := by
  change Host.Outcome.next (reqStart b x s) = _
  simp only [reqStart, hi]
  cases pocketOf b <;> rfl

/-- A BACKSTEP by more than seven entries is a bad request, of whichever pocket. -/
theorem exec_backstep_tooFar (hx : 8 ≤ x.toNat) (b : Byte) (s : State) :
    exec (.backstep b x) s = .next (s.reply 0x14 .badRequest []) := by
  change Host.Outcome.next (reqBackstep b x s) = _
  unfold reqBackstep
  split
  · rfl
  · rw [if_pos (show 7 < x.toNat by omega)]

/-! ## START (R26) -/

/-- A START that one of checks 2 to 6 refuses. -/
theorem exec_start_refused (hp : pocketOf b = some p) (hi : slotOf x = some i) {r : ResultCode}
    (h : s.startRefusal p = some r) : exec (.start b x) s = .next (s.reply 0x10 r []) := by
  change Host.Outcome.next (reqStart b x s) = _
  simp only [reqStart, hp, hi, h]

/-- A START that fails at check 7, the pocket holding no slot. -/
theorem exec_start_unusable (hp : pocketOf b = some p) (hi : slotOf x = some i) (hrefusal : s.startRefusal p = none)
    (hactive : (s.unit p).seq.work.active = none) {e : ActivationFailure} (h : (s.view p).check i = .error e) :
    exec (.start b x) s = .next (s.reply 0x10 e.startResult []) := by
  change Host.Outcome.next (reqStart b x s) = _
  have hreleased : (s.view p).release p = s.view p := PocketView.release_of_inactive hactive p
  simp only [reqStart, hp, hi, hrefusal, hreleased, h]

theorem State.startRefusal_busy (h : (s.unit p).seq.run ≠ .idle ∧ (s.unit p).seq.run ≠ .done) :
    s.startRefusal p = some .busy := if_pos h


/-- Check 2 passes in IDLE and DONE: the later checks alone remain. -/
theorem State.startRefusal_of_stands (h : (s.unit p).seq.run = .idle ∨ (s.unit p).seq.run = .done) :
    s.startRefusal p =
      if s.supply.configured = false ∨ (s.unit p).seq.anchor = none then some .notReady
      else if (s.unit p).faults.isEmpty = false then some .faulted
      else if (s.unit p).pins.door = false then some .doorOpen
      else if (s.unit p).moist.calibration.isSome then some .busy
      else none :=
  if_neg fun ⟨hi, hd⟩ => h.elim hi hd

/-- Check 3 passes for a configured device and a pocket with an anchor. -/
theorem State.startRefusal_of_ready (h : (s.unit p).seq.run = .idle ∨ (s.unit p).seq.run = .done)
    (hconfigured : s.supply.configured = true) (hanchor : (s.unit p).seq.anchor ≠ none) :
    s.startRefusal p =
      if (s.unit p).faults.isEmpty = false then some .faulted
      else if (s.unit p).pins.door = false then some .doorOpen
      else if (s.unit p).moist.calibration.isSome then some .busy
      else none := by
  rw [State.startRefusal_of_stands h, if_neg (by simp [hconfigured, hanchor])]

/-- Check 4 passes for a pocket without faults. -/
theorem State.startRefusal_of_faultless (h : (s.unit p).seq.run = .idle ∨ (s.unit p).seq.run = .done)
    (hconfigured : s.supply.configured = true) (hanchor : (s.unit p).seq.anchor ≠ none)
    (hfaults : (s.unit p).faults = FaultSet.none) :
    s.startRefusal p =
      if (s.unit p).pins.door = false then some .doorOpen
      else if (s.unit p).moist.calibration.isSome then some .busy
      else none := by
  rw [State.startRefusal_of_ready h hconfigured hanchor, if_neg (by rw [hfaults]; decide)]

/-- A segment that is not usable: its order, or an entry not written (R14). -/
theorem segmentUsable_eq_false {r : PhaseRecord} {d : Drum}
    (h : r.segLast < r.segFirst ∨ ∃ j : EntryNo, r.segFirst ≤ j ∧ j ≤ r.segLast ∧ d.table[j].written = false) :
    segmentUsable r d = false := by
  refine Bool.eq_false_iff.mpr fun husable => ?_
  obtain ⟨horder, hwritten⟩ := (segmentUsable_iff r d).mp husable
  obtain hlast | ⟨j, hfirst, hlast, hblank⟩ := h
  · exact absurd horder (Fin.not_le.mpr hlast)
  · exact Bool.false_ne_true (hblank.symm.trans (hwritten j hfirst hlast))

/-- The check of a slot that cannot be started. -/
theorem PocketView.check_eq_error (v : PocketView) (i : SlotNo) :
    (v.pool[i] = .empty → v.check i = .error .slotEmpty) ∧
      (v.pool[i].isActive = true → v.check i = .error .slotInUse) ∧
      ∀ r : PhaseRecord, v.pool[i] = .loaded r → segmentUsable r v.unit.drum = false →
        v.check i = .error .segmentUnusable := by
  unfold PocketView.check
  refine ⟨fun h => by simp only [h], fun h => ?_, fun r h hunusable => by simp [h, hunusable]⟩
  cases hslot : v.pool[i] <;> simp_all [Slot.isActive]

/-! ## The requests of a pocket in a state that refuses them (R36 to R38, R41) -/

theorem exec_pause_paused (hp : pocketOf b = some p) (h : (s.unit p).seq.run = .paused) :
    exec (.pause b) s = .next (s.reply 0x11 .busy []) := by
  change Host.Outcome.next (reqPause b s) = _
  simp only [reqPause, hp, h]

theorem RunState.engaged_eq_false_iff (r : RunState) : r.engaged = false ↔ r = .idle ∨ r = .halted ∨ r = .done := by
  cases r <;> simp [RunState.engaged]

theorem RunState.drives_eq_false_iff (r : RunState) :
    r.drives = false ↔ r = .idle ∨ r = .paused ∨ r = .halted ∨ r = .done := by
  cases r <;> simp [RunState.drives]

theorem exec_pause_notEngaged (hp : pocketOf b = some p) (h : (s.unit p).seq.run.engaged = false) :
    exec (.pause b) s = .next (s.reply 0x11 .notAvailable []) := by
  change Host.Outcome.next (reqPause b s) = _
  rcases (RunState.engaged_eq_false_iff _).mp h with h | h | h <;> simp only [reqPause, hp, h]

theorem exec_abort_notEngaged (hp : pocketOf b = some p) (h : (s.unit p).seq.run.engaged = false) :
    exec (.abort b) s = .next (s.reply 0x15 .notAvailable []) := by
  change Host.Outcome.next (reqAbort b s) = _
  rcases (RunState.engaged_eq_false_iff _).mp h with h | h | h <;> simp only [reqAbort, hp, h]

/-- ABORT of a pocket in its safe chain, or turned to it. -/
theorem exec_abort_safe (hp : pocketOf b = some p)
    (h : (s.unit p).seq.run = .safe ∨ ((s.unit p).seq.run = .paused ∧ (s.unit p).seq.resumeTarget = .safe)) :
    exec (.abort b) s = .next (s.reply 0x15 .busy []) := by
  change Host.Outcome.next (reqAbort b s) = _
  rcases h with h | ⟨h, htarget⟩
  · simp only [reqAbort, hp, h]
  · simp only [reqAbort, hp, h, htarget]

theorem exec_resume_notPaused (hp : pocketOf b = some p) (h : (s.unit p).seq.run ≠ .paused) :
    exec (.resume b) s = .next (s.reply 0x12 .busy []) := by
  change Host.Outcome.next (reqResume b s) = _
  simp only [reqResume, hp, if_pos h]

theorem exec_resume_doorOpen (hp : pocketOf b = some p) (h : (s.unit p).seq.run = .paused)
    (hdoor : (s.unit p).pins.door = false) : exec (.resume b) s = .next (s.reply 0x12 .doorOpen []) := by
  change Host.Outcome.next (reqResume b s) = _
  simp only [reqResume, hp, if_neg (not_not_intro h), if_pos hdoor]

theorem exec_advance_stands (hp : pocketOf b = some p) (h : (s.unit p).seq.run.drives = false) :
    exec (.advance b) s = .next (s.reply 0x13 .busy []) := by
  change Host.Outcome.next (reqAdvance b s) = _
  rcases (RunState.drives_eq_false_iff _).mp h with h | h | h | h <;> simp only [reqAdvance, hp, h]

/-! ## BACKSTEP (R62) -/

/-- A BACKSTEP that check 2 refuses. -/
theorem exec_backstep_refused (hp : pocketOf b = some p) (hx : x.toNat ≤ 7) {r : ResultCode}
    (h : (s.unit p).seq.backstepRefusal = some r) : exec (.backstep b x) s = .next (s.reply 0x14 r []) := by
  change Host.Outcome.next (reqBackstep b x s) = _
  simp only [reqBackstep, hp, if_neg (show ¬7 < x.toNat by omega), h]

/-- A BACKSTEP that passes check 2 and has no target. -/
theorem exec_backstep_noTarget (hp : pocketOf b = some p) (hx : x.toNat ≤ 7)
    (hrun : (s.unit p).seq.run = .held ∨ ((s.unit p).seq.run = .paused ∧ (s.unit p).seq.resumeTarget = .running))
    (h : s.backstepTarget p x.toNat = none) : exec (.backstep b x) s = .next (s.reply 0x14 .notAvailable []) := by
  change Host.Outcome.next (reqBackstep b x s) = _
  simp only [reqBackstep, hp, if_neg (show ¬7 < x.toNat by omega), (Sequencer.backstepRefusal_eq_none _).mpr hrun, h]

theorem Sequencer.backstepRefusal_busy {q : Sequencer}
    (h : q.run = .running ∨ q.run = .safe ∨ (q.run = .paused ∧ q.resumeTarget = .safe)) :
    q.backstepRefusal = some .busy := by
  rcases h with h | h | ⟨h, htarget⟩
  · simp only [Sequencer.backstepRefusal, h]
  · simp only [Sequencer.backstepRefusal, h]
  · simp only [Sequencer.backstepRefusal, h, htarget]

theorem Sequencer.backstepRefusal_notEngaged {q : Sequencer} (h : q.run.engaged = false) :
    q.backstepRefusal = some .notAvailable := by
  rcases (RunState.engaged_eq_false_iff _).mp h with h | h | h <;> simp only [Sequencer.backstepRefusal, h]

/-- A history that does not go back so far holds no target. -/
theorem State.backstepTarget_of_short {k : Nat} (h : (s.unit p).seq.history.length ≤ k) : s.backstepTarget p k = none := by
  simp [State.backstepTarget, h]

/-- An entry whose slot is EMPTY, the other pocket's, or not usable, is no target. -/
theorem State.backstepTarget_of_unfit {k : Nat} {c : Checkpoint}
    (hc : (s.unit p).seq.history.reverse[k]? = some c)
    (h : s.pool[c.slot] = .empty ∨ (∃ r : PhaseRecord, s.pool[c.slot] = .active (otherPocket p) r) ∨
      ∃ r : PhaseRecord, s.pool[c.slot].record? = some r ∧ segmentUsable r (s.unit p).drum = false) :
    s.backstepTarget p k = none := by
  refine Option.eq_none_iff_forall_ne_some.mpr fun ⟨d, r⟩ htarget => ?_
  obtain ⟨hd, husable, hslot⟩ := State.backstepTarget_eq_some.mp htarget
  obtain rfl : c = d := Option.some.inj (hc.symm.trans hd)
  have hrecord : s.pool[c.slot].record? = some r := by rcases hslot with hslot | hslot <;> rw [hslot] <;> rfl
  obtain hempty | ⟨r', hother⟩ | ⟨r', hr', hunusable⟩ := h
  · rw [hempty] at hslot
    simp at hslot
  · rw [hother] at hslot
    cases p <;> simp [otherPocket] at hslot
  · obtain rfl : r = r' := Option.some.inj (hrecord.symm.trans hr')
    exact Bool.false_ne_true (hunusable.symm.trans husable)

end Refusals

/-- Settles O38: each refusal by the first check that fails. -/
theorem pocketRequestsRefusedByState : Obligations.PocketRequestsRefusedByState := by
  unfold Obligations.PocketRequestsRefusedByState
  refine ⟨fun b x s hb => exec_of_noPocket (pocketOf_eq_none hb) x s,
    fun b x s => ⟨fun hx => exec_start_noSlot (slotOf_eq_none hx) b s, fun hx => exec_backstep_tooFar hx b s⟩, ?_⟩
  intro b x p i s hp hi
  refine ⟨fun hrun => exec_start_refused hp hi (State.startRefusal_busy hrun), fun hrun => ⟨fun hready => ?_,
    fun hconfigured hanchor => ⟨fun hfaults => ?_, fun hfaults => ⟨fun hdoor => ?_, fun hdoor =>
      ⟨fun hcal => ?_, fun hcal hactive => ?_⟩⟩⟩⟩,
    exec_pause_paused hp, fun h => ⟨exec_pause_notEngaged hp h, exec_abort_notEngaged hp h⟩,
    exec_resume_notPaused hp, exec_resume_doorOpen hp, exec_advance_stands hp, exec_abort_safe hp, fun hx =>
      ⟨fun h => exec_backstep_refused hp hx (Sequencer.backstepRefusal_busy h),
        fun h => exec_backstep_refused hp hx (Sequencer.backstepRefusal_notEngaged h), fun hrun =>
          ⟨fun hshort => exec_backstep_noTarget hp hx hrun (State.backstepTarget_of_short hshort),
            fun c hc hunfit => exec_backstep_noTarget hp hx hrun (State.backstepTarget_of_unfit hc ?_)⟩⟩⟩
  · exact exec_start_refused hp hi (by rw [State.startRefusal_of_stands hrun, if_pos hready])
  · have hnonempty : (s.unit p).faults.isEmpty = false :=
      Bool.eq_false_iff.mpr fun h => hfaults ((FaultSet.isEmpty_iff _).mp h)
    exact exec_start_refused hp hi (by rw [State.startRefusal_of_ready hrun hconfigured hanchor, if_pos hnonempty])
  · exact exec_start_refused hp hi
      (by rw [State.startRefusal_of_faultless hrun hconfigured hanchor hfaults, if_pos hdoor])
  · exact exec_start_refused hp hi (by
      rw [State.startRefusal_of_faultless hrun hconfigured hanchor hfaults, if_neg (by simp [hdoor]),
        if_pos (Option.isSome_iff_ne_none.mpr hcal)])
  · have hrefusal := State.startRefusal_none hrun hconfigured hanchor hfaults hdoor hcal
    obtain ⟨hempty, hinUse, hunusable⟩ := (s.view p).check_eq_error i
    exact ⟨fun h => exec_start_unusable hp hi hrefusal hactive (hempty h),
      fun h => exec_start_unusable hp hi hrefusal hactive (hinUse h),
      fun r hr hseg => exec_start_unusable hp hi hrefusal hactive (hunusable r hr (segmentUsable_eq_false hseg))⟩
  · exact hunfit.imp_right (Or.imp_right fun ⟨r, hr, hseg⟩ => ⟨r, hr, segmentUsable_eq_false hseg⟩)

end Sys2Proof.Machine

end

section
/-! CONFIGURE (R151, R152), the count of a zero-cross (R154, R169, R170), and the edges of mains and AIRF (R155, R167, R171). -/

namespace Sys2Proof.Machine

/-! ## CONFIGURE (R152) -/

/-- A payload of CONFIGURE has its 17 bytes, or is none (R206). -/
theorem requestOf_configure_badLength {payload : List Byte} (h : payload.length ≠ 17) :
    requestOf 0x01 payload = .badLength := by
  change configureOf payload = .badLength
  unfold configureOf
  split
  · exact absurd rfl h
  · rfl

/-- Every field of a configuration is clamped into its range (R151). -/
theorem applianceOf_clamped (f : ConfigureFields) :
    (applianceOf f).clamped =
      { budget := min 24 f.budget.toNat
        weights := #v[min 4 f.weight0.toNat, min 4 f.weight1.toNat, min 4 f.weight2.toNat, min 4 f.weight3.toNat,
          min 4 f.weight4.toNat, min 4 f.weight5.toNat]
        frame := max 10 (min 100 f.frame.toNat)
        reserveUnits := min 24 f.reserveUnits.toNat
        reserveCycles := min 250 f.reserveCycles.toNat
        inletHigh := max 500 (min 2200 f.inletHigh.toInt)
        silence := max 1 (min 60 f.silence.toNat)
        resumeLimit := max 10 (min 600 f.resumeLimit.toNat)
        openLimit := max 2000 (min 65535 f.openLimit.toNat) } := by
  simp [Appliance.clamped, applianceOf, clampNat, clampInt]

/-- The parts of a pocket that a CONFIGURE writes, and those that it leaves (R152). -/
theorem PocketUnit.reconfigured_does (changedF : Bool) (u : PocketUnit) :
    let w := u.reconfigured changedF
    w.seq = u.seq ∧ w.drum = u.drum ∧ w.moist = u.moist ∧ w.faults = u.faults ∧ w.notices = u.notices ∧ w.pins = u.pins ∧
      w.heat.reserve = 0 ∧ w.heat.grantedNow = 0 ∧ w.heat.grantedLast = u.heat.grantedLast ∧
      w.heat.demand = u.heat.demand ∧ w.heat.airTimer = u.heat.airTimer ∧
      ∀ j : Fin 3, w.heat.elements[j] = u.heat.elements[j].reconfigured changedF := by
  refine ⟨rfl, rfl, rfl, rfl, rfl, rfl, rfl, rfl, rfl, rfl, rfl, fun j => ?_⟩
  simp [PocketUnit.reconfigured]

theorem State.configure_unit (s : State) (a : Appliance) (p : Pocket) :
    (s.configure a).unit p = (s.unit p).reconfigured (decide (a.frame ≠ s.supply.config.frame)) := by
  cases p <;> rfl

/-- A CONFIGURE while a pocket is engaged (R152). -/
theorem exec_configure_busy {s : State} (h : s.lower.seq.run.engaged = true ∨ s.upper.seq.run.engaged = true)
    (f : ConfigureFields) : exec (.configure f) s = .next (s.reply 0x01 .busy []) := by
  change Host.Outcome.next (reqConfigure f s) = _
  rw [reqConfigure, if_pos (by simpa using h)]

/-- A CONFIGURE while no pocket is engaged (R152). -/
theorem exec_configure_accepted {s : State} (hlower : s.lower.seq.run.engaged = false)
    (hupper : s.upper.seq.run.engaged = false) (f : ConfigureFields) :
    exec (.configure f) s = .next ((s.configure (applianceOf f).clamped).reply 0x01
      (if (applianceOf f).clamped = applianceOf f then .ok else .okClamped) []) := by
  change Host.Outcome.next (reqConfigure f s) = _
  rw [reqConfigure, if_neg (by simp [hlower, hupper])]

/-- Settles O42: the length, the check of the pockets, and the step. -/
theorem configureByCases : Obligations.ConfigureByCases := by
  unfold Obligations.ConfigureByCases
  refine ⟨fun payload => requestOf_configure_badLength, fun f s h => exec_configure_busy h f, fun f s hlower hupper => ?_⟩
  refine ⟨_, exec_configure_accepted hlower hupper f, applianceOf_clamped f, rfl, rfl, rfl, rfl, rfl, rfl, rfl, rfl, rfl, rfl,
    fun p => ?_⟩
  obtain ⟨hseq, hdrum, hmoist, hfaults, hnotices, hpins, hreserve, hnow, hlast, hdemand, htimer, helements⟩ :=
    (s.unit p).reconfigured_does (decide ((applianceOf f).clamped.frame ≠ s.supply.config.frame))
  rw [State.reply_unit, State.configure_unit]
  refine ⟨hseq, hdrum, hmoist, hfaults, hnotices, hpins, hreserve, hnow, hlast, hdemand, htimer, fun j => ?_⟩
  rw [helements]
  refine ⟨rfl, rfl, ?_⟩
  change (if decide ((applianceOf f).clamped.frame ≠ s.supply.config.frame) = true then _ else _) =
    if (applianceOf f).clamped.frame = s.supply.config.frame then _ else _
  by_cases hsame : (applianceOf f).clamped.frame = s.supply.config.frame <;> simp [hsame]

/-! ## The count of the grants (R166, R170) -/

/-- No element is granted twice in an order that has each once. -/
theorem Examination.granted_visits_nodup {requests : ElementNo → Bool} {weights : Vector Nat 6} {x : Examination}
    {order : List ElementNo} (horder : order.Nodup) (hfresh : x.Fresh order) (h : x.granted.Nodup) :
    (x.visits requests weights order).granted.Nodup := by
  induction order generalizing x with
  | nil => exact h
  | cons e order ih =>
    obtain ⟨hnew, horder⟩ := List.nodup_cons.mp horder
    refine ih horder (hfresh.visit hnew) ?_
    obtain ⟨-, hvisit⟩ | ⟨-, -, hvisit⟩ | ⟨-, -, hvisit⟩ := Examination.visit_cases requests weights x e <;> rw [hvisit]
    · exact h
    · exact List.nodup_append.mpr ⟨h, List.pairwise_singleton _ e, fun a ha b hb hab =>
        hfresh e List.mem_cons_self (List.mem_singleton.mp hb ▸ hab ▸ ha)⟩
    · exact h

theorem State.examine_granted_nodup (s : State) : s.examine.granted.Nodup := by
  rw [s.examine_eq]
  exact Examination.granted_visits_nodup (examinationOrder_nodup _) (fun _ _ => List.not_mem_nil) List.nodup_nil

theorem elementNo_injective (p : Pocket) : Function.Injective (elementNo p) := by
  intro i j
  cases p <;> revert i j <;> decide

/-- A pocket's elements in a list without repetition, counted by their place (R170). -/
theorem countP_elementPocket {l : List ElementNo} (h : l.Nodup) (p : Pocket) :
    l.countP (fun e => decide (elementPocket e = p)) =
      ((List.finRange 3).filter fun j => decide (elementNo p j ∈ l)).length := by
  rw [List.countP_eq_length_filter, ← List.length_map (elementNo p)]
  refine List.Perm.length_eq ((List.perm_ext_iff_of_nodup (h.filter _)
    (List.Pairwise.map (elementNo p) (fun _ _ hne heq => hne (elementNo_injective p heq)) ((List.nodup_finRange 3).filter _))).mpr fun e => ?_)
  simp only [List.mem_filter, List.mem_map, List.mem_finRange, true_and, decide_eq_true_eq]
  constructor
  · rintro ⟨he, rfl⟩
    exact ⟨elementPlace e, by rwa [elementNo_elementPlace], elementNo_elementPlace e⟩
  · rintro ⟨j, hj, rfl⟩
    exact ⟨hj, elementPocket_elementNo p j⟩

/-! ## A zero-cross (R154) -/

theorem State.zeroCross_does (s : State) :
    s.zeroCross.supply.framePos = (if s.supply.framePos + 1 < s.supply.config.frame then s.supply.framePos + 1 else 0) ∧
      s.zeroCross.supply.mainsPresent = true ∧ s.zeroCross.supply.zcElapsed = 0 ∧
      s.zeroCross.supply.config = s.supply.config ∧ s.zeroCross.supply.configured = s.supply.configured ∧
      s.zeroCross.pool = s.pool ∧ s.zeroCross.temps = s.temps ∧ s.zeroCross.device = s.device ∧
      s.zeroCross.trend = s.trend ∧ s.zeroCross.link = s.link ∧ s.zeroCross.prescale = s.prescale ∧
      s.zeroCross.free = s.free := by
  unfold State.zeroCross
  dsimp only
  split <;> exact ⟨rfl, rfl, rfl, rfl, rfl, rfl, rfl, rfl, rfl, rfl, rfl, rfl⟩

/-- What a frame boundary leaves of a pocket's heat, and a cycle that is none. -/
theorem State.framed_heat (s : State) (p : Pocket) :
    (s.framed.unit p).heat.reserve = (s.unit p).heat.reserve ∧
      (s.framed.unit p).heat.grantedNow = (if s.supply.framePos = 0 then 0 else (s.unit p).heat.grantedNow) ∧
      (s.supply.framePos ≠ 0 → s.framed.unit p = s.unit p) := by
  rw [State.framed_unit]
  split
  next hpos => exact ⟨rfl, rfl, fun h => absurd hpos h⟩
  next => exact ⟨rfl, rfl, fun _ => rfl⟩

/-- The heat of a pocket after a zero-cross: the reserve counted, and the grants of the cycle (R154, R169, R170). -/
theorem State.zeroCross_heat (s : State) (p : Pocket) :
    (s.zeroCross.unit p).heat.reserve = (s.unit p).heat.reserve - 1 ∧
      (s.zeroCross.unit p).heat.grantedNow = (if s.supply.framePos = 0 then 0 else (s.unit p).heat.grantedNow) +
        ((List.finRange 3).filter fun j => (s.zeroCross.unit p).heat.elements[j].output).length ∧
      (s.zeroCross.unit p).heat.demand = (s.framed.unit p).heat.demand ∧
      (s.zeroCross.unit p).heat.grantedLast = (s.framed.unit p).heat.grantedLast ∧
      (s.zeroCross.unit p).heat.airTimer = (s.framed.unit p).heat.airTimer := by
  obtain ⟨hreserve, hgranted, -⟩ := s.framed_heat p
  have houtput (j : Fin 3) : (s.zeroCross.unit p).heat.elements[j].output =
      decide (elementNo p j ∈ s.examined.examine.granted) := by rw [State.zeroCross_elements]; rfl
  simp only [houtput]
  rw [← countP_elementPocket s.examined.examine_granted_nodup, ← hreserve, ← hgranted, State.zeroCross_unit,
    State.examined_unit]
  exact ⟨rfl, rfl, rfl, rfl, rfl⟩

/-- Settles O44: a zero-cross, pocket by pocket. -/
theorem zeroCrossCountsCycle : Obligations.ZeroCrossCountsCycle := by
  unfold Obligations.ZeroCrossCountsCycle
  intro s
  obtain ⟨hpos, hmains, helapsed, hconfig, hconfigured, hpool, htemps, hdevice, htrend, hlink, hprescale, hfree⟩ :=
    s.zeroCross_does
  refine ⟨s.zeroCross, exec_zeroCross s, hpos, hmains, helapsed, hconfig, hconfigured, hpool, htemps, hdevice, htrend, hlink,
    hprescale, hfree, fun p => ?_⟩
  obtain ⟨hseq, hdrum, hmoist, hfaults, hnotices, hmark, hpins⟩ := s.zeroCross_keeps p
  obtain ⟨hreserve, hgranted, hdemand, hlast, htimer⟩ := s.zeroCross_heat p
  refine ⟨hseq, hdrum, hmoist, hfaults, hnotices, hmark, hpins, hreserve, hgranted, fun hbetween => ?_⟩
  have hframed := (s.framed_heat p).2.2 hbetween
  rw [hframed] at hdemand hlast htimer
  exact ⟨hdemand, hlast, htimer, fun j => by rw [State.zeroCross_onCount, hframed]⟩

end Sys2Proof.Machine

end

section
/-! The reports of the cutout (R147) and of airflow (R171), and the edges of mains (R155) and AIRF (R167, R171). -/

namespace Sys2Proof.Machine

section Pins

variable {env : Env} {v : PocketView} {f : PocketFault}

/-! ## The inputs of a pocket in a report -/

theorem PocketView.enterSafe_pins (env : Env) (v : PocketView) : (v.enterSafe env).unit.pins = v.unit.pins := by
  have hhalt (x : PocketView) : (x.chainHalt env).unit.pins = x.unit.pins := (x.chainHalt_does env).2.2.2.1
  unfold PocketView.enterSafe
  dsimp only
  split
  · rw [hhalt]
    rfl
  · next a _ =>
    obtain ⟨r, -, hact⟩ | ⟨e, -, hact⟩ := (v.onUnit PocketUnit.clearQuals).activate_cases env a <;> rw [hact]
    · obtain ⟨-, -, -, -, -, -, hpins, -⟩ :=
        PocketView.enterSlot_does env a r ((v.onUnit PocketUnit.clearQuals).vacate env a)
      simp [PocketUnit.becomeSafe, hpins]
    · rw [hhalt]
      simp

/-- A report of OVERHEAT or SENSOR leaves the pocket's inputs (R176, R177). -/
theorem PocketView.report_pins (hf : f.OrdersSafe) (env : Env) (v : PocketView) :
    (v.report env f).unit.pins = v.unit.pins := by
  by_cases hlatched : v.unit.faults.has f = true
  · rw [PocketView.report_of_latched hf hlatched]
    simp
  rw [Bool.not_eq_true] at hlatched
  cases hrun : v.unit.seq.run
  case running | held =>
    rw [PocketView.report_entersSafe hf hlatched (by simp [hrun]), PocketView.enterSafe_pins]
    simp
  case paused =>
    cases htarget : v.unit.seq.resumeTarget
    · rw [PocketView.report_retargets hf hlatched hrun htarget]
      simp [PocketUnit.retargetSafe]
    · rw [PocketView.report_runsOn hf hlatched (by simp [hrun, htarget])]
      simp
  all_goals
    rw [PocketView.report_runsOn hf hlatched (by simp [hrun, RunState.engaged])]
    simp

end Pins

/-! ## The cutout (R147) -/

/-- A report's predicate does not read the inputs of the first state. -/
theorem State.SafeOrderReported.of_setCutout {s t : State} {p : Pocket} {f : PocketFault} {b : Bool}
    (h : (s.onUnit p (PocketUnit.setCutout b)).SafeOrderReported t p f) : s.SafeOrderReported t p f := by
  let s' := s.onUnit p (PocketUnit.setCutout b)
  have hunit : s'.unit p = (s.unit p).setCutout b := by simp [s']
  have hseq : (s'.unit p).seq = (s.unit p).seq := by rw [hunit]; rfl
  have hdrum : (s'.unit p).drum = (s.unit p).drum := by rw [hunit]; rfl
  have hmoist : (s'.unit p).moist = (s.unit p).moist := by rw [hunit]; rfl
  have hfaults : (s'.unit p).faults = (s.unit p).faults := by rw [hunit]; rfl
  have hnotices : (s'.unit p).notices = (s.unit p).notices := by rw [hunit]; rfl
  have hpool : s'.pool = s.pool := by simp [s']
  have hchecks : (s.view p).ChecksAs (s'.view p) :=
    ⟨hpool, rfl, congrArg (fun q => q.work.active) hseq, hdrum⟩
  have henv : s'.eventEnv p = s.eventEnv p := by
    refine State.eventEnv_congr (fun q => ?_) (by simp [s']) (by simp [s']) (by simp [s']) (by simp [s']) (by simp [s']) p
    obtain rfl | rfl := eq_or_eq_otherPocket p q
    · exact hseq
    · simp [s']
  have h' : s'.SafeOrderReported t p f := h
  simpa only [State.SafeOrderReported, State.FaultedIntoSafe, State.EnteredSafe, hchecks.vacate_check, hseq, hdrum, hmoist,
    hfaults, hnotices, hpool, henv] using h'

/-- Settles O41: the report to the pocket whose input has changed. -/
theorem cutoutOpeningLatchesOverheat : Obligations.CutoutOpeningLatchesOverheat := by
  unfold Obligations.CutoutOpeningLatchesOverheat
  refine ⟨fun p s h => ?_, fun p s h => ?_, fun p s => rfl⟩
  · let s' := s.onUnit p (PocketUnit.setCutout false)
    refine ⟨s'.reportTo p .overheat, if_pos h, ?_, ?_, ?_,
      (State.reportTo_safeOrderReported PocketFault.ordersSafe_overheat s' p).of_setCutout⟩
    · simp [State.SameElsewhere, State.reportTo, s']
    · simp [State.reportTo, s']
    · rw [State.reportTo, State.onEvent_unit, PocketView.report_pins PocketFault.ordersSafe_overheat]
      simp [s', PocketUnit.setCutout]
  · exact if_neg (by simp [h])

/-! ## Mains and AIRF (R155, R167, R171) -/

theorem PocketHeat.outputsOff_elements (h : PocketHeat) (j : Fin 3) :
    h.outputsOff.elements[j] = { h.elements[j] with output := false } := by
  simp [PocketHeat.outputsOff]

/-- A loss of mains that is due (R155). -/
theorem exec_mainsLoss_due {s : State} (hpresent : s.supply.mainsPresent = true) (helapsed : 60000 ≤ s.supply.zcElapsed) :
    exec .mainsLoss s = .next { s with
      lower := s.lower.elementsOff, upper := s.upper.elementsOff, supply := { s.supply with mainsPresent := false },
      device := s.device.raise .mainsLost } :=
  if_pos ((Supply.lossDue_iff _).mpr ⟨hpresent, helapsed⟩)

theorem exec_mainsLoss_notDue {s : State} (h : s.supply.mainsPresent = false ∨ s.supply.zcElapsed < 60000) :
    exec .mainsLoss s = .next s := by
  refine if_neg fun hdue => ?_
  obtain ⟨hpresent, helapsed⟩ := (Supply.lossDue_iff _).mp hdue
  rw [hpresent] at h
  simp only [Bool.true_eq_false, false_or] at h
  omega

/-! ## AIRFLOW (R171) -/

section Airflow

variable {s : State} {p : Pocket} {f : PocketFault}

/-- A fault that orders a RUNNING or HELD pocket to SAFE closes its phase and enters it (R49, R177). -/
theorem State.faultedIntoSafe_of_ordered {t : State} {env : Env} {c : Checkpoint} (henv : env.pocket = p)
    (hnew : (s.unit p).faults.has f = false) (hc : (s.unit p).seq.newest = some c)
    (hopen : c.outcome = none ∨ (s.unit p).seq.run = .held)
    (hpool : t.pool = (PocketView.enterSafe env
      (((s.view p).onUnit (PocketUnit.latch f)).onUnit (PocketUnit.closePhase .faulted))).pool)
    (hunit : t.unit p = (PocketView.enterSafe env
      (((s.view p).onUnit (PocketUnit.latch f)).onUnit (PocketUnit.closePhase .faulted))).unit) :
    s.FaultedIntoSafe t p env c ((s.unit p).faults.put f true) := by
  let v := ((s.view p).onUnit (PocketUnit.latch f)).onUnit (PocketUnit.closePhase .faulted)
  have hclosable : ((s.unit p).latch f).seq.closable = true := by
    rw [PocketUnit.latch_seq]
    exact Sequencer.closable_of_newest hc (hopen.imp_right .inl)
  obtain ⟨hnewest, hend⟩ := PocketUnit.closePhase_closes (u := (s.unit p).latch f) (by rwa [PocketUnit.latch_seq]) hclosable
    .faulted
  have hkeeps : v.unit.KeepsReports (t.unit p) := by
    rw [hunit]
    exact PocketUnit.KeepsReports.enterSafe (.refl _) env
  have hv : (s.view p).ChecksAs v := ⟨rfl, rfl, by simp [v], by simp [v]⟩
  have hsafe := State.enteredSafe_of_enterSafe henv hv (by simp [v]) hpool hunit
  obtain ⟨hhistory, hhalted⟩ := PocketView.enterSafe_history (env := env) (v := v) hnewest
  rw [← hunit] at hhistory hhalted
  have hraised : v.unit.notices.has .faultLatched = true :=
    (PocketUnit.closePhase_keepsReports .faulted _).notices .faultLatched (PocketUnit.latch_raises hnew)
  exact ⟨by simpa [v, PocketUnit.latch_faults] using hsafe, hhistory, hkeeps.notices .phaseEnd hend,
    hkeeps.notices .faultLatched hraised, hhalted⟩

/-- AIRFLOW newly reported to a RUNNING pocket (R171, R177). -/
theorem PocketView.report_airflow_entersSafe {v : PocketView} (h : v.unit.faults.has .airflow = false)
    (hrun : v.unit.seq.run = .running) (env : Env) :
    v.report env .airflow =
      PocketView.enterSafe env ((v.onUnit (PocketUnit.latch .airflow)).onUnit (PocketUnit.closePhase .faulted)) := by
  rw [PocketView.report_of_new h, ← PocketView.enterSafe_checkHeat]
  simp [PocketView.respond, PocketView.orderSafe, hrun]

/-- The timeout of airflow that is due is a report of AIRFLOW (R171). -/
theorem exec_airflowTimeout_due {n : Nat} (htimer : (s.unit p).heat.airTimer = some n) (hn : 5000000 ≤ n) :
    exec (.airflowTimeout p) s = .next (s.reportTo p .airflow) :=
  if_pos ((PocketHeat.airflowDue_iff _).mpr ⟨n, htimer, hn⟩)

end Airflow

/-- Settles O46: each event's step, and the report of AIRFLOW. -/
theorem mainsAndAirflowEvents : Obligations.MainsAndAirflowEvents := by
  unfold Obligations.MainsAndAirflowEvents
  refine ⟨fun s hpresent helapsed => ?_, fun s h => exec_mainsLoss_notDue h, fun p s h => ?_, fun p s => rfl,
    fun p n c s htimer hn hnew hrun hc hopen => ?_⟩
  · refine ⟨_, exec_mainsLoss_due hpresent helapsed, rfl, rfl, rfl, rfl, rfl, rfl, fun p => ?_⟩
    cases p
    · exact ⟨rfl, rfl, PocketHeat.outputsOff_elements _⟩
    · exact ⟨rfl, rfl, PocketHeat.outputsOff_elements _⟩
  · refine ⟨_, if_pos h, State.onUnit_sameElsewhere .., by simp, by simp, ?_⟩
    rw [State.onUnit_unit]
    refine ⟨rfl, rfl, ?_, PocketHeat.outputsOff_elements _⟩
    simp [PocketUnit.loseAirflow, airTimerAt]
  · refine ⟨_, exec_airflowTimeout_due htimer hn, State.onEvent_sameElsewhere .., by simp [State.reportTo], ?_⟩
    have hreport := PocketView.report_airflow_entersSafe (v := s.view p) hnew hrun (s.eventEnv p)
    exact State.faultedIntoSafe_of_ordered rfl hnew hc (.inl hopen) (by simp [State.reportTo, hreport])
      (by simp [State.reportTo, hreport])

end Sys2Proof.Machine

end

section
/-! The transmit arbiter (R195, R196, R199, R201, R202). -/

namespace Sys2Proof.Machine

/-! ## The bits on the line (R195) -/

/-- The bit of a byte at its place on the line: the start bit, the data bits, the stop bit (R195). -/
theorem byteLine_getElem? (b : Byte) {j : Nat} (hj : j < 10) :
    (byteLine b)[j]? = some (if j = 0 then false else if j = 9 then true else b.getLsbD (j - 1)) := by
  obtain rfl | rfl | rfl | rfl | rfl | rfl | rfl | rfl | rfl | rfl : j = 0 ∨ j = 1 ∨ j = 2 ∨ j = 3 ∨ j = 4 ∨ j = 5 ∨ j = 6 ∨
      j = 7 ∨ j = 8 ∨ j = 9 := by omega
  all_goals rfl

/-- The bytes of a frame stand on the line back to back, ten bits each (R195). -/
theorem flatMap_byteLine_getElem? (frame : List Byte) (k : Nat) :
    (frame.flatMap byteLine)[k]? = frame[k / 10]?.bind fun b => (byteLine b)[k % 10]? := by
  induction frame generalizing k with
  | nil => simp
  | cons b rest ih =>
    rw [List.flatMap_cons]
    by_cases hk : k < 10
    · rw [List.getElem?_append_left hk, Nat.div_eq_of_lt hk, Nat.mod_eq_of_lt hk]
      rfl
    · obtain ⟨j, rfl⟩ : ∃ j, k = j + 10 := ⟨k - 10, by omega⟩
      rw [List.getElem?_append_right (by rw [byteLine_length]; omega), byteLine_length, Nat.add_sub_cancel, ih]
      simp

/-- TXD while a frame is sent (R195). -/
theorem LinkPort.txd_of_sending {l : LinkPort} {isReply : Bool} {frame : List Byte} {n k : Nat} {b : Byte}
    (htx : l.tx = .sending isReply frame n) (hk : n * 38400 / 1000000 = k) (hb : frame[k / 10]? = some b) :
    l.txd = if k % 10 = 0 then false else if k % 10 = 9 then true else b.getLsbD (k % 10 - 1) := by
  have hbit : (frame.flatMap byteLine)[k]? = _ :=
    (flatMap_byteLine_getElem? frame k).trans
      (by rw [hb, Option.bind_some, byteLine_getElem? b (Nat.mod_lt k (by decide))])
  simp only [LinkPort.txd, htx, hk, List.getD_eq_getElem?_getD, hbit, Option.getD_some]

/-! ## The status byte (R201, R206) -/

theorem bitsByte_four_toNat (a b c d : Bool) :
    (bitsByte [a, b, c, d]).toNat =
      (if a then 1 else 0) + (if b then 2 else 0) + (if c then 4 else 0) + (if d then 8 else 0) := by
  revert a b c d
  decide

theorem State.statusByte_toNat (s : State) :
    s.statusByte.toNat =
      (if s.link.overrun then 1 else 0) + (if s.lower.notices = NoticeSet.none then 0 else 2) +
        (if s.upper.notices = NoticeSet.none then 0 else 4) +
        (if s.device.mainsLost || s.device.trendReady || s.device.trendLost || s.device.trendHalted then 8 else 0) := by
  rw [State.statusByte, bitsByte_four_toNat]
  simp [NoticeSet.isEmpty, DeviceNotices.isEmpty]

/-! ## The frames that begin and end (R196, R201, R202) -/

theorem frameBytes_length (body : List Byte) : (frameBytes body).length = body.length + 3 := by
  simp [frameBytes]

/-- A reply's transmission begins on an idle line (R201). -/
theorem exec_replyTransmissionBegin {s : State} {r : Reply} (htx : s.link.tx = .idle) (hslot : s.link.replySlot = some r) :
    exec .replyTransmissionBegin s =
      .next { s with link := { s.link with
        tx := .sending true (frameBytes (r.body s.statusByte)) 0, overrun := false } } := by
  change execReplyTransmissionBegin s = _
  simp only [execReplyTransmissionBegin, htx, hslot]

/-- A NOTICE frame's transmission begins on an idle line with no reply waiting (R201, R202). -/
theorem exec_noticeFrameBegin {s : State} {t : Target} (htx : s.link.tx = .idle) (hslot : s.link.replySlot = none)
    (ht : s.markedTarget = some t) : exec .noticeFrameBegin s = .next (s.beginNotice t) := by
  change execNoticeFrameBegin s = _
  simp only [execNoticeFrameBegin, htx, hslot, ht]

/-- The lower pocket is the first target, the upper one the next (R201). -/
theorem State.markedTarget_of_pocket {s : State} {p : Pocket} (h : (s.unit p).noticeMark = true)
    (hlower : p = .upper → s.lower.noticeMark = false) : s.markedTarget = some (.pocket p) := by
  cases p
  · exact if_pos h
  · exact (if_neg (by simp [hlower rfl])).trans (if_pos h)

/-- DEVICE is the last target (R201). -/
theorem State.markedTarget_of_device {s : State} (hlower : s.lower.noticeMark = false) (hupper : s.upper.noticeMark = false)
    (h : s.device.mark = true) : s.markedTarget = some .device := by
  simp [State.markedTarget, hlower, hupper, h]

/-- A frame ends when its last byte has gone (R198, R201). -/
theorem exec_transmissionEnd {s : State} {isReply : Bool} {frame : List Byte} {n : Nat}
    (htx : s.link.tx = .sending isReply frame n) (hn : frame.length * 10000000 ≤ n * 38400) :
    exec .transmissionEnd s = .next { s with link := s.link.endFrame isReply } := by
  change execTransmissionEnd s = _
  have hwhole : sentWhole frame n = true := by simpa only [sentWhole, decide_eq_true_eq, Nat.mul_assoc, Nat.reduceMul] using hn
  simp only [execTransmissionEnd, htx, if_pos hwhole]

/-- Settles O54: the line, the arbiter's order, and the frames' ends. -/
theorem transmissionsBeginAndEnd : Obligations.TransmissionsBeginAndEnd := by
  unfold Obligations.TransmissionsBeginAndEnd
  refine ⟨fun l hidle => by simp only [LinkPort.txd, hidle],
    fun isReply frame n k b l htx hk hb => LinkPort.txd_of_sending htx hk hb, fun r s htx hslot => ?_,
    fun p s htx hslot hmark hlower => exec_noticeFrameBegin htx hslot (State.markedTarget_of_pocket hmark hlower),
    fun s htx hslot hlower hupper hmark => exec_noticeFrameBegin htx hslot (State.markedTarget_of_device hlower hupper hmark),
    fun isReply frame n s htx hn => exec_transmissionEnd htx hn, frameBytes_length⟩
  refine ⟨s.statusByte, (exec_replyTransmissionBegin htx hslot).trans ?_, s.statusByte_toNat⟩
  unfold Reply.body
  cases r.result <;> rfl

end Sys2Proof.Machine

end

section
/-! The assembly of frames and the requests they carry (R196 to R198, R207). -/

namespace Sys2Proof.Machine

/-! ## The request of a frame (R207) -/

theorem half_halfBytes (h : Half) : half (h.setWidth 8) ((h >>> 8).setWidth 8) = h := by
  refine BitVec.eq_of_getLsbD_eq fun i hi => ?_
  rw [half, BitVec.getLsbD_append]
  by_cases hlow : i < 8
  · simp [hlow]
  · simp [hlow, show i - 8 < 8 by omega, show 8 + (i - 8) = i by omega]

theorem requestOf_configure (f : ConfigureFields) :
    requestOf 0x01 (configureBytes f) = .request (.configure f) := by
  change LinkRequest.request (.configure { f with
    inletHigh := half _ _, resumeLimit := half _ _, openLimit := half _ _ }) = _
  rw [half_halfBytes, half_halfBytes, half_halfBytes]

theorem requestOf_setTempCal (channel : Byte) (cLo tLo cHi tHi : Half) :
    requestOf 0x02 (channel :: (halfBytes cLo ++ halfBytes tLo ++ halfBytes cHi ++ halfBytes tHi)) =
      .request (.setTempCal channel cLo tLo cHi tHi) := by
  change LinkRequest.request (.setTempCal channel (half _ _) (half _ _) (half _ _) (half _ _)) = _
  rw [half_halfBytes, half_halfBytes, half_halfBytes, half_halfBytes]

theorem requestOf_putPhase (slot kind next : Byte) (maxTime : Half) (segFirst segLast quals mask : Byte)
    (groups : List Byte) :
    requestOf 0x06 ([slot, kind, next] ++ halfBytes maxTime ++ [segFirst, segLast, quals, mask] ++ groups) =
      .request (.putPhase slot kind next maxTime segFirst segLast quals mask groups) := by
  change LinkRequest.request (.putPhase slot kind next (half _ _) segFirst segLast quals mask groups) = _
  rw [half_halfBytes]

/-- The request of a well-formed command comes back from its frame (R207). -/
theorem requestOf_requestFrame {i : Instr} {kind : Byte} {payload : List Byte} (hwell : i.wellFormed = true)
    (hframe : requestFrame i = some (kind, payload)) : payload.length ≤ 63 ∧ requestOf kind payload = .request i := by
  cases i
  case configure f =>
    obtain ⟨rfl, rfl⟩ := Prod.mk.inj (Option.some.inj hframe)
    exact ⟨by simp [configureBytes, halfBytes], requestOf_configure f⟩
  case setTempCal channel cLo tLo cHi tHi =>
    obtain ⟨rfl, rfl⟩ := Prod.mk.inj (Option.some.inj hframe)
    exact ⟨by simp [halfBytes], requestOf_setTempCal channel cLo tLo cHi tHi⟩
  case setDefaults pocket mask groups =>
    obtain ⟨rfl, rfl⟩ := Prod.mk.inj (Option.some.inj hframe)
    have hlength : 2 + groups.length ≤ 63 := of_decide_eq_true hwell
    exact ⟨by simp only [List.length_cons]; omega, rfl⟩
  case putPhase slot kind next maxTime segFirst segLast quals mask groups =>
    obtain ⟨rfl, rfl⟩ := Prod.mk.inj (Option.some.inj hframe)
    have hlength : 9 + groups.length ≤ 63 := of_decide_eq_true hwell
    exact ⟨by simp only [halfBytes, List.length_append, List.length_cons, List.length_nil]; omega,
      requestOf_putPhase slot kind next maxTime segFirst segLast quals mask groups⟩
  all_goals simp only [requestFrame, reduceCtorEq, Option.some.injEq, Prod.mk.injEq] at hframe
  all_goals
    obtain ⟨rfl, rfl⟩ := hframe
    exact ⟨by simp, rfl⟩

/-! ## A byte on the assembler (R196) -/

section Bytes

variable {b : Byte} {l : LinkPort}

/-- A good byte that completes no frame. -/
theorem LinkPort.receive_of_incomplete {a : Assembler} (h : l.atStartBit.take b = (a, none)) :
    l.receive b true = { l with assembler := a, byteSilence := 0 } := by
  simp [LinkPort.receive, h]

theorem LinkPort.atStartBit_of_fresh (h : l.byteSilence = 0) : l.atStartBit = l.assembler :=
  if_neg (by rw [h]; exact Nat.not_lt_zero _)

theorem LinkPort.atStartBit_of_hunt (h : l.assembler = .hunt) : l.atStartBit = .hunt := by
  unfold LinkPort.atStartBit
  rw [h, ite_self]

/-- A length out of range is judged as in HUNT (R196). -/
theorem LinkPort.receive_badLength (h : l.assembler = .length) (hb : b.toNat = 0 ∨ 64 < b.toNat) :
    (l.receive b true).assembler = if b = 0xB5 then .length else .hunt := by
  have htake : l.atStartBit.take b = (huntByte b, none) := by
    obtain ⟨-, hstart⟩ | ⟨-, hstart⟩ := l.atStartBit_cases <;> rw [hstart]
    · rw [h]
      exact if_neg (by omega)
    · rfl
  rw [LinkPort.receive_of_incomplete htake]
  rfl

/-- A byte of the body, its start bit within the 10 ms (R196, entry 17). -/
theorem LinkPort.receive_body {n : Nat} {gathered : List Byte} (h : l.assembler = .body n gathered)
    (hfresh : l.byteSilence ≤ 10261) :
    l.receive b true = { l with
      assembler := if gathered.length + 1 < n then .body n (gathered ++ [b]) else .check n (gathered ++ [b])
      byteSilence := 0 } := by
  have hstart : l.atStartBit = .body n gathered := by
    obtain ⟨-, hstart⟩ | ⟨hlate, -⟩ := l.atStartBit_cases
    · exact hstart.trans h
    · omega
  refine LinkPort.receive_of_incomplete ?_
  rw [hstart]
  by_cases hlast : n ≤ gathered.length + 1
  · exact (if_pos hlast).trans (by rw [if_neg (by omega)])
  · exact (if_neg hlast).trans (by rw [if_pos (by omega)])

/-- A byte whose start bit came later finds the frame discarded (R196, entry 17). -/
theorem LinkPort.receive_late (hlate : 10261 < l.byteSilence) :
    l.receive b true = { l with assembler := if b = 0xB5 then .length else .hunt, byteSilence := 0 } := by
  obtain ⟨hfresh, -⟩ | ⟨-, hstart⟩ := l.atStartBit_cases
  · omega
  · exact LinkPort.receive_of_incomplete (by rw [hstart]; rfl)

end Bytes

/-! ## A whole frame (R196 to R198) -/

/-- The bytes of a body, received one after another, stand gathered for the check byte. -/
theorem LinkPort.receive_bodyBytes {n : Nat} {rest gathered : List Byte} {l : LinkPort}
    (h : l.assembler = .body n gathered) (hfresh : l.byteSilence = 0) (hrest : rest ≠ [])
    (hn : gathered.length + rest.length = n) :
    rest.foldl (fun x b => x.receive b true) l = { l with assembler := .check n (gathered ++ rest) } := by
  induction rest generalizing gathered l with
  | nil => exact absurd rfl hrest
  | cons b rest ih =>
    rw [List.length_cons] at hn
    rw [List.foldl_cons, LinkPort.receive_body h (by omega)]
    by_cases hlast : rest = []
    · subst hlast
      rw [List.length_nil] at hn
      rw [List.foldl_nil, if_neg (by omega), ← hfresh]
    · have hmore : 0 < rest.length := List.length_pos_iff.mpr hlast
      rw [if_pos (by omega),
        ih (gathered := gathered ++ [b]) rfl rfl hlast (by rw [List.length_append, List.length_singleton]; omega),
        List.append_assoc, List.singleton_append, ← hfresh]

theorem byteOf_toNat_of_lt {n : Nat} (h : n < 256) : (byteOf n).toNat = n := by
  rw [byteOf, BitVec.toNat_ofNat, Nat.mod_eq_of_lt h]

/-- A whole frame, received one byte after another, is complete (R196, R197). -/
theorem LinkPort.receive_frame {kind check : Byte} {payload : List Byte} {l : LinkPort} (hlength : payload.length ≤ 63)
    (hhunt : l.assembler = .hunt) :
    (0xB5 :: byteOf (payload.length + 1) :: kind :: payload ++ [check]).foldl (fun x b => x.receive b true) l =
      LinkPort.complete
        { kind := kind, payload := payload,
          good := decide (check = crc (byteOf (payload.length + 1) :: kind :: payload)) }
        { l with assembler := .hunt, byteSilence := 0 } := by
  have hstart : l.receive 0xB5 true = { l with assembler := .length, byteSilence := 0 } :=
    LinkPort.receive_of_incomplete (by rw [LinkPort.atStartBit_of_hunt hhunt]; rfl)
  have hcount : (byteOf (payload.length + 1)).toNat = payload.length + 1 := byteOf_toNat_of_lt (by omega)
  have hbody : ({ l with assembler := .length, byteSilence := 0 } : LinkPort).receive (byteOf (payload.length + 1)) true =
      { l with assembler := .body (payload.length + 1) [], byteSilence := 0 } := by
    refine LinkPort.receive_of_incomplete ?_
    rw [LinkPort.atStartBit_of_fresh rfl]
    exact (if_pos (by rw [hcount]; omega)).trans (by rw [hcount])
  have hgathered := LinkPort.receive_bodyBytes (rest := kind :: payload)
    (l := { l with assembler := .body (payload.length + 1) [], byteSilence := 0 }) rfl rfl (List.cons_ne_nil _ _) (by simp)
  rw [List.cons_append, List.cons_append, List.foldl_cons, hstart, List.foldl_cons, hbody, List.foldl_append, hgathered]
  rfl

/-- Settles O51: the bytes of a frame, its request, and the bytes and the silence that discard one. -/
theorem framesAssembleToRequests : Obligations.FramesAssembleToRequests := by
  unfold Obligations.FramesAssembleToRequests
  refine ⟨fun b good s => rfl, fun kind check payload l hlength hhunt => ?_, fun i kind payload => requestOf_requestFrame,
    fun b l => rfl, fun b l => LinkPort.receive_badLength, fun b n gathered l h =>
      ⟨fun hfresh => by rw [LinkPort.receive_body h hfresh], LinkPort.receive_late⟩, fun s hpartial hsilence => ?_⟩
  · intro good m
    have hm : m = _ := LinkPort.receive_frame (kind := kind) (check := check) hlength hhunt
    obtain ⟨hassembler, hbyteSilence, hslot, htx, hanswer, hsilence, hexpired, hinbound, hoverrun⟩ :=
      LinkPort.complete_does { kind := kind, payload := payload, good := good } { l with assembler := .hunt, byteSilence := 0 }
    rw [← hm] at hassembler hbyteSilence hslot htx hanswer hsilence hexpired hinbound hoverrun
    refine ⟨hassembler, hslot, htx, hanswer, hbyteSilence, hsilence, hexpired, fun hroom => ?_, fun hfull => ?_⟩
    · exact ⟨hinbound.trans (if_pos hroom), hoverrun.trans (if_pos hroom)⟩
    · exact ⟨hinbound.trans (if_neg (Nat.not_lt.mpr hfull)), hoverrun.trans (if_neg (Nat.not_lt.mpr hfull))⟩
  · refine if_pos ?_
    simp only [LinkPort.byteSilenceDue, Bool.and_eq_true, decide_eq_true_eq]
    exact ⟨hpartial, hsilence⟩

end Sys2Proof.Machine

end

section
/-! LINK_LOST (R177, R179, R203): what its report does to a pocket that is RUNNING, HELD or PAUSED, and the entries into those
states while the silence timer stands expired. -/

namespace Sys2Proof.Machine

section Report

variable {env : Env} {v : PocketView} {c : Checkpoint}

/-! ## The report of LINK_LOST (R176, R177, R179) -/

/-- LINK_LOST latched before changes nothing but heat without permission, but for a PAUSED pocket (R176). -/
theorem PocketView.report_linkLost_of_latched (h : v.unit.faults.linkLost = true) (hrun : v.unit.seq.run ≠ .paused)
    (env : Env) : v.report env .linkLost = v.onUnit PocketUnit.checkHeat := by
  rcases v.report_cases env .linkLost with ⟨hnot, -⟩ | ⟨-, -, hpaused, -⟩ | ⟨-, -, hrep⟩
  · exact Bool.noConfusion (h.symm.trans hnot)
  · exact absurd hpaused hrun
  · exact hrep

/-- LINK_LOST newly reported orders a RUNNING or HELD pocket to SAFE (R49, R177). -/
theorem PocketView.report_linkLost_entersSafe (h : v.unit.faults.linkLost = false)
    (hrun : v.unit.seq.run = .running ∨ v.unit.seq.run = .held) (env : Env) :
    v.report env .linkLost =
      PocketView.enterSafe env ((v.onUnit (PocketUnit.latch .linkLost)).onUnit (PocketUnit.closePhase .faulted)) := by
  rw [PocketView.report_of_new (f := .linkLost) h, ← PocketView.enterSafe_checkHeat]
  rcases hrun with hrun | hrun <;> simp [PocketView.respond, PocketView.orderSafe, hrun]

/-- LINK_LOST reported to a PAUSED pocket turns it to SAFE and marks it unattended, latched before or not (R176, R179). -/
theorem PocketView.report_linkLost_of_paused (hrun : v.unit.seq.run = .paused) (env : Env) :
    v.report env .linkLost =
      ((v.onUnit (PocketUnit.latch .linkLost)).abandonedByHost env).onUnit PocketUnit.checkHeat := by
  rcases v.report_cases env .linkLost with ⟨-, hrep⟩ | ⟨hlatched, -, -, hrep⟩ | ⟨-, hnot, -⟩
  · rw [hrep]
    simp [PocketView.respond, hrun]
  · have hsame : v.onUnit (PocketUnit.latch .linkLost) = v := by
      simp only [PocketView.onUnit, PocketUnit.latch, hlatched, if_true]
    rw [hrep, hsame]
  · exact absurd ⟨rfl, hrun⟩ hnot

/-- Entry into SAFE latches nothing but CHAIN. -/
theorem PocketView.enterSafe_linkLost (env : Env) (v : PocketView) :
    (v.enterSafe env).unit.faults.linkLost = v.unit.faults.linkLost := by
  rcases v.anchor_cases env with ⟨a, r, ha, hr⟩ | hfails
  · obtain ⟨-, -, -, -, hfaults, -⟩ := PocketView.enterSafe_passes ha hr
    rw [hfaults]
  · rw [(PocketView.enterSafe_halts hfails).faults]
    rfl

/-- Entry into SAFE ends with heat off (R158). -/
theorem PocketView.enterSafe_isOff (env : Env) (v : PocketView) : (v.enterSafe env).unit.heat.IsOff := by
  rcases v.enterSafe_cases env with ⟨-, -, -, -, -, -, -, -, hheat⟩ | ⟨-, -, -, hheat⟩ <;> exact hheat

/-- What LINK_LOST newly reported leaves of a RUNNING or HELD pocket (R49, R177). -/
theorem PocketView.report_linkLost_orders (h : v.unit.faults.linkLost = false)
    (hrun : v.unit.seq.run = .running ∨ v.unit.seq.run = .held) (env : Env) :
    let w := v.report env .linkLost
    (w.unit.seq.run = .safe ∨ w.unit.seq.run = .halted) ∧ w.unit.heat.IsOff ∧ w.unit.notices.faultLatched = true ∧
      w.unit.faults.linkLost = true := by
  dsimp only
  rw [PocketView.report_linkLost_entersSafe h hrun]
  refine ⟨PocketView.enterSafe_run .., PocketView.enterSafe_isOff .., ?_, ?_⟩
  · refine (PocketUnit.KeepsReports.enterSafe (v := PocketView.onUnit _ _)
      ((PocketUnit.KeepsReports.refl _).closePhase .faulted) env).notices .faultLatched ?_
    exact PocketUnit.latch_raises h
  · rw [PocketView.enterSafe_linkLost]
    simp [PocketUnit.latch_faults, FaultSet.put]

/-- The phase that LINK_LOST closes (R33, R49). -/
theorem PocketView.report_linkLost_closes (h : v.unit.faults.linkLost = false)
    (hrun : v.unit.seq.run = .running ∨ v.unit.seq.run = .held) (hc : v.unit.seq.newest = some c)
    (hopen : c.outcome = none ∨ v.unit.seq.run = .held) (env : Env) :
    (v.report env .linkLost).unit.notices.phaseEnd = true ∧
      { c with outcome := some .faulted } ∈ (v.report env .linkLost).unit.seq.history := by
  rw [PocketView.report_linkLost_entersSafe h hrun]
  obtain ⟨hend, hmem, -⟩ := PocketView.enterSafe_closed (v := v.onUnit (PocketUnit.latch .linkLost)) (c := c)
    (by simpa using hc) (by simpa using Sequencer.closable_of_newest hc (hopen.imp_right .inl)) .faulted env
  exact ⟨hend, hmem⟩

/-- What LINK_LOST leaves of a PAUSED pocket (R49, R179). -/
theorem PocketView.report_linkLost_unattended (hrun : v.unit.seq.run = .paused) (env : Env) :
    let w := v.report env .linkLost
    w.pool = v.pool ∧ w.unit.seq.run = .paused ∧ w.unit.seq.resumeTarget = .safe ∧ w.unit.seq.unattended = true ∧
      w.unit.seq.doorClosedFor = 0 ∧ w.unit.faults = v.unit.faults.put .linkLost true ∧ w.unit.heat.IsOff ∧
      w.unit.drum = v.unit.drum ∧ w.unit.pins = v.unit.pins := by
  dsimp only
  rw [PocketView.report_linkLost_of_paused hrun]
  have hpaused : (v.onUnit (PocketUnit.latch .linkLost)).unit.seq.run = .paused := by simpa using hrun
  cases htarget : v.unit.seq.resumeTarget <;>
    simp [PocketView.abandonedByHost, PocketView.orderSafe, hrun, htarget, PocketUnit.markUnattended,
      PocketUnit.retargetSafe, PocketUnit.latch_faults] <;>
    exact PocketUnit.checkHeat_isOff (PocketUnit.hasPermission_of_not_running (by simp))

/-- The phase of a PAUSED pocket with resume target RUNNING that LINK_LOST closes (R33, R49). -/
theorem PocketView.report_linkLost_closes_paused (hrun : v.unit.seq.run = .paused)
    (htarget : v.unit.seq.resumeTarget = .running) (hc : v.unit.seq.newest = some c) (hopen : c.outcome = none)
    (env : Env) :
    let w := v.report env .linkLost
    w.unit.seq.held = false ∧ w.unit.seq.restored = false ∧ w.unit.seq.newest = some { c with outcome := some .faulted } ∧
      w.unit.notices.phaseEnd = true := by
  obtain ⟨hnewest, hend⟩ := PocketUnit.closePhase_closes (u := v.unit.latch .linkLost) (by simpa using hc)
    (by simpa using Sequencer.closable_of_newest hc (.inl hopen)) .faulted
  dsimp only
  rw [PocketView.report_linkLost_of_paused hrun]
  simp only [PocketView.abandonedByHost, PocketView.orderSafe, PocketView.onUnit_unit, PocketUnit.latch_seq, hrun, htarget,
    PocketUnit.checkHeat_seq, PocketUnit.checkHeat_notices]
  exact ⟨rfl, rfl, hnewest, hend⟩

/-- A report to a pocket that is RUNNING, HELD or PAUSED latches LINK_LOST (R176, R203). -/
theorem PocketView.report_linkLost_latches (hwatched : v.unit.seq.run.linkWatched = true) (env : Env) :
    (v.report env .linkLost).unit.faults.linkLost = true := by
  by_cases hpaused : v.unit.seq.run = .paused
  · obtain ⟨-, -, -, -, -, hfaults, -⟩ := PocketView.report_linkLost_unattended hpaused env
    rw [hfaults]
    rfl
  have hrun : v.unit.seq.run = .running ∨ v.unit.seq.run = .held := by
    cases h : v.unit.seq.run <;> simp [h, RunState.linkWatched] at hwatched hpaused ⊢
  cases hlatched : v.unit.faults.linkLost
  · obtain ⟨-, -, -, hlost⟩ := PocketView.report_linkLost_orders hlatched hrun env
    exact hlost
  · rw [PocketView.report_linkLost_of_latched hlatched hpaused]
    simpa using hlatched

end Report

/-! ## Entries while the silence timer stands expired (R203) -/

section Unheard

variable {env : Env} {v : PocketView} {st : RunState} {i : SlotNo} {r : PhaseRecord} {c : Checkpoint}

/-- The same surroundings with the silence timer not expired. -/
def Env.heard (env : Env) : Env := { env with silenceExpired := false }

/-- An entry into RUNNING, HELD or PAUSED while the silence timer stands expired is the quiet entry, then the report. -/
theorem PocketView.become_unheard (hexpired : env.silenceExpired = true) (hne : v.unit.seq.run ≠ st)
    (hwatched : st.linkWatched = true) : v.become env st = (v.become env.heard st).report env .linkLost := by
  rw [PocketView.become_quiet (env := env.heard) rfl]
  exact if_pos ⟨hexpired, by simpa using hne.symm, by simpa using hwatched⟩

theorem PocketView.enterPaused_unheard (hexpired : env.silenceExpired = true) (hrun : v.unit.seq.run ≠ .paused) :
    v.enterPaused env = (v.enterPaused env.heard).report env .linkLost :=
  PocketView.become_unheard (v := v.onUnit _) hexpired hrun rfl

theorem PocketView.enterHeld_unheard (hexpired : env.silenceExpired = true) (hrun : v.unit.seq.run ≠ .held) :
    v.enterHeld env = (v.enterHeld env.heard).report env .linkLost := by
  refine PocketView.become_unheard hexpired ?_ rfl
  simpa [PocketUnit.alignWindow, (v.unit.holdDrum_step env.reserveCycles).1.seq] using hrun

theorem PocketView.continueIn_unheard (hexpired : env.silenceExpired = true) (hrun : v.unit.seq.run ≠ st)
    (hwatched : st.linkWatched = true) : v.continueIn env st = (v.continueIn env.heard st).report env .linkLost := by
  refine PocketView.become_unheard hexpired ?_ hwatched
  rw [PocketView.onUnit_unit, PocketUnit.alignWindow, (PocketUnit.resumeEntry_keeps ..).1]
  exact hrun

theorem PocketView.retry_unheard (hexpired : env.silenceExpired = true) (hrun : v.unit.seq.run ≠ .running)
    (hc : v.unit.seq.newest = some c) (hr : v.pool[c.slot].record? = some r) :
    v.retry env = (v.retry env.heard).report env .linkLost := by
  simp only [PocketView.retry, hc, hr]
  refine PocketView.become_unheard hexpired ?_ rfl
  rw [PocketView.onUnit_unit, PocketUnit.alignWindow, (PocketUnit.handRunning_keeps ..).1, (v.unit.restore_does c r).1]
  exact hrun

theorem PocketView.startChain_unheard (hexpired : env.silenceExpired = true) (hrun : v.unit.seq.run ≠ .running) :
    v.startChain env i r = (v.startChain env.heard i r).report env .linkLost := by
  refine PocketView.become_unheard hexpired ?_ rfl
  obtain ⟨-, -, hseq, -⟩ := PocketView.enterSlot_does env i r ((v.release env.pocket).onUnit PocketUnit.freshRun)
  rw [PocketView.onUnit_unit, PocketUnit.freshMarks, hseq]
  simpa [PocketUnit.freshRun] using hrun

/-- An advance from outside the safe chain whose activation passes (R35). -/
theorem PocketView.advance_becomes (hnext : v.unit.seq.work.next = some i) (hrun : v.unit.seq.run ≠ .safe)
    (hcheck : (v.vacate env i).check i = .ok r) :
    v.advance env = ((v.leaving env i).enterSlot env i r).become env .running := by
  have hn : (v.onUnit PocketUnit.clearQuals).unit.seq.work.next = some i := hnext
  rw [← v.leaving_check] at hcheck
  simp only [PocketView.advance, hn, PocketView.activate_of_check hcheck]
  exact if_neg hrun

theorem PocketView.advance_unheard (hexpired : env.silenceExpired = true) (hnext : v.unit.seq.work.next = some i)
    (hsafe : v.unit.seq.run ≠ .safe) (hrun : v.unit.seq.run ≠ .running) (hcheck : (v.vacate env i).check i = .ok r) :
    v.advance env = (v.advance env.heard).report env .linkLost := by
  rw [PocketView.advance_becomes hnext hsafe hcheck, PocketView.advance_becomes (env := env.heard) hnext hsafe hcheck]
  refine PocketView.become_unheard hexpired ?_ rfl
  obtain ⟨-, -, hseq, -⟩ := PocketView.enterSlot_does env i r (v.leaving env i)
  rw [hseq, PocketView.leaving_unit]
  exact hrun

theorem PocketView.backstep_unheard {k : Nat} (hexpired : env.silenceExpired = true) (hrun : v.unit.seq.run ≠ .paused) :
    v.backstep env k c r = (v.backstep env.heard k c r).report env .linkLost := by
  refine PocketView.become_unheard hexpired ?_ rfl
  dsimp only [PocketView.onUnit_unit]
  rw [(PocketUnit.restore_does ..).1]
  unfold PocketView.moveTo
  split
  · exact hrun
  · simpa [PocketUnit.abandonWindow] using hrun

end Unheard

end Sys2Proof.Machine

end

section
/-! The statements' predicates on an entry that is reported (R203): `State.FaultedIntoSafe`, `State.HeldUnheard` and
`State.RunningUnheard`. -/

namespace Sys2Proof.Machine

/-! ## What an entry into SAFE sees of a pocket that has gone on -/

/-- Two views alike in what an entry into SAFE reads, and in what it leaves of the drum. -/
structure PocketView.StandsAs (v w : PocketView) : Prop where
  pool   : w.pool = v.pool
  raced  : w.raced = v.raced
  active : w.unit.seq.work.active = v.unit.seq.work.active
  anchor : w.unit.seq.anchor = v.unit.seq.anchor
  table  : w.unit.drum.table = v.unit.drum.table
  twist  : w.unit.drum.twist = v.unit.drum.twist
  dir    : w.unit.drum.dir = v.unit.drum.dir

section StandsAs

variable {env : Env} {v w : PocketView} {s s' t : State} {p : Pocket} {f : FaultSet}

/-- The check reads of the drum the motion table alone (R14). -/
theorem PocketView.check_congr_table (hpool : w.pool = v.pool) (htable : w.unit.drum.table = v.unit.drum.table)
    (i : SlotNo) : w.check i = v.check i := by
  have husable (r : PhaseRecord) : segmentUsable r w.unit.drum = segmentUsable r v.unit.drum := by
    simp only [segmentUsable, Drum.segmentWritten, htable]
  simp only [PocketView.check, hpool, husable]

theorem PocketView.StandsAs.vacate_check (h : v.StandsAs w) (env : Env) (i j : SlotNo) :
    (w.vacate env i).check j = (v.vacate env i).check j := by
  have halike : v.ChecksAs (w.onUnit fun u => { u with drum := v.unit.drum }) := ⟨h.pool, h.raced, h.active, rfl⟩
  rw [← halike.vacate_check env i j]
  refine PocketView.check_congr_table ?_ ?_ j
  · unfold PocketView.vacate PocketView.release
    cases env.racing with
    | none => cases hactive : w.unit.seq.work.active <;> simp only [PocketView.onUnit, hactive]
    | some x =>
      cases hactive : w.unit.seq.work.active <;> simp only [PocketView.onUnit, hactive] <;> split <;> rfl
  · simp [h.table]

/-- The predicate on an entry into SAFE reads of the first state no more than that. -/
theorem State.EnteredSafe.of_standsAs (hv : (s.view p).StandsAs (s'.view p)) (h : s'.EnteredSafe t p env f) :
    s.EnteredSafe t p env f := by
  have hanchor : (s'.unit p).seq.anchor = (s.unit p).seq.anchor := hv.anchor
  have htwist : (s'.unit p).drum.twist = (s.unit p).drum.twist := hv.twist
  have htable : (s'.unit p).drum.table = (s.unit p).drum.table := hv.table
  have hdir : (s'.unit p).drum.dir = (s.unit p).drum.dir := hv.dir
  simpa only [State.EnteredSafe, Drum.StoppedFrom, hv.vacate_check, hanchor, htwist, htable, hdir] using h

/-- An entry into SAFE from a view alike. -/
theorem State.enteredSafe_of_standsAs (henv : env.pocket = p) (hv : (s.view p).StandsAs v)
    (hpool : t.pool = (v.enterSafe env).pool) (hunit : t.unit p = (v.enterSafe env).unit) :
    s.EnteredSafe t p env v.unit.faults := by
  have hview : (s.setView p v).view p = v := by
    obtain ⟨pool, unit, raced⟩ := v
    obtain rfl : raced = false := hv.raced
    cases p <;> rfl
  refine State.EnteredSafe.of_standsAs (s' := s.setView p v) (by rwa [hview]) ?_
  exact State.enteredSafe_of_enterSafe (v := v) henv (by rw [hview]; exact ⟨rfl, rfl, rfl, rfl⟩)
    (congrArg (fun x => x.unit.seq.anchor) hview.symm) hpool hunit

/-! ## The reports at an entry -/

variable {c k : Checkpoint} {i : SlotNo}

/-- LINK_LOST newly reported at an entry into RUNNING or HELD, in the terms of the statements. -/
theorem State.faultedIntoSafe_of_linkLost (henv : env.pocket = p) (hv : (s.view p).StandsAs v)
    (hfaults : v.unit.faults = (s.unit p).faults) (hnew : (s.unit p).faults.linkLost = false)
    (hrun : v.unit.seq.run = .running ∨ v.unit.seq.run = .held) (hk : v.unit.seq.newest = some k)
    (hopen : k.outcome = none ∨ v.unit.seq.run = .held)
    (hck : ({ k with outcome := some .faulted } : Checkpoint) = { c with outcome := some .faulted })
    (hpool : t.pool = (v.report env .linkLost).pool) (hunit : t.unit p = (v.report env .linkLost).unit) :
    s.FaultedIntoSafe t p env c ((s.unit p).faults.put .linkLost true) := by
  have hlost : v.unit.faults.linkLost = false := by rw [hfaults, hnew]
  obtain ⟨-, -, hlatched, -⟩ := PocketView.report_linkLost_orders hlost hrun env
  rw [← hunit] at hlatched
  rw [PocketView.report_linkLost_entersSafe hlost hrun] at hpool hunit
  let x := (v.onUnit (PocketUnit.latch .linkLost)).onUnit (PocketUnit.closePhase .faulted)
  have hx : (s.view p).StandsAs x := by
    refine ⟨hv.pool, hv.raced, ?_, ?_, ?_, ?_, ?_⟩ <;> simp [x, hv.active, hv.anchor, hv.table, hv.twist, hv.dir]
  have hfaults : x.unit.faults = (s.unit p).faults.put .linkLost true := by
    rw [← hfaults]
    simp [x, PocketUnit.latch_faults]
  obtain ⟨hend, hmem, hnewest⟩ := PocketView.enterSafe_closed (v := v.onUnit (PocketUnit.latch .linkLost)) (c := k)
    (by simpa using hk) (by simpa using Sequencer.closable_of_newest hk (hopen.imp_right .inl)) .faulted env
  rw [← hunit] at hend hnewest
  rw [← hunit, hck] at hmem
  rw [hck] at hnewest
  exact ⟨hfaults ▸ State.enteredSafe_of_standsAs henv hx hpool hunit, hmem, hend, hlatched, hnewest⟩

/-- LINK_LOST reported at an entry into RUNNING. -/
theorem State.runningUnheard_of_report (hfaults : v.unit.faults = (s.unit p).faults) (hrun : v.unit.seq.run = .running)
    (hactive : v.unit.seq.work.active = some i) (hk : v.unit.seq.newest = some k) (hslot : k.slot = i)
    (hopen : k.outcome = none) (hunit : t.unit p = (v.report env .linkLost).unit) : s.RunningUnheard t p i := by
  unfold State.RunningUnheard
  rw [hunit, ← hfaults]
  refine ⟨PocketView.report_linkLost_latches (by rw [hrun]; rfl) env, fun hnew => ?_, fun hlatched => ?_⟩
  · obtain ⟨hsafe, hheat, hraised, -⟩ := PocketView.report_linkLost_orders hnew (.inl hrun) env
    obtain ⟨hend, hmem⟩ := PocketView.report_linkLost_closes hnew (.inl hrun) hk (.inl hopen) env
    exact ⟨hsafe, hheat, hraised, hend, _, hmem, hslot, rfl⟩
  · rw [PocketView.report_linkLost_of_latched hlatched (by simp [hrun])]
    simp [hrun, hactive]

/-! ## The end of a phase that is held (R34) -/

/-- What an entry into HELD keeps of the drum, the silence timer not expired. -/
theorem PocketView.enterHeld_keeps_drum (hquiet : env.silenceExpired = false) (v : PocketView) :
    (v.enterHeld env).unit.drum.table = v.unit.drum.table ∧ (v.enterHeld env).unit.drum.twist = v.unit.drum.twist ∧
      (v.enterHeld env).unit.drum.dir = v.unit.drum.dir := by
  obtain ⟨hstep, hdir⟩ := v.unit.holdDrum_step env.reserveCycles
  rw [PocketView.enterHeld, PocketView.become_quiet hquiet]
  simp [PocketUnit.alignWindow, hstep.table, hstep.twist]

/-- A phase that ends under HOLD_AT_END while the silence timer stands expired. -/
theorem State.heldUnheard_of_endPhase {o : PhaseOutcome} (hc : (s.unit p).seq.newest = some c) (hopen : c.outcome = none)
    (hrun : (s.unit p).seq.run = .running) (hhold : (s.unit p).seq.work.quals.holdAtEnd = true) (ho : o.holds = true)
    (hexpired : s.link.silenceExpired = true) :
    s.HeldUnheard (s.onEvent p fun env => PocketView.endPhase env o) p c := by
  let env := s.eventEnv p
  let closed := (s.view p).onUnit (PocketUnit.closePhase o)
  let v := closed.enterHeld env.heard
  have hclosedRun : closed.unit.seq.run ≠ .held := by simp [closed, hrun]
  have hended : (s.view p).endPhase env o = v.report env .linkLost := by
    rw [PocketView.endPhase_holds hrun hhold ho, PocketView.enterHeld_unheard hexpired hclosedRun]
  obtain ⟨hpool, hseq, hnotice⟩ := PocketView.enterHeld_quiet (env := env.heard) rfl closed
  obtain ⟨-, -, hheat, -, hfaults⟩ := PocketView.enterHeld_does (env := env.heard) rfl closed
  obtain ⟨htable, htwist, hdir⟩ := PocketView.enterHeld_keeps_drum (env := env.heard) rfl closed
  obtain ⟨hnewest, hend⟩ := PocketUnit.closePhase_closes hc (Sequencer.closable_of_newest hc (.inl hopen)) o
  have hkeeps := PocketUnit.KeepsReports.reportLinkLost (.refl v.unit) env
  have hend := ((PocketUnit.KeepsReports.enterHeld (v := closed) (.refl _) env.heard).notices .phaseEnd hend)
  have hvRun : v.unit.seq.run = .held := congrArg Sequencer.run hseq
  have hvFaults : v.unit.faults = (s.unit p).faults := hfaults.trans (by simp [closed])
  have hv : (s.view p).StandsAs v := by
    refine ⟨hpool, ?_, ?_, ?_, htable.trans (by simp [closed]), htwist.trans (by simp [closed]),
      hdir.trans (by simp [closed])⟩
    · change (closed.enterHeld env.heard).raced = false
      rw [PocketView.enterHeld, PocketView.become_quiet rfl]
      rfl
    · change (closed.enterHeld env.heard).unit.seq.work.active = _
      rw [hseq]
      simp [closed]
    · change (closed.enterHeld env.heard).unit.seq.anchor = _
      rw [hseq]
      simp [closed]
  unfold State.HeldUnheard
  rw [State.onEvent_unit, show (s.view p).endPhase (s.eventEnv p) o = _ from hended]
  refine ⟨hkeeps.notices .phaseEnd hend, hkeeps.notices .held hnotice,
    PocketView.report_linkLost_latches (by rw [hvRun]; rfl) env, ?_, fun hnew => ?_, fun hlatched => ?_⟩
  · rcases hlost : v.unit.faults.linkLost with _ | _
    · obtain ⟨-, hoff, -⟩ := PocketView.report_linkLost_orders hlost (.inr hvRun) env
      exact hoff
    · rw [PocketView.report_linkLost_of_latched hlost (by simp [hvRun])]
      exact PocketUnit.checkHeat_keeps_isOff hheat
  · exact State.faultedIntoSafe_of_linkLost (k := { c with outcome := some o }) rfl hv hvFaults hnew (.inr hvRun)
      ((congrArg Sequencer.newest hseq).trans hnewest) (.inr hvRun) rfl
      ((State.onEvent_pool ..).trans (congrArg PocketView.pool hended))
      ((State.onEvent_unit ..).trans (congrArg PocketView.unit hended))
  · rw [PocketView.report_linkLost_of_latched (by rw [hvFaults]; exact hlatched) (by simp [hvRun])]
    exact ⟨(congrArg Sequencer.run (PocketUnit.checkHeat_seq _)).trans hvRun, (PocketUnit.checkHeat_faults _).trans hvFaults⟩

/-- The predicate reads of the first state the pocket's faults, what an entry into SAFE sees, and the surroundings. -/
theorem State.HeldUnheard.of_standsAs (hv : (s.view p).StandsAs (s'.view p))
    (hfaults : (s'.unit p).faults = (s.unit p).faults) (henv : s'.eventEnv p = s.eventEnv p) (h : s'.HeldUnheard t p c) :
    s.HeldUnheard t p c := by
  obtain ⟨hend, hheld, hlost, hheat, hnew, hlatched⟩ := h
  rw [hfaults, henv] at hnew
  rw [hfaults] at hlatched
  refine ⟨hend, hheld, hlost, hheat, fun h => ?_, hlatched⟩
  obtain ⟨hsafe, hrest⟩ := hnew h
  exact ⟨hsafe.of_standsAs hv, hrest⟩

end StandsAs

end Sys2Proof.Machine

end

section
/-! The silence timer (11.6): its expiry, and each entry that is reported while it stands expired. -/

namespace Sys2Proof.Machine

/-! ## The expiry (R203) -/

section Expiry

variable {s : State} {p q : Pocket}

theorem State.reportSilence_unit (s : State) (p : Pocket) :
    (s.reportSilence p).unit p =
      if (s.unit p).seq.run.linkWatched then ((s.view p).report (s.eventEnv p) .linkLost).unit else s.unit p := by
  unfold State.reportSilence
  split
  · rw [State.reportTo, State.onEvent_unit]
  · rfl

theorem State.reportSilence_actsOn (s : State) (p : Pocket) : s.ActsOn (s.reportSilence p) p := by
  unfold State.reportSilence
  split
  · exact s.onEvent_actsOn p _
  · exact ⟨⟨rfl, rfl, rfl, rfl, rfl, rfl, rfl⟩, rfl⟩

/-- The timer marked expired, before the reports. -/
def State.silenced (s : State) : State := ({ s with link := { s.link with silenceExpired := true } } : State).spendFree

theorem State.silenced_unit (s : State) (p : Pocket) : s.silenced.unit p = s.unit p := by cases p <;> rfl

/-- The expiry reports to one pocket, then to the other; which is first is free (entry 7). -/
theorem State.expireSilence_eq (s : State) :
    ∃ q : Pocket, s.expireSilence = State.reportSilence q (State.reportSilence (otherPocket q) s.silenced) := by
  unfold State.expireSilence
  dsimp only
  split
  · exact ⟨.lower, rfl⟩
  · exact ⟨.upper, rfl⟩

/-- The expiry is a report to each pocket that is RUNNING, HELD or PAUSED, which finds the pocket as it was. -/
theorem State.expireSilence_unit (s : State) (p : Pocket) :
    ∃ (env : Env) (v : PocketView), v.unit = s.unit p ∧ s.expireSilence.unit p =
      if (s.unit p).seq.run.linkWatched then (v.report env .linkLost).unit else s.unit p := by
  obtain ⟨q, hq⟩ := s.expireSilence_eq
  let x := State.reportSilence (otherPocket q) s.silenced
  obtain ⟨⟨hother, -⟩, -⟩ := x.reportSilence_actsOn q
  obtain ⟨⟨hfirst, -⟩, -⟩ := s.silenced.reportSilence_actsOn (otherPocket q)
  obtain rfl | rfl := eq_or_eq_otherPocket q p
  · have hx : x.unit p = s.unit p := by
      have hback : otherPocket (otherPocket p) = p := by cases p <;> rfl
      rw [hback] at hfirst
      exact hfirst.trans (s.silenced_unit p)
    refine ⟨x.eventEnv p, x.view p, hx, ?_⟩
    rw [hq, State.reportSilence_unit, hx]
  · have hx : s.silenced.unit (otherPocket q) = s.unit (otherPocket q) := s.silenced_unit _
    refine ⟨s.silenced.eventEnv (otherPocket q), s.silenced.view (otherPocket q), hx, ?_⟩
    rw [hq, hother, State.reportSilence_unit, hx]

theorem State.expireSilence_keeps (s : State) :
    s.expireSilence.link = { s.link with silenceExpired := true } ∧ s.expireSilence.temps = s.temps ∧
      s.expireSilence.supply = s.supply ∧ s.expireSilence.device = s.device ∧ s.expireSilence.trend = s.trend ∧
      s.expireSilence.prescale = s.prescale ∧ s.expireSilence.pending = s.pending := by
  obtain ⟨q, hq⟩ := s.expireSilence_eq
  obtain ⟨⟨-, htemps, hsupply, hdevice, htrend, hprescale, hpending⟩, hlink⟩ :=
    s.silenced.reportSilence_actsOn (otherPocket q)
  obtain ⟨⟨-, htemps', hsupply', hdevice', htrend', hprescale', hpending'⟩, hlink'⟩ :=
    (State.reportSilence (otherPocket q) s.silenced).reportSilence_actsOn q
  rw [hq]
  exact ⟨hlink'.trans hlink, htemps'.trans htemps, hsupply'.trans hsupply, hdevice'.trans hdevice, htrend'.trans htrend,
    hprescale'.trans hprescale, hpending'.trans hpending⟩

/-- The expiry, pocket by pocket (R177, R179, R203). -/
theorem State.expireSilence_does (s : State) (p : Pocket) :
    let t := s.expireSilence
    ((s.unit p).seq.run.linkWatched = false → t.unit p = s.unit p) ∧
      ((s.unit p).seq.run.linkWatched = true → (t.unit p).faults.linkLost = true) ∧
      ((s.unit p).seq.run = .paused → (t.unit p).seq.run = .paused ∧ (t.unit p).seq.resumeTarget = .safe ∧
        (t.unit p).seq.unattended = true ∧ (t.unit p).seq.doorClosedFor = 0) ∧
      ((s.unit p).seq.run = .running ∨ (s.unit p).seq.run = .held → (s.unit p).faults.linkLost = false →
        ((t.unit p).seq.run = .safe ∨ (t.unit p).seq.run = .halted) ∧ (t.unit p).heat.IsOff ∧
        (t.unit p).notices.faultLatched = true) := by
  obtain ⟨env, v, hv, hunit⟩ := s.expireSilence_unit p
  dsimp only
  rw [← hv] at hunit ⊢
  refine ⟨fun h => ?_, fun h => ?_, fun h => ?_, fun h hnew => ?_⟩
  · rw [hunit, if_neg (by simp [h])]
  · rw [hunit, if_pos h]
    exact PocketView.report_linkLost_latches h env
  · rw [hunit, if_pos (by rw [h]; rfl)]
    obtain ⟨-, hrun, htarget, hmark, hcount, -⟩ := PocketView.report_linkLost_unattended h env
    exact ⟨hrun, htarget, hmark, hcount⟩
  · rw [hunit, if_pos (by rcases h with h | h <;> rw [h] <;> rfl)]
    obtain ⟨hrun, hheat, hraised, -⟩ := PocketView.report_linkLost_orders hnew h env
    exact ⟨hrun, hheat, hraised⟩

theorem exec_silenceTimerExpiry_due (hexpired : s.link.silenceExpired = false)
    (hsilence : s.supply.config.silence * 1000000 ≤ s.link.silence) :
    exec .silenceTimerExpiry s = .next s.expireSilence :=
  if_pos ((State.silenceDue_iff s).mpr ⟨hexpired, hsilence⟩)

theorem exec_silenceTimerExpiry_notDue
    (h : s.link.silenceExpired = true ∨ s.link.silence < s.supply.config.silence * 1000000) :
    exec .silenceTimerExpiry s = .next s := by
  refine if_neg fun hdue => ?_
  obtain ⟨hexpired, hsilence⟩ := (State.silenceDue_iff s).mp hdue
  rcases h with h | h
  · exact Bool.noConfusion (h.symm.trans hexpired)
  · omega

end Expiry

/-! ## Entries into PAUSED (R38, R39, R63) -/

section Entries

variable {s t : State} {p : Pocket} {b : Byte} {env : Env} {v : PocketView} {c : Checkpoint} {i : SlotNo} {r : PhaseRecord}

theorem FaultSet.put_linkLost_of_latched {fs : FaultSet} (h : fs.linkLost = true) : fs.put .linkLost true = fs := by
  cases fs
  simp_all [FaultSet.put]

/-- An entry into PAUSED that is reported. -/
theorem PocketView.enterPaused_reported (hexpired : env.silenceExpired = true) (hrun : v.unit.seq.run.drives = true) :
    let w := v.enterPaused env
    w.unit.seq.run = .paused ∧ w.unit.seq.resumeTarget = .safe ∧ w.unit.seq.unattended = true ∧
      w.unit.seq.doorClosedFor = 0 ∧ w.unit.faults = v.unit.faults.put .linkLost true ∧ w.unit.heat.IsOff ∧
      v.unit.drum.StoppedFrom w.unit.drum ∧ w.unit.pins = v.unit.pins := by
  have hne : v.unit.seq.run ≠ .paused := fun h => by simp [h, RunState.drives] at hrun
  obtain ⟨-, hquiet, hpins⟩ := PocketView.enterPaused_quiet (env := env.heard) hrun rfl
  obtain ⟨hpaused, -, -, -, -, -, -, -, -, -, -, -, -, hstopped, -, -, -, hfaults, -⟩ := hquiet
  obtain ⟨-, hrun', htarget, hmark, hcount, hlost, hheat, hdrum, hpins'⟩ :=
    PocketView.report_linkLost_unattended hpaused env
  dsimp only
  rw [PocketView.enterPaused_unheard hexpired hne]
  exact ⟨hrun', htarget, hmark, hcount, by rw [hlost, hfaults], hheat, by rw [hdrum]; exact hstopped, hpins'.trans hpins⟩

/-- What a BACKSTEP leaves of the fault set, the silence timer not expired. -/
theorem PocketView.backstep_faults {k : Nat} (hquiet : env.silenceExpired = false) :
    (v.backstep env k c r).unit.faults = v.unit.faults := by
  have hmove (x : PocketView) : (x.moveTo env.pocket c.slot r).unit.faults = x.unit.faults := by
    unfold PocketView.moveTo
    split <;> simp
  unfold PocketView.backstep
  dsimp only
  rw [PocketView.become_quiet hquiet]
  simp [PocketUnit.restore, PocketUnit.rewind, PocketUnit.abandonWindow, hmove]

/-! ## Entries into RUNNING (R27, R35, R44) -/

/-- The sequencer and the faults after a retry, the silence timer not expired. -/
theorem PocketView.retry_seq (hc : v.unit.seq.newest = some c) (hr : v.pool[c.slot].record? = some r)
    (hquiet : env.silenceExpired = false) :
    (v.retry env).unit.seq =
        { v.unit.seq with
          run := .running, phaseTimer := 0, confirm := 0, history := setOutcome none v.unit.seq.history
          work := workFrom c.slot r v.unit.seq.profile v.unit.moist.valid } ∧
      (v.retry env).unit.faults = v.unit.faults := by
  obtain ⟨hseq, -⟩ := v.unit.restore_does c r
  have hfaults : (v.unit.restore c r).faults = v.unit.faults := by simp [PocketUnit.restore, PocketUnit.rewind]
  simp only [PocketView.retry, hc, hr]
  rw [PocketView.become_quiet hquiet]
  simp only [PocketView.onUnit_unit, PocketUnit.checkHeat_seq, PocketUnit.checkHeat_faults, PocketUnit.alignWindow,
    (PocketUnit.handRunning_keeps ..).1, (PocketUnit.handRunning_keeps ..).2.2.1, hseq, hfaults, and_self]

/-- An advance into RUNNING that is reported. -/
theorem State.runningUnheard_of_advance (hexpired : env.silenceExpired = true) (hnext : v.unit.seq.work.next = some i)
    (hsafe : v.unit.seq.run ≠ .safe) (hrun : v.unit.seq.run ≠ .running) (hcheck : (v.vacate env i).check i = .ok r)
    (hfaults : v.unit.faults = (s.unit p).faults) (hunit : t.unit p = (v.advance env).unit) : s.RunningUnheard t p i := by
  obtain ⟨-, hseq, -, -, -, -, -, hkept⟩ := PocketView.advance_enters_does (env := env.heard) hnext (.inl rfl) hcheck
  rw [PocketView.advance_unheard hexpired hnext hsafe hrun hcheck] at hunit
  have hnewest : (v.advance env.heard).unit.seq.newest = some _ :=
    (congrArg Sequencer.newest hseq).trans (pushHistory_getLast? ..)
  refine State.runningUnheard_of_report (hkept.trans hfaults) ?_ ?_ hnewest rfl rfl hunit
  · rw [hseq, if_neg hsafe]
  · rw [hseq]
    rfl

/-- A retry that is reported. -/
theorem State.runningUnheard_of_retry (hexpired : env.silenceExpired = true) (hrun : v.unit.seq.run ≠ .running)
    (hc : v.unit.seq.newest = some c) (hr : v.pool[c.slot].record? = some r)
    (hfaults : v.unit.faults = (s.unit p).faults) (hunit : t.unit p = (v.retry env).unit) :
    s.RunningUnheard t p c.slot := by
  obtain ⟨hseq, hkept⟩ := PocketView.retry_seq (env := env.heard) hc hr rfl
  rw [PocketView.retry_unheard hexpired hrun hc hr] at hunit
  refine State.runningUnheard_of_report (k := { c with outcome := none }) (hkept.trans hfaults) ?_ ?_ ?_ rfl rfl hunit
  · rw [hseq]
  · rw [hseq]
    rfl
  · rw [hseq]
    exact setOutcome_getLast? hc none

/-! ## The phase continued (R43, R45) -/

theorem PocketView.continueIn_keeps (hquiet : env.silenceExpired = false) (st : RunState) (v : PocketView) :
    (v.continueIn env st).raced = v.raced ∧ (v.continueIn env st).unit.drum.table = v.unit.drum.table := by
  obtain ⟨-, -, -, -, -, htable, -⟩ := PocketUnit.resumeEntry_keeps env.reserveCycles v.unit
  rw [PocketView.continueIn, PocketView.become_quiet hquiet]
  exact ⟨rfl, by simpa [PocketUnit.alignWindow] using htable⟩

/-- A report to a RUNNING or HELD pocket does not mark it unattended. -/
theorem PocketView.report_linkLost_attended (hrun : v.unit.seq.run = .running ∨ v.unit.seq.run = .held)
    (h : v.unit.seq.unattended = false) (env : Env) : (v.report env .linkLost).unit.seq.unattended = false := by
  cases hlatched : v.unit.faults.linkLost
  · rw [PocketView.report_linkLost_entersSafe hlatched hrun]
    exact PocketView.enterSafe_unattended (by simpa using h) env
  · rw [PocketView.report_linkLost_of_latched hlatched (by rcases hrun with h | h <;> simp [h])]
    simpa using h

/-- The sequencer of a resumed pocket, before its entry: the marks of the pause that the resume clears (R41 to R45). -/
def Sequencer.resumed (q : Sequencer) (held restored : Bool) : Sequencer :=
  { q with unattended := false, held := held, restored := restored }

/-- A phase that goes on in RUNNING or HELD, and is reported there. -/
theorem State.continued_unheard {st : RunState} {held restored : Bool} (henv : env.pocket = p)
    (hexpired : env.silenceExpired = true) (hrun : (s.unit p).seq.run = .paused) (hst : st = .running ∨ st = .held)
    (hv : v = (s.view p).onUnit fun u => { u with seq := u.seq.resumed held restored })
    (hc : (s.unit p).seq.newest = some c) (hopen : c.outcome = none ∨ st = .held)
    (hpool : t.pool = (v.continueIn env st).pool) (hunit : t.unit p = (v.continueIn env st).unit) :
    (t.unit p).faults.linkLost = true ∧ (t.unit p).seq.unattended = false ∧
      ((s.unit p).faults.linkLost = false → s.FaultedIntoSafe t p env c ((s.unit p).faults.put .linkLost true)) ∧
      ((s.unit p).faults.linkLost = true →
        (t.unit p).seq.run = st ∧ (t.unit p).faults = (s.unit p).faults ∧ t.pool = s.pool) := by
  let w := v.continueIn env.heard st
  have hpaused : v.unit.seq.run = .paused := by rw [hv]; exact hrun
  have hcontinued : v.continueIn env st = w.report env .linkLost := by
    refine PocketView.continueIn_unheard hexpired ?_ (by rcases hst with rfl | rfl <;> rfl)
    rw [hpaused]
    rcases hst with rfl | rfl <;> decide
  obtain ⟨hwpool, hwseq, -, hwfaults, -, -, hwtwist, hwdir⟩ :=
    PocketView.continueIn_does (env := env.heard) (v := v) (st := st) (.inl rfl)
  obtain ⟨hwraced, hwtable⟩ := PocketView.continueIn_keeps (env := env.heard) rfl st v
  change w.unit.seq = _ at hwseq
  subst hv
  have hwrun : w.unit.seq.run = .running ∨ w.unit.seq.run = .held := by
    rw [hwseq]
    exact hst
  have hwkept : w.unit.faults = (s.unit p).faults := hwfaults
  have halike : (s.view p).StandsAs w :=
    ⟨hwpool, hwraced, by rw [hwseq]; rfl, by rw [hwseq]; rfl, hwtable, hwtwist, hwdir⟩
  rw [hcontinued] at hpool hunit
  refine ⟨?_, ?_, fun hnew => ?_, fun hlatched => ?_⟩
  · rw [hunit]
    exact PocketView.report_linkLost_latches (by rcases hwrun with h | h <;> rw [h] <;> rfl) env
  · rw [hunit]
    exact PocketView.report_linkLost_attended hwrun (by rw [hwseq]; rfl) env
  · refine State.faultedIntoSafe_of_linkLost (k := c) henv halike hwkept hnew hwrun ?_ ?_ rfl hpool hunit
    · rw [hwseq]
      exact hc
    · exact hopen.imp_right fun h => by rw [hwseq]; exact h
  · rw [PocketView.report_linkLost_of_latched (by rw [hwkept]; exact hlatched)
      (by rcases hwrun with h | h <;> simp [h])] at hpool hunit
    rw [hunit, hpool]
    simp only [PocketView.onUnit_unit, PocketView.onUnit_pool, PocketUnit.checkHeat_seq, PocketUnit.checkHeat_faults, hwseq]
    exact ⟨trivial, hwkept, hwpool⟩

end Entries

end Sys2Proof.Machine

end

section
/-! The statement on the silence timer (11.6), clause by clause. -/

namespace Sys2Proof.Machine

section Clauses

variable {s : State} {p : Pocket} {b : Byte} {c : Checkpoint} {i : SlotNo} {r : PhaseRecord}

/-! ## START (R27) -/

/-- An accepted START that is reported at its entry into RUNNING. -/
theorem PocketView.startChain_reported {env : Env} {v : PocketView} (hexpired : env.silenceExpired = true)
    (hrun : v.unit.seq.run ≠ .running) (hactive : v.unit.seq.work.active = none)
    (hfaults : v.unit.faults = FaultSet.none) (i : SlotNo) (r : PhaseRecord) :
    let w := v.startChain env i r
    (w.unit.seq.run = .safe ∨ w.unit.seq.run = .halted) ∧ w.unit.faults.linkLost = true ∧
      w.unit.notices.faultLatched = true ∧ w.unit.notices.phaseEnd = true ∧ w.unit.heat.IsOff ∧
      ∃ c ∈ w.unit.seq.history, c.slot = i ∧ c.ordinal = 1 ∧ c.outcome = some .faulted := by
  let x := v.startChain env.heard i r
  obtain ⟨-, -, hseq, -, -, hkept, -⟩ := PocketView.started_does env.heard i r v
  have hx : x = _ := PocketView.startChain_quiet (env := env.heard) hactive rfl i r
  have hxrun : x.unit.seq.run = .running := by rw [hx]; simp
  have hxnew : x.unit.faults.linkLost = false := by
    rw [hx]
    simp [PocketUnit.freshMarks, hkept, hfaults, FaultSet.none]
  have hxnewest : x.unit.seq.newest = some
      { slot := i, ordinal := 1, eStart := if r.quals.keepEstimate then v.unit.moist.estimate else none, twistStart := 0,
        outcome := none } := by
    rw [hx]
    simp [PocketUnit.freshMarks, hseq, Sequencer.newest]
  obtain ⟨hsafe, hheat, hraised, hlost⟩ := PocketView.report_linkLost_orders hxnew (.inl hxrun) env
  obtain ⟨hend, hmem⟩ := PocketView.report_linkLost_closes hxnew (.inl hxrun) hxnewest (.inl rfl) env
  dsimp only
  rw [PocketView.startChain_unheard hexpired hrun]
  exact ⟨hsafe, hlost, hraised, hend, hheat, _, hmem, rfl, rfl, rfl⟩

/-! ## Phases that end in HELD (R34) -/

/-- The dry decision at a window's end in RUNNING (R131). -/
theorem State.heldUnheard_of_windowEnd {w : SenseWindow} {e : Nat} (hw : (s.unit p).moist.window = some w)
    (hend : w.length ≤ w.elapsed) (hturned : w.length ≤ w.turning * 2) (hvalid : (s.unit p).moist.valid = true)
    (hrun : (s.unit p).seq.run = .running) (hc : (s.unit p).seq.newest = some c) (hopen : c.outcome = none)
    (hkind : (s.unit p).seq.work.kind = .dry) (htimed : (s.unit p).seq.work.timedOnly = false)
    (he : nextEstimate (s.unit p).seq.work.dry.k (w.weighted / w.totalTicks) (s.unit p).moist.estimate = e)
    (hpast : (s.unit p).seq.work.dry.minTime * 1000000 < (s.unit p).seq.phaseTimer)
    (hmet : e ≤ (s.unit p).seq.work.dry.target * 16)
    (hconfirm : min 15 ((s.unit p).seq.confirm + 1) = (s.unit p).seq.work.dry.confirm)
    (hhold : (s.unit p).seq.work.quals.holdAtEnd = true) (hexpired : s.link.silenceExpired = true) :
    ∃ t : State, exec (.windowEnd p) s = .next t ∧ t.unit (otherPocket p) = s.unit (otherPocket p) ∧ t.temps = s.temps ∧
      t.supply = s.supply ∧ t.link = s.link ∧ s.HeldUnheard t p c := by
  have hdecides : (s.unit p).decides w = true :=
    (PocketUnit.decides_iff w _).mpr ⟨.inl hrun, ⟨c, hc, hopen⟩, hkind, htimed, hturned⟩
  have hestimate : ((s.unit p).moist.takeWindow (s.unit p).seq.work.dry.k w).estimate = some e := by
    rw [← he]
    simp [Moisture.takeWindow, hvalid, SenseWindow.isVoid, hturned, SenseWindow.reading]
  have hcloses : (s.unit p).confirmsDry w = true :=
    (PocketUnit.dryDecision hdecides).1.mpr ⟨hpast, ⟨e, hestimate, hmet⟩, hconfirm⟩
  have hexec : exec (.windowEnd p) s = .next ((s.windowJudged p w).onEvent p fun env => PocketView.endPhase env .dry) := by
    rw [exec_windowEnd_due hw hend, State.endWindow_eq, if_pos hcloses]
  obtain ⟨hother, hpool, htemps, hsupply, hlink, -⟩ := s.windowJudged_keeps p w
  have hjudged : (s.windowJudged p w).unit p = (s.unit p).judgeWindow w := State.windowJudged_unit ..
  have hheld := State.heldUnheard_of_endPhase (s := s.windowJudged p w) (p := p) (c := c) (o := .dry)
    (by rw [hjudged]; exact hc) hopen (by rw [hjudged]; exact hrun) (by rw [hjudged]; exact hhold) rfl
    (by rw [hlink]; exact hexpired)
  have halike : (s.view p).StandsAs ((s.windowJudged p w).view p) := by
    refine ⟨hpool, rfl, ?_, ?_, ?_, ?_, ?_⟩ <;> rw [State.view_unit, hjudged] <;> rfl
  have hfaults : ((s.windowJudged p w).unit p).faults = (s.unit p).faults := by
    rw [hjudged]
    rfl
  exact ⟨_, hexec, (State.onEvent_unit_other ..).trans hother, (State.onEvent_temps ..).trans htemps,
    (State.onEvent_supply ..).trans hsupply, (State.onEvent_link ..).trans hlink,
    hheld.of_standsAs halike hfaults (s.windowJudged_eventEnv p w)⟩

/-- The COOL end at a conversion in RUNNING that reports no SENSOR (R31). -/
theorem State.heldUnheard_of_conversion {count : ConverterCount} {x : Int} (hrun : (s.unit p).seq.run = .running)
    (hc : (s.unit p).seq.newest = some c) (hopen : c.outcome = none) (hkind : (s.unit p).seq.work.kind = .cool)
    (hhold : (s.unit p).seq.work.quals.holdAtEnd = true) (hexpired : s.link.silenceExpired = true)
    (hquiet : (16 ≤ count.toNat ∧ count.toNat < 4080) ∨ (s.temps.channel (exhaustChannel p)).badScans < 2)
    (hx : ((s.temps.channel (exhaustChannel p)).take count.toNat).reading = some x)
    (hle : x ≤ s.temps.coolThreshold (s.unit p).seq.work.cool.endTemp) :
    ∃ t : State, exec (.channelConversion (exhaustChannel p) count) s = .next t ∧
      t.unit (otherPocket p) = s.unit (otherPocket p) ∧ t.supply = s.supply ∧ t.link = s.link ∧ s.HeldUnheard t p c := by
  let x' := s.convert (exhaustChannel p) count.toNat
  have hunit (q : Pocket) : x'.unit q = s.unit q := State.convert_unit ..
  have hview : x'.view p = s.view p := State.convert_view ..
  have hexec : exec (.channelConversion (exhaustChannel p) count) s =
      .next (x'.onEvent p fun env => PocketView.endPhase env .cooled) := by
    rw [exec_channelConversion, State.afterConversion_exhaust_quiet hquiet,
      State.coolTest_of_met (State.convert_coolMet_iff.mpr ⟨.inl hrun, hkind, ⟨c, hc, hopen⟩, x, hx, hle⟩)]
  obtain ⟨-, hsupply, -, -, hlink⟩ := s.afterConversion_shared (exhaustChannel p) count.toNat
  have hheld := State.heldUnheard_of_endPhase (s := x') (p := p) (c := c) (o := .cooled) (by rwa [hunit]) hopen
    (by rwa [hunit]) (by rwa [hunit]) rfl hexpired
  refine ⟨_, hexec, (State.onEvent_unit_other ..).trans (hunit _), State.onEvent_supply .., State.onEvent_link ..,
    hheld.of_standsAs ?_ (by rw [hunit]) (State.convert_eventEnv ..)⟩
  rw [hview]
  exact ⟨rfl, rfl, rfl, rfl, rfl, rfl, rfl⟩

/-! ## RESUME (R41 to R45) -/

/-- A RESUME that continues the phase in RUNNING or HELD. -/
theorem State.resume_continues_unheard (hp : pocketOf b = some p) (hrun : (s.unit p).seq.run = .paused)
    (hdoor : (s.unit p).pins.door = true) (htarget : (s.unit p).seq.resumeTarget = .running)
    (hexpired : s.link.silenceExpired = true) (hc : (s.unit p).seq.newest = some c)
    (hopen : c.outcome = none ∨ (s.unit p).seq.held = true)
    (hlimit : (s.unit p).seq.held = true ∨ (s.unit p).seq.restored = true ∨
      (s.unit p).seq.pauseTimer / 1000000 ≤ s.supply.config.resumeLimit) :
    ∃ t : State, exec (.resume b) s = .next t ∧ s.SameElsewhere t p ∧ t.link = (s.reply 0x12 .ok []).link ∧
      (t.unit p).faults.linkLost = true ∧ (t.unit p).seq.unattended = false ∧
      ((s.unit p).faults.linkLost = false → s.FaultedIntoSafe t p (s.env p) c ((s.unit p).faults.put .linkLost true)) ∧
      ((s.unit p).faults.linkLost = true →
        (t.unit p).seq.run = (if (s.unit p).seq.held then .held else .running) ∧ (t.unit p).faults = (s.unit p).faults ∧
        t.pool = s.pool) := by
  refine ⟨_, exec_resume_accepted hp hrun hdoor, State.onPocket_reply_sameElsewhere .., State.onPocket_reply_link .., ?_⟩
  cases hheld : (s.unit p).seq.held
  · rw [hheld] at hopen hlimit
    have hresume := PocketView.resume_within (v := s.view p) (env := s.env p) htarget hheld (hlimit.resolve_left (by simp))
    refine State.continued_unheard (v := _) (st := .running) (held := (s.unit p).seq.held) (restored := false) rfl hexpired
      hrun (.inl rfl) rfl hc (.inl (hopen.resolve_right (by simp))) ?_ ?_
    · rw [State.reply_pool, State.onPocket_pool, hresume]
      rfl
    · rw [State.reply_unit, State.onPocket_unit, hresume]
      rfl
  · have hresume := PocketView.resume_of_held (v := s.view p) htarget hheld (s.env p)
    refine State.continued_unheard (v := _) (st := .held) (held := false) (restored := (s.unit p).seq.restored) rfl hexpired
      hrun (.inr rfl) rfl hc (.inr rfl) ?_ ?_
    · rw [State.reply_pool, State.onPocket_pool, hresume]
      rfl
    · rw [State.reply_unit, State.onPocket_unit, hresume]
      rfl

/-- A RESUME past the limit that retries the phase. -/
theorem State.resume_retries_unheard (hp : pocketOf b = some p) (hrun : (s.unit p).seq.run = .paused)
    (hdoor : (s.unit p).pins.door = true) (htarget : (s.unit p).seq.resumeTarget = .running)
    (hexpired : s.link.silenceExpired = true) (hc : (s.unit p).seq.newest = some c) (hheld : (s.unit p).seq.held = false)
    (hrestored : (s.unit p).seq.restored = false)
    (hlimit : s.supply.config.resumeLimit < (s.unit p).seq.pauseTimer / 1000000)
    (hretry : (s.unit p).seq.work.quals.retryAllowed = true) (hr : s.pool[c.slot].record? = some r) :
    ∃ t : State, exec (.resume b) s = .next t ∧ s.SameElsewhere t p ∧ t.link = (s.reply 0x12 .ok []).link ∧
      s.RunningUnheard t p c.slot := by
  have hresume := PocketView.resume_past (v := s.view p) (env := s.env p) htarget hheld hrestored hlimit
  have hqual : (s.view p).unit.seq.work.quals.retryAllowed = true := hretry
  rw [if_pos hqual] at hresume
  refine ⟨_, exec_resume_accepted hp hrun hdoor, State.onPocket_reply_sameElsewhere .., State.onPocket_reply_link ..,
    State.runningUnheard_of_retry (env := s.env p) (v := (s.view p).onUnit PocketUnit.leavePause) hexpired ?_ hc hr rfl ?_⟩
  · exact fun h => nomatch hrun.symm.trans h
  · rw [State.reply_unit, State.onPocket_unit, hresume]

/-- A RESUME past the limit that abandons the phase and goes on along next. -/
theorem State.resume_advances_unheard (hp : pocketOf b = some p) (hrun : (s.unit p).seq.run = .paused)
    (hdoor : (s.unit p).pins.door = true) (htarget : (s.unit p).seq.resumeTarget = .running)
    (hexpired : s.link.silenceExpired = true) (hheld : (s.unit p).seq.held = false)
    (hrestored : (s.unit p).seq.restored = false)
    (hlimit : s.supply.config.resumeLimit < (s.unit p).seq.pauseTimer / 1000000)
    (hretry : (s.unit p).seq.work.quals.retryAllowed = false) (hnext : (s.unit p).seq.work.next = some i)
    (hcheck : ((s.view p).release p).check i = .ok r) :
    ∃ t : State, exec (.resume b) s = .next t ∧ s.SameElsewhere t p ∧ t.link = (s.reply 0x12 .ok []).link ∧
      s.RunningUnheard t p i := by
  have hresume := PocketView.resume_past (v := s.view p) (env := s.env p) htarget hheld hrestored hlimit
  have hqual : ¬(s.view p).unit.seq.work.quals.retryAllowed = true := Bool.eq_false_iff.mp hretry
  rw [if_neg hqual] at hresume
  have hseq := PocketView.abandoned_seq (s.view p)
  have habandonedRun : (s.view p).abandoned.unit.seq.run = .paused := by rw [hseq]; exact hrun
  have hchecks : (s.view p).ChecksAs (s.view p).abandoned :=
    ⟨rfl, rfl, by rw [hseq], by simp [PocketView.abandoned, PocketUnit.leavePause]⟩
  refine ⟨_, exec_resume_accepted hp hrun hdoor, State.onPocket_reply_sameElsewhere .., State.onPocket_reply_link ..,
    State.runningUnheard_of_advance (env := s.env p) (v := (s.view p).abandoned) (r := r) hexpired ?_ (by simp [habandonedRun])
      (by simp [habandonedRun]) ?_ ?_ ?_⟩
  · rw [hseq]
    exact hnext
  · rwa [hchecks.vacate_check, State.view_vacate_env]
  · simp [PocketView.abandoned, PocketUnit.leavePause]
  · rw [State.reply_unit, State.onPocket_unit, hresume]
    rfl

/-! ## BACKSTEP from HELD (R63) -/

theorem State.backstep_unheard {k : Byte} (hp : pocketOf b = some p) (hk : k.toNat ≤ 7)
    (hrun : (s.unit p).seq.run = .held) (hc : (s.unit p).seq.history.reverse[k.toNat]? = some c)
    (hslot : (s.pool[c.slot] = .loaded r ∧ (s.unit p).seq.work.active ≠ some c.slot) ∨ s.pool[c.slot] = .active p r)
    (hsegment : r.segFirst ≤ r.segLast)
    (hwritten : ∀ j : EntryNo, r.segFirst ≤ j → j ≤ r.segLast → (s.unit p).drum.table[j].written = true)
    (hexpired : s.link.silenceExpired = true) :
    ∃ t : State, exec (.backstep b k) s = .next t ∧ s.SameElsewhere t p ∧ t.link = (s.reply 0x14 .ok []).link ∧
      t.pool[c.slot] = .active p r ∧ (t.unit p).seq.run = .paused ∧ (t.unit p).seq.resumeTarget = .safe ∧
      (t.unit p).seq.held = false ∧ (t.unit p).seq.restored = false ∧ (t.unit p).seq.unattended = true ∧
      (t.unit p).seq.doorClosedFor = 0 ∧ (t.unit p).seq.newest = some { c with outcome := some .faulted } ∧
      (t.unit p).notices.phaseEnd = true ∧ (t.unit p).faults = (s.unit p).faults.put .linkLost true ∧
      (t.unit p).heat.IsOff ∧ (t.unit p).drum.order = .stop ∧ (t.unit p).drum.runOutput = false := by
  have htarget : s.backstepTarget p k.toNat = some (c, r) :=
    State.backstepTarget_eq_some.mpr ⟨hc, (segmentUsable_iff _ _).mpr ⟨hsegment, hwritten⟩, hslot.imp_left And.left⟩
  let env := s.env p
  let w := (s.view p).backstep env.heard k.toNat c r
  have hunheard : (s.view p).backstep env k.toNat c r = w.report env .linkLost :=
    PocketView.backstep_unheard hexpired (fun h => nomatch hrun.symm.trans h)
  obtain ⟨hpool, hseq, -, -, -, -, -, horder, hoff, -⟩ :=
    PocketView.backstep_does (v := s.view p) (env := env.heard) (k := k.toNat) (c := c) (r := r)
      (fun hactive => hslot.resolve_left fun h => h.2 hactive) (.inl rfl)
  have hfaults := PocketView.backstep_faults (v := s.view p) (env := env.heard) (k := k.toNat) (c := c) (r := r) rfl
  change w.unit.seq = _ at hseq
  have hpaused : w.unit.seq.run = .paused := by rw [hseq]
  have hnewest : w.unit.seq.newest = some { c with outcome := none } := by
    rw [hseq]
    exact setOutcome_getLast? (getLast?_take_of_reverse hc) none
  obtain ⟨hpool', hrun', htarget', hmark, hcount, hlost, hheat, hdrum, -⟩ :=
    PocketView.report_linkLost_unattended hpaused env
  obtain ⟨hheld, hrestored, hclosed, hend⟩ :=
    PocketView.report_linkLost_closes_paused hpaused (by rw [hseq]) hnewest rfl env
  refine ⟨_, exec_backstep_accepted hp hk (.inl hrun) htarget, State.onPocket_reply_sameElsewhere ..,
    State.onPocket_reply_link .., ?_⟩
  rw [State.reply_unit, State.reply_pool, State.onPocket_pool, State.onPocket_unit,
    show (s.view p).backstep (s.env p) k.toNat c r = _ from hunheard, hpool', hdrum, hlost]
  exact ⟨hpool, hrun', htarget', hheld, hrestored, hmark, hcount, hclosed, hend, congrArg (FaultSet.put · _ _) hfaults, hheat,
    horder, hoff⟩

end Clauses

/-- Settles O52: the expiry, and the entries into PAUSED, RUNNING and HELD that are reported. -/
theorem silenceReportsLinkLost : Obligations.SilenceReportsLinkLost := by
  unfold Obligations.SilenceReportsLinkLost
  refine ⟨fun s hexpired hsilence => ?expiry, fun s h => exec_silenceTimerExpiry_notDue h,
    fun b p s hp hrun hexpired => ?pause, fun p s hdoor hrun hexpired => ?door,
    fun pb sb p i r s hp hi hrun hactive hconfigured hanchor hfaults hdoor hcal hcheck hexpired => ?start,
    fun p c s hrun hc hopen htimer hhold hexpired => ?phaseTimer,
    fun p w c e s hw hend hturned hvalid hrun hc hopen hkind htimed he hpast hmet hconfirm hhold hexpired =>
      State.heldUnheard_of_windowEnd hw hend hturned hvalid hrun hc hopen hkind htimed he hpast hmet hconfirm hhold hexpired,
    fun p count c x s hrun hc hopen hkind hhold hexpired hquiet hx hle =>
      State.heldUnheard_of_conversion hrun hc hopen hkind hhold hexpired hquiet hx hle,
    fun b p c s hp hrun hdoor htarget hexpired hc hopen hlimit =>
      State.resume_continues_unheard hp hrun hdoor htarget hexpired hc hopen hlimit,
    fun b p c s hp hrun hdoor htarget hexpired hc hopen hheld hrestored hlimit =>
      ⟨fun r hretry hr => State.resume_retries_unheard hp hrun hdoor htarget hexpired hc hheld hrestored hlimit hretry hr,
        fun i r hretry hnext hcheck =>
          State.resume_advances_unheard hp hrun hdoor htarget hexpired hheld hrestored hlimit hretry hnext hcheck⟩,
    fun b p i r s hp hrun hnext hcheck hexpired => ?advance,
    fun b k p c r s hp hk hrun hc hslot hsegment hwritten hexpired =>
      State.backstep_unheard hp hk hrun hc hslot hsegment hwritten hexpired⟩
  case expiry =>
    obtain ⟨hlink, htemps, hsupply, hdevice, htrend, hprescale, hpending⟩ := s.expireSilence_keeps
    exact ⟨_, exec_silenceTimerExpiry_due hexpired hsilence, hlink, htemps, hsupply, hdevice, htrend, hprescale, hpending,
      s.expireSilence_does⟩
  case pause =>
    obtain ⟨hpaused, htarget, hmark, hcount, hfaults, hheat, hstopped, -⟩ :=
      PocketView.enterPaused_reported (v := s.view p) (env := s.env p) hexpired hrun
    refine ⟨_, exec_pause_accepted hp hrun, State.onPocket_reply_sameElsewhere .., ?_⟩
    rw [State.reply_unit, State.onPocket_unit, hfaults]
    exact ⟨hpaused, htarget, hmark, hcount, rfl, hheat, hstopped, fun h => FaultSet.put_linkLost_of_latched h⟩
  case door =>
    obtain ⟨hpaused, htarget, hmark, hcount, hfaults, hheat, hstopped, hpins⟩ :=
      PocketView.enterPaused_reported (v := (s.view p).onUnit (PocketUnit.setDoor false)) (env := s.env p) hexpired hrun
    refine ⟨_, exec_doorOpening_asserted hdoor, State.onPocket_sameElsewhere .., State.onPocket_link .., ?_⟩
    rw [State.onPocket_unit, PocketView.openDoor_of_drives (v := s.view p) hrun, hfaults, hpins]
    exact ⟨hpaused, htarget, hmark, hcount, rfl, rfl, hheat, hstopped⟩
  case start =>
    have hreleased : (s.view p).release p = s.view p := PocketView.release_of_inactive hactive p
    have hne : (s.view p).unit.seq.run ≠ .running := by rcases hrun with h | h <;> simp [h]
    have hstarted := PocketView.startChain_reported (env := s.env p) (v := s.view p) hexpired hne hactive hfaults i r
    refine ⟨_, exec_start_accepted hp hi (State.startRefusal_none hrun hconfigured hanchor hfaults hdoor hcal)
      (by rwa [hreleased]), State.onPocket_reply_sameElsewhere .., State.onPocket_reply_link .., ?_⟩
    rw [State.reply_unit, State.onPocket_unit]
    exact hstarted
  case phaseTimer =>
    exact ⟨_, exec_phaseTimerExpiry_due (.inl hrun) hc hopen htimer, State.onEvent_sameElsewhere .., State.onEvent_link ..,
      State.heldUnheard_of_endPhase hc hopen hrun hhold (WorkingSet.expiryOutcome_holds _) hexpired⟩
  case advance =>
    refine ⟨_, exec_advance_held hp hrun, State.onPocket_reply_sameElsewhere .., State.onPocket_reply_link ..,
      State.runningUnheard_of_advance (env := s.env p) (v := s.view p) (r := r) hexpired hnext (by simp [hrun])
        (by simp [hrun]) (by rwa [State.view_vacate_env]) rfl ?_⟩
    rw [State.reply_unit, State.onPocket_unit]

end Sys2Proof.Machine

end
